-- ==== Sys2Proof/Word.lean ====
section
/-! DEFINITION. The bit-vector types of the Nohzel 412: bytes of frames and records, 16-bit fields, 32-bit positions, 42-bit fine
positions (R59) and 3-bit station numbers (spec/02, "Tags and kinds"). -/

namespace Sys2Proof

/-- One data character of a frame or one byte of the configuration record (R19, R170). -/
abbrev Byte := BitVec 8

/-- A 16-bit field of a message or record (spec/13). -/
abbrev Half := BitVec 16

/-- A position in line units, counted modulo 2^32 (R57), or any other 32-bit field of a message. -/
abbrev Word := BitVec 32

/-- A channel's fine position, in 1/1,024 lu modulo 2^42 (R59). -/
abbrev Fine := BitVec 42

/-- A station number, 0 to 7; number 7 is the line console (spec/00, "Station roles"). -/
abbrev Station := BitVec 3

/-- The line console's station number. -/
abbrev consoleStation : Station := 7#3

end Sys2Proof
end

