-- ==== Sys2Proof/Syntax.lean ====
section
/-! DEFINITION. The commands of the Nohzel 412: one constructor for each row of spec/opcode_table.json, with the operands that say
what the environment did (log 2). -/

namespace Sys2Proof

/-- An encoder channel of the field port (R165). -/
inductive EncChannel
  | ch0 | ch1
  deriving DecidableEq, Repr

/-- One of the two lines of a quadrature encoder (R58). -/
inductive EncLine
  | a | b
  deriving DecidableEq, Repr

/-- A pair of accepted or sampled levels of an encoder channel (R58). -/
structure Levels where
  a : Bool
  b : Bool
  deriving DecidableEq, Repr

/-- One character as the receiver samples it: its eight data bits, its mark bit and its stop bit (R19). -/
structure LinkChar where
  data : Byte
  mark : Bool
  stop : Bool
  deriving DecidableEq, Repr

/-- One character of the sensor link, with its stop bit (R169). -/
structure SensorChar where
  data : Byte
  stop : Bool
  deriving DecidableEq, Repr

/-- The four characters of a complete sensor report (R169). -/
structure SensorReport where
  channel : Byte
  low : Byte
  high : Byte
  status : Byte
  deriving DecidableEq, Repr

/-- What comes on the sensor link in one command (R169): the µs of idle line before its characters, and the characters. -/
structure SensorBurst where
  idle : Nat
  chars : List SensorChar
  deriving DecidableEq, Repr

/-- A run of agreeing samples of a digital input (R167): the input's number, the level the pin reads in them (true for high), their
number. -/
structure PinRun where
  input : Nat
  high : Bool
  samples : Nat
  deriving DecidableEq, Repr

/-- What the field port has sampled in a command of an input that becomes active (R167): the samples of that input that agreed on the
inactive level (its release), those that agree on the active one after them (which level of the pin is active: Machine.activeHigh), and
the runs of other inputs. The table has no row for the
release of inputs 3 to 5 and 8, nor for a change of an unused input: they come here (log 11). -/
structure Rise where
  released : Nat
  samples : Nat
  others : List PinRun
  deriving DecidableEq, Repr

/-- An unwind arm of the SUPPLY (R127). -/
inductive ArmName
  | a | b
  deriving DecidableEq, Repr

/-- A stroke output of the HEAD (R116, R165). -/
inductive Side
  | left | right
  deriving DecidableEq, Repr

/-- One command: a row of spec/opcode_table.json. `samples` is the run of agreeing samples behind a change of level, `sender` and
`payload` are a good frame's tag sender and payload bytes, `bit` is the bit of the frame at which a read-back mismatch came. -/
inductive Instr
  | powerOn
  | configurationReadComplete (record : Vector Byte 150) (levels0 : Levels) (levels1 : Levels)
  | configurationTimerExpiry
  | configFaultRepeatTimerExpiry
  | restart (rise : Rise)
  | eStopBecomesActive (samples : Nat)
  | eStopBecomesInactive (samples : Nat)
  | webBreakBecomesActive (samples : Nat)
  | webBreakBecomesInactive (samples : Nat)
  | lineStopPatternEnd (bits : Nat)
  | stopHeard (run : Nat)
  | quietTimerExpiry
  | runState (sender : Station) (payload : List Byte)
  | consoleSilenceTimerExpiry
  | neighbourSilenceTimerExpiry
  | frameStart
  | transmitStart
  | frameWithdrawn (bit : Nat)
  | frameCancelled (bit : Nat)
  | frameComplete
  | brokenFrame (chars : List LinkChar)
  | position (sender : Station) (payload : List Byte)
  | ceiling (sender : Station) (payload : List Byte)
  | lapseTimerExpiry (station : Station)
  | panelPassStart (sender : Station) (payload : List Byte)
  | panelPassEnd (sender : Station) (payload : List Byte)
  | seamAtHead (sender : Station) (payload : List Byte)
  | seamAtSetter (sender : Station) (payload : List Byte)
  | seamSlot (sender : Station) (payload : List Byte)
  | panelOrder (sender : Station) (payload : List Byte)
  | orderCancel (sender : Station) (payload : List Byte)
  | patternBlock (sender : Station) (payload : List Byte)
  | patternCommit (sender : Station) (payload : List Byte)
  | patternClear (sender : Station) (payload : List Byte)
  | rollLoad (sender : Station) (payload : List Byte)
  | setpoint (sender : Station) (payload : List Byte)
  | answerWait (sender : Station) (payload : List Byte)
  | answerBusy (sender : Station) (payload : List Byte)
  | answerDone (sender : Station) (payload : List Byte)
  | answerRefused (sender : Station) (payload : List Byte)
  | repeatTimerExpiry (entry : Nat)
  | holdTimerExpiry (requester : Station) (id : Byte)
  | encoderCount (channel : EncChannel) (line : EncLine) (samples : Nat)
  | speedTimerExpiry
  | keepAliveTimerExpiry
  | rampTimerExpiry
  | postingTimerExpiry
  | feedTimerExpiry
  | bladeHomeBecomesActive (rise : Rise)
  | bladeHomeTimerExpiry
  | strokePulseEnd (side : Side)
  | supplyTimerExpiry
  | pressDone (rise : Rise)
  | pressTimerExpiry
  | armReadyBecomesActive (arm : ArmName) (rise : Rise)
  | threadingTimerExpiry (arm : ArmName)
  | festoonReading (burst : SensorBurst)
  | festoonHoldTimerExpiry
  | rollStateTimerExpiry
  | zoneReport (burst : SensorBurst)
  | zoneHoldTimerExpiry (zone : Nat)
  | sampleTimerExpiry
  | stalenessTimerExpiry (channel : Nat)
  | sensorReportDropped (burst : SensorBurst)
  | busIdle (recessive : Nat)
  | bothAcceptedLevelsChange (channel : EncChannel) (samples : Nat)
  | pwmPeriodStart
  deriving DecidableEq, Repr

end Sys2Proof
end

