-- ==== Sys2Proof/Config.lean ====
section
/-! DEFINITION. What is fixed for one Nohzel 412: its configuration quantities (R2, spec/01), the fixed times and sizes of the
part, and the free values of what the spec leaves open (log 22). -/

namespace Sys2Proof

/-- The three roles of a station (spec/01, section 1.1). -/
inductive Role
  | supply | head | setter
  deriving DecidableEq, Repr

/-- One point of the dwell table: a temperature in 0.1 °C and a dwell in 0.1 s (R2, field 42). -/
structure DwellPoint where
  temp : Int
  dwell : Nat
  deriving DecidableEq, Repr

/-- The configuration quantities of R2, by field number, with the defaults already in place. -/
structure Cfg where
  /-- 1 -/ number : Station
  /-- 2 -/ role : Role
  /-- 3, bit s for station s (spec/13, 13.6) -/ members : Byte
  /-- 4 -/ neighbour : Station
  /-- 5 -/ source : Station
  /-- 6, lu -/ pathSource : Nat
  /-- 7, lu -/ pathHead : Nat
  /-- 8 -/ lineEnd : Bool
  /-- 9, lu per 1,024 counts -/ scale0 : Nat
  /-- 10 -/ scale1 : Nat
  /-- 11, samples -/ deglitch : Nat
  /-- 12 -/ cadenceBit : Nat
  /-- 13, ms -/ silenceLimit : Nat
  /-- 14, ms -/ repeatInterval : Nat
  /-- 15 -/ attemptLimit : Nat
  /-- 16, ms -/ answerHold : Nat
  /-- 17, ms -/ ceilingHold : Nat
  /-- 18, su/s -/ accel : Nat
  /-- 19, su/s -/ decel : Nat
  /-- 20, su/s -/ emergencyDecel : Nat
  /-- 21, su -/ outfeedMax : Nat
  /-- 22, su -/ infeedMax : Nat
  /-- 23, su -/ unwindMax : Nat
  /-- 24, 0.1 strokes/s -/ strokeRateMax : Nat
  /-- 25, lu -/ commitLead : Nat
  /-- 26, lu -/ slipLimit : Nat
  /-- 27, ms -/ bladeTimeout : Nat
  /-- 28, lu -/ festoonCapacity : Nat
  /-- 29, lu -/ runTarget : Nat
  /-- 30, lu -/ fillTarget : Nat
  /-- 31, lu, signed in the record -/ emptyLimit : Int
  /-- 32, lu -/ requestThreshold : Nat
  /-- 33, lu -/ runoutReserve : Nat
  /-- 34, lu -/ minSpliceLead : Nat
  /-- 35, lu -/ seamLength : Nat
  /-- 36, lu -/ slotMargin : Nat
  /-- 37, ms -/ spliceDuration : Nat
  /-- 38, su/s -/ spliceDecel : Nat
  /-- 39, ms -/ pressTimeout : Nat
  /-- 40, lu -/ chestLength : Nat
  /-- 41 -/ zoneCount : Nat
  /-- 42, eight points -/ dwell : List DwellPoint
  /-- 43, 0.1 °C -/ band : Nat
  /-- 44, 0.1 °C -/ hardLimit : Int
  /-- 45 -/ kp : Nat
  /-- 46 -/ ki : Nat
  /-- 47 -/ integralLimit : Nat
  /-- 48, ms -/ standstillLimit : Nat
  /-- 49, lu -/ windowAhead : Nat
  deriving DecidableEq, Repr

/-- Quantities of no station: what the accessors read while no valid record has been taken (they are then used by no rule). -/
def Cfg.blank : Cfg where
  number := 0; role := .supply; members := 0; neighbour := 0; source := 0; pathSource := 0; pathHead := 0
  lineEnd := false; scale0 := 0; scale1 := 0; deglitch := 0; cadenceBit := 0; silenceLimit := 0; repeatInterval := 0
  attemptLimit := 0; answerHold := 0; ceilingHold := 0; accel := 0; decel := 0; emergencyDecel := 0; outfeedMax := 0
  infeedMax := 0; unwindMax := 0; strokeRateMax := 0; commitLead := 0; slipLimit := 0; bladeTimeout := 0
  festoonCapacity := 0; runTarget := 0; fillTarget := 0; emptyLimit := 0; requestThreshold := 0; runoutReserve := 0
  minSpliceLead := 0; seamLength := 0; slotMargin := 0; spliceDuration := 0; spliceDecel := 0; pressTimeout := 0
  chestLength := 0; zoneCount := 0; dwell := []; band := 0; hardLimit := 0; kp := 0; ki := 0; integralLimit := 0
  standstillLimit := 0; windowAhead := 0

namespace Config

/-- Configuration timer, ms (R3). -/
abbrev configurationMs : Nat := 50
/-- CONFIG FAULT repeat timer, ms (R5). -/
abbrev configFaultRepeatMs : Nat := 1000
/-- Quiet timer, ms (R14). -/
abbrev quietMs : Nat := 500
/-- Speed timer, ramp timer, feed timer and supply timer, ms (R61, R78, R102, R131). -/
abbrev tenMs : Nat := 10
/-- Keep-alive timer, posting timer and sample timer, ms (R70, R83, R161). -/
abbrev hundredMs : Nat := 100
/-- Roll state timer, ms (R141). -/
abbrev rollStateMs : Nat := 250
/-- Festoon hold timer, ms (R130). -/
abbrev festoonHoldMs : Nat := 500
/-- Threading timer, ms (R128). -/
abbrev threadingMs : Nat := 60000
/-- Zone hold timer, ms (R144). -/
abbrev zoneHoldMs : Nat := 2000
/-- Sensor channel staleness timer, ms (R169). -/
abbrev stalenessMs : Nat := 500
/-- Stroke pulse, ms (R168). -/
abbrev strokePulseMs : Nat := 5

/-- Entries of the outbound queue (R38). -/
abbrev queueSize : Nat := 12
/-- Entries of the pending request table, the delayed answer table and the answered list (R48, R49). -/
abbrev tableSize : Nat := 4
/-- Transmit failures that drop a frame (R26). -/
abbrev failureLimit : Nat := 3
/-- PANEL records the panel queue takes (R110). -/
abbrev panelPlaces : Nat := 30
/-- Entries of the seam list (R121). -/
abbrev seamPlaces : Nat := 4
/-- Spans of a web map (R156). -/
abbrev mapPlaces : Nat := 24
/-- Step places of a pattern slot (R85). -/
abbrev stepPlaces : Nat := 48
/-- Clamp of the registration slew, lu (R66). -/
abbrev slewClamp : Int := 50
/-- Registration error that counts toward REGISTRATION LOST, lu (R67). -/
abbrev errorLimit : Nat := 2000
/-- Recessive bit times that make the bus IDLE (R20). -/
abbrev idleBits : Nat := 12
/-- Dominant bit times that are a stop heard (R29). -/
abbrev stopBits : Nat := 40
/-- Dominant bit times of the LINE STOP pattern (R28). -/
abbrev patternBits : Nat := 64
/-- Bits of one character, so of the tag character (R19). -/
abbrev charBits : Nat := 11
/-- Agreeing samples of a digital input (R167). -/
abbrev inputSamples : Nat := 3
/-- Idle line that begins a report on the sensor link, µs (R169). -/
abbrev reportGapUs : Nat := 300
/-- Characters of a report on the sensor link (R169). -/
abbrev reportChars : Nat := 4
/-- Firings of position watches that one step delivers at most (log 12; no lawful state comes near it). -/
abbrev watchFuel : Nat := 65536

/-- FREE VALUE (log 22): a 32-bit value the spec does not state; nothing is known of it. The argument is the state's count of
free values taken so far. -/
opaque freeWord : Nat → Word

end Config
end Sys2Proof
end

