-- ==== Sys2Proof/Machine/State.lean ====
section
/-! DEFINITION. The state of the Nohzel 412: every register, table, queue, timer, mark and output the spec names (INVENTORY.md lists
them with their rules), as plain data, and the state after power-on. Reset values the spec does not give are in log 23. -/

namespace Sys2Proof.Machine

/-- A timer: `none` when stopped or idle, `some ms` when running, with the length it was last started with (log 3). -/
abbrev Timer := Option Nat

/-! ## Names and codes (spec/13, section 13.2) -/

/-- The station states of spec/01, section 1.4. -/
inductive StationState
  | config | configFault | listen | ready | running | stopping | halted
  deriving DecidableEq, Repr

/-- The fault codes of R17. -/
inductive FaultCode
  | configBad | consoleSilent | neighbourSilent | registrationLost | eStop | webBreak | bladeJam | strokeOverrun | pleatSlip
  | rollRunout | noSpareRoll | festoonEmpty | festoonSensorLost | pressTimeout | overtemp | sensorLost | mapOverflow
  | linkOverrun | linkTransmit | requestUndelivered | haltHeard
  deriving DecidableEq, Repr

/-- The reasons of a CEILING notice (R82); `unlisted` is a received code that section 13.2 does not list (R170). -/
inductive Reason
  | notRunning | outfeedMax | infeed | stroke | unwindMax | splice | dwell | cold | noZone | sensorLost
  | unlisted (code : Byte)
  deriving DecidableEq, Repr

/-- The request codes of spec/03, section 3.3. -/
inductive ReqCode
  | seamSlot | panelOrder | orderCancel | patternBlock | patternCommit | patternClear | rollLoad | setpoint
  deriving DecidableEq, Repr

/-- The refusal reasons of spec/13, section 13.2. -/
inductive RefusalReason
  | noPattern | badGrade | queueFull | duplicate | inUse | badStep | patternInvalid | armBusy | notThreaded | badZone
  | wrongRole | notAllowed | badLength
  deriving DecidableEq, Repr

/-- The arm states of R127. -/
inductive ArmState
  | empty | loading | loaded | running | expired
  deriving DecidableEq, Repr

/-- The splice states of spec/09, section 9.5. -/
inductive SpliceState
  | run | requesting | noSlot | slotted | filling | armed | pressing | accelerating
  deriving DecidableEq, Repr

/-- The outcome field of a PANEL PASS END (R163, section 13.2). -/
inductive Verdict
  | none | set | underset | overset
  deriving DecidableEq, Repr

/-- The reported verdict of a PANEL PASS END (R163, section 13.2). -/
inductive Reported
  | none | halt | seam | pleat | noEnd | overset | underset | set
  deriving DecidableEq, Repr

/-- The panel flags byte's six listed bits (section 13.2). `used` and `emergency` belong to GAPs. -/
structure PanelFlags where
  seam : Bool := false
  pleat : Bool := false
  halt : Bool := false
  noEnd : Bool := false
  used : Bool := false
  emergency : Bool := false
  deriving DecidableEq, Repr

/-! ## Messages (spec/13, sections 13.3 to 13.5) -/

/-- The fault record, and the contents of a FAULT notice (R17). -/
structure FaultRecord where
  code : FaultCode
  detail : Half
  stateAt : StationState
  deriving DecidableEq, Repr

/-- The contents of a CEILING notice (R82). -/
structure CeilingMsg where
  value : Nat
  flat : Bool
  reason : Reason
  deriving DecidableEq, Repr

/-- The contents of a PANEL PASS START (R114, R160). -/
structure PassStart where
  isGap : Bool
  id : Half
  slot : Byte
  grade : Byte
  start : Word
  length : Word
  flags : PanelFlags
  deriving DecidableEq, Repr

/-- The contents of a PANEL PASS END (R115, R162). -/
structure PassEnd where
  isGap : Bool
  id : Half
  flags : PanelFlags
  outcome : Verdict
  reported : Reported
  deriving DecidableEq, Repr

/-- The contents of a SEAM notice (R121, R140, R158, R162). -/
structure SeamMsg where
  pos : Word
  length : Word
  emergency : Bool
  unplaced : Bool
  margin : Word
  deriving DecidableEq, Repr

/-- The contents of a ROLL STATE notice (R141). -/
structure RollStateMsg where
  running : Option ArmName
  remaining : Nat
  content : Nat
  splice : SpliceState
  other : ArmState
  deriving DecidableEq, Repr

/-- A step record as a PATTERN BLOCK gives it, every field as received (R86). -/
structure StepRec where
  fold : Byte
  direction : Byte
  pitch : Half
  increment : Half
  depth : Half
  repeats : Byte
  deriving DecidableEq, Repr

/-- A request's code with its parameters (section 13.4). -/
inductive ReqBody
  | seamSlot (length margin : Word)
  | panelOrder (firstId : Half) (count pattern grade : Byte)
  | orderCancel (firstId : Half) (count : Byte)
  | patternBlock (pattern first : Byte) (record1 : StepRec) (record2 : Option StepRec)
  | patternCommit (pattern count : Byte)
  | patternClear (pattern : Byte)
  | rollLoad (arm : Byte) (roll length : Half)
  | setpoint (zone : Byte) (temperature : Half)
  deriving DecidableEq, Repr

/-- A request frame this station sends (R44). `entry` is the pending entry it was queued from; it is not on the line, and tells the copies
of two requests of one id apart (log 41). -/
structure RequestMsg where
  id : Byte
  target : Station
  body : ReqBody
  entry : Nat
  deriving DecidableEq, Repr

/-- A final answer: DONE with its result value, or REFUSED with its reason, step index and cause (R47). -/
inductive Final
  | done (value : Word)
  | refused (reason : RefusalReason) (step cause : Byte)
  deriving DecidableEq, Repr

/-- What an answer says: WAIT, BUSY or a final answer. -/
inductive AnswerBody
  | wait | busy
  | final (f : Final)
  deriving DecidableEq, Repr

/-- An answer frame this station sends. `code` is the request's code; it is not sent, and tells copies of one answer from another
answer under the same id (log 29). -/
structure AnswerMsg where
  id : Byte
  requester : Station
  code : ReqCode
  body : AnswerBody
  deriving DecidableEq, Repr

/-- A frame of the outbound queue. A POSITION has no contents until it starts (R69). -/
inductive Frame
  | position
  | ceiling (m : CeilingMsg)
  | passStart (m : PassStart)
  | passEnd (m : PassEnd)
  | seam (m : SeamMsg)
  | rollState (m : RollStateMsg)
  | fault (m : FaultRecord)
  | request (m : RequestMsg)
  | answer (m : AnswerMsg)
  deriving DecidableEq, Repr

/-! ## Station Control (spec/01) -/

/-- Station Control's own state besides the station state, the configuration and the fault record. -/
structure Control where
  /-- R6 -/ consoleHeard : Bool
  /-- R6 -/ neighbourHeard : Bool
  /-- R12 -/ lastClear : Option Byte
  /-- R12 -/ entryClear : Option Byte
  /-- R3 -/ configTimer : Timer
  /-- R5 -/ repeatTimer : Timer
  /-- R14, R16 -/ quiet : Timer
  deriving DecidableEq, Repr

/-! ## Link Interface (spec/02) -/

/-- The bus condition of R20. -/
inductive Bus
  | busy | idle
  deriving DecidableEq, Repr

/-- The transmitter conditions of spec/02, section 2.4. -/
inductive TxCond
  | waiting | sendingTag | sendingBody | sendingStop
  deriving DecidableEq, Repr

/-- An accept table entry (R30, R33). -/
inductive Accept
  | off | take | watch
  deriving DecidableEq, Repr

/-- The positions latched at the dominant edge that begins a frame (R64). -/
structure Latch where
  ch0 : Word
  ch1 : Word
  ref : Word
  map : Word
  deriving DecidableEq, Repr

/-- The Link Interface. `wire` holds the characters of the frame in flight (R21, R22). -/
structure Link where
  /-- R20 -/ bus : Bus
  /-- R24 -/ tx : TxCond
  /-- R21 -/ wire : List LinkChar
  /-- R33 -/ accept : Vector Accept 128
  /-- R31 -/ broken : Nat
  /-- R35 -/ consoleSilence : Timer
  /-- R35 -/ neighbourSilence : Timer
  /-- R64 -/ latch : Option Latch
  deriving DecidableEq, Repr

/-! ## Message Unit (spec/03) -/

/-- Whether an entry's frame is in flight (R24); `passing` when it was chosen by the fourth line of R43, `replaced` when a newer
frame of its kind has taken its place in the entry meanwhile (R27). -/
inductive Flight
  | waiting
  | inFlight (passing replaced : Bool)
  deriving DecidableEq, Repr

/-- An entry of the outbound queue (R38). The entry time is the entry's place in the list, oldest first (log 7). -/
structure QEntry where
  frame : Frame
  failures : Nat
  flight : Flight
  deriving DecidableEq, Repr

/-- The block that asked for a request (spec/03, section 3.4); the SUPPLY's Supply Unit is the only one (R44). -/
inductive Owner
  | supplyUnit
  deriving DecidableEq, Repr

/-- An entry of the pending request table (spec/03, section 3.4); `entry` says which of the four it is (log 35). Its unsent mark is in
`Msg.unsent`. -/
structure PendingReq where
  entry : Nat
  id : Byte
  target : Station
  body : ReqBody
  attempts : Nat
  owner : Owner
  timer : Timer
  deriving DecidableEq, Repr

/-- An entry of the delayed answer table (spec/03, section 3.5): PENDING while `result` is `none`, else COMPLETE. -/
structure Delayed where
  requester : Station
  id : Byte
  body : ReqBody
  result : Option Final
  hold : Timer
  deriving DecidableEq, Repr

/-- An entry of the answered list (R48). Its unsent mark is in `Msg.unsent`. -/
structure Answered where
  requester : Station
  id : Byte
  code : ReqCode
  final : Final
  deriving DecidableEq, Repr

/-- The record that carries an unsent mark (R41): an entry of the pending request table, or an answered list entry. -/
inductive UnsentRef
  | request (entry : Nat)
  | answer (requester : Station) (id : Byte)
  deriving DecidableEq, Repr

/-- The Message Unit. `unsent` lists the records marked unsent, the earliest mark first (R41, R42). -/
structure Msg where
  /-- R38, oldest first -/ queue : List QEntry
  /-- R39 -/ heldPosition : Bool
  /-- R39 -/ heldCeiling : Option CeilingMsg
  /-- R39 -/ heldRollState : Option RollStateMsg
  /-- R43 -/ passCount : Nat
  /-- R49 -/ pendings : List PendingReq
  /-- R52 -/ delayed : List Delayed
  /-- R48, oldest first -/ answered : List Answered
  /-- R42 -/ unsent : List UnsentRef
  /-- R44 -/ nextId : Byte
  /-- R40 -/ lost : Nat
  deriving DecidableEq, Repr

/-! ## Position Unit (spec/04) -/

/-- An encoder channel: its fine position (R59) and its accepted levels (R58). -/
structure Channel where
  fine : Fine
  a : Bool
  b : Bool
  deriving DecidableEq, Repr

/-- The registration conditions of R63. -/
inductive RegCond
  | uncaptured | tracking | suspended
  deriving DecidableEq, Repr

/-- The positions a watch can name (R62). -/
inductive PosName
  | flat | pleated | supply | own | map
  deriving DecidableEq, Repr

/-- The event a watch delivers to the block that set it. -/
inductive WatchEvent
  /-- R114 -/ | itemStart
  /-- R115 -/ | itemEnd
  /-- R116: the next stroke point or step end -/ | cascade
  /-- R121 -/ | seamArrival
  /-- R121 -/ | seamEnd
  /-- R121 -/ | evictedEnd
  /-- R160, the span with this start -/ | spanEntry (start : Word)
  /-- R162 -/ | spanLeave (start : Word)
  deriving DecidableEq, Repr

/-- A position watch (R62). -/
structure Watch where
  pos : PosName
  target : Word
  event : WatchEvent
  deriving DecidableEq, Repr

/-- The Position Unit. -/
structure Pos where
  /-- R59 -/ ch0 : Channel
  /-- R59 -/ ch1 : Channel
  /-- R61 -/ measured : Nat
  /-- R61 -/ prev : Word
  /-- R63 -/ reg : RegCond
  /-- R63 -/ offset : Word
  /-- R63 -/ held : Word
  /-- R67 -/ errorRun : Nat
  /-- R62 -/ watches : List Watch
  /-- R61 -/ speedTimer : Timer
  /-- R70 -/ keepAlive : Timer
  deriving DecidableEq, Repr

/-! ## Speed Unit (spec/05) -/

/-- An entry of the ceiling table (R72). A CURRENT entry's lapse timer runs, with the length it was started with. -/
inductive CeilingEntry
  | neverHeard
  | current (m : CeilingMsg) (lapseMs : Nat)
  | lapsed (m : CeilingMsg)
  deriving DecidableEq, Repr

/-- The Speed Unit. The effective target is `effectiveTarget` (log 27). -/
structure Speed where
  /-- R72 -/ table : Vector CeilingEntry 7
  /-- R77 -/ setSpeed : Nat
  /-- R78, 0.01 su -/ fine : Nat
  /-- R82 -/ ownValue : Nat
  /-- R82 -/ ownReason : Reason
  /-- R83 -/ lastPosted : Option Nat
  /-- R78 -/ rampTimer : Timer
  /-- R83 -/ postTimer : Timer
  deriving DecidableEq, Repr

/-! ## Pattern Store (spec/06) -/

/-- The slot states of spec/06, section 6.1. -/
inductive SlotState
  | empty | loading | ready
  deriving DecidableEq, Repr

/-- A step place: its written mark and its step record (R85). -/
structure StepPlace where
  written : Bool
  record : StepRec
  deriving DecidableEq, Repr

/-- The geometry of one step at one grade (R94): pitch p, fold factor k, strokes per pleat, flat length per pleat F. -/
structure Geom where
  p : Nat
  k : Nat
  spp : Nat
  f : Nat
  deriving DecidableEq, Repr

/-- A pattern slot (R85). `derived` has a row for each step, and in it an entry for each grade. -/
structure Slot where
  state : SlotState
  count : Nat
  places : Vector StepPlace 48
  lp : List Nat
  lf : List Nat
  derived : List (List Geom)
  inUse : Nat
  deriving DecidableEq, Repr

/-! ## Laying Unit (spec/07, spec/08) -/

/-- The fields of a PANEL record that it keeps in every state (R111). -/
structure Panel where
  id : Nat
  slot : Nat
  grade : Nat
  lp : Nat
  lf : Nat
  flags : PanelFlags
  deriving DecidableEq, Repr

/-- The origin of a GAP (R111). -/
inductive GapOrigin
  | planned (requester : Station) (id : Byte)
  | emergency
  deriving DecidableEq, Repr

/-- The fields of a GAP record that it keeps in every state (R111). -/
structure Gap where
  origin : GapOrigin
  length : Nat
  used : Bool
  deriving DecidableEq, Repr

/-- An item of the panel queue (R110). -/
inductive Item
  | panel (p : Panel)
  | gap (g : Gap)
  deriving DecidableEq, Repr

/-- The NEXT item, with the flat start its commit gave it (R112). -/
structure NextItem where
  item : Item
  flatStart : Word
  deriving DecidableEq, Repr

/-- The LAYING item (R114): its starts, the counters of R116 and the marks of R108 and R118. -/
structure LayingItem where
  item : Item
  flatStart : Word
  pleatedStart : Word
  step : Nat
  pleat : Nat
  stroke : Nat
  slipMark : Bool
  overrunMark : Bool
  deriving DecidableEq, Repr

/-- An entry of the seam list (R121). -/
structure SeamEntry where
  a : Word
  length : Word
  emergency : Bool
  margin : Word
  captured : Option Word
  deriving DecidableEq, Repr

/-- A flat range, start included and end excluded (R111). -/
structure FlatRange where
  start : Word
  stop : Word
  deriving DecidableEq, Repr

/-- The Laying Unit. The panel queue of R110 is `laying`, `next` and `queued` in that order. -/
structure Laying where
  /-- R110 -/ laying : Option LayingItem
  /-- R110 -/ next : Option NextItem
  /-- R110 -/ queued : List Panel
  /-- R121 -/ seams : List SeamEntry
  /-- R121 -/ evicted : Option FlatRange
  /-- R106 -/ mark : Option Word
  /-- R106 -/ error : Int
  /-- R107 -/ trim : Int
  /-- R100 -/ infeedLimit : Nat
  /-- R101 -/ infeedRef : Nat
  /-- R102 -/ feedTimer : Timer
  /-- R117 -/ inFlight : Bool
  /-- R117 -/ bladeTimer : Timer
  /-- R168: running while the output is on -/ pulseLeft : Timer
  /-- R168 -/ pulseRight : Timer
  deriving DecidableEq, Repr

/-! ## Supply Unit (spec/09) -/

/-- An arm record (R127), with the spare mark of R135 and the threading timer of R128. -/
structure Arm where
  state : ArmState
  roll : Option Half
  loaded : Nat
  remaining : Nat
  noSpare : Bool
  threading : Timer
  deriving DecidableEq, Repr

/-- The festoon conditions of R130. -/
inductive Festoon
  | noReading | good | holding | lost
  deriving DecidableEq, Repr

/-- The Supply Unit. -/
structure Supply where
  /-- R127 -/ armA : Arm
  /-- R127 -/ armB : Arm
  /-- section 9.5 -/ splice : SpliceState
  /-- R136: the pending entry of the outstanding request -/ outstanding : Option Nat
  /-- R136 -/ fpos : Option Word
  /-- R138 -/ emergency : Bool
  /-- R130 -/ festoon : Festoon
  /-- R130: C, lu -/ content : Nat
  /-- R130 -/ emptyMark : Bool
  /-- R132 -/ offset : Word
  /-- R132 -/ offsetValid : Bool
  /-- R132: H -/ headFlat : Word
  /-- R132 -/ vHead : Nat
  /-- R131, su -/ unwindRef : Nat
  /-- R131, 0.01 su -/ fineUnwind : Nat
  /-- R139, R142 -/ brake : Bool
  /-- R139 -/ pressFire : Bool
  /-- R131 -/ supplyTimer : Timer
  /-- R141 -/ rollTimer : Timer
  /-- R130 -/ festoonHold : Timer
  /-- R139 -/ pressTimer : Timer
  deriving DecidableEq, Repr

/-! ## Setting Unit (spec/10) -/

/-- The sensor conditions of R144. -/
inductive SensorCond
  | good | holding | lost
  deriving DecidableEq, Repr

/-- A zone record (R144). -/
structure Zone where
  setpoint : Int
  reading : Option Int
  cond : SensorCond
  integral : Int
  duty : Nat
  hold : Timer
  deriving DecidableEq, Repr

/-- The Setting Unit. T_cold is `coldest` (log 27). -/
structure Setting where
  /-- R144 -/ zones : List Zone
  /-- R150 -/ overMark : Bool
  /-- R151 -/ vent : Bool
  deriving DecidableEq, Repr

/-! ## Map Unit (spec/11) -/

/-- The kind of a span, with the fields only that kind has (R156). -/
inductive SpanKind
  | panel (id : Half) (slot grade : Byte)
  | gap (emergency used : Bool)
  | seam (emergency : Bool)
  deriving DecidableEq, Repr

/-- The phase of a span, with its occupancy record while IN CHEST (R161). `tLow` is `none` for COLD. -/
inductive Phase
  | approaching
  | inChest (vPeak : Nat) (tLow : Option Int) (standstill : Nat)
  deriving DecidableEq, Repr

/-- A span of the web map (R156). -/
structure Span where
  kind : SpanKind
  start : Word
  length : Word
  received : PanelFlags
  own : PanelFlags
  endSeen : Bool
  phase : Phase
  deriving DecidableEq, Repr

/-- The Map Unit. -/
structure WebMap where
  /-- R156, in increasing start -/ spans : List Span
  /-- R161 -/ sampleTimer : Timer
  deriving DecidableEq, Repr

/-! ## Field Port (spec/12) -/

/-- The Field Port: the filtered levels of the eight inputs, true for active (R165, R167, log 11), the duties in effect (R168), the
staleness timers and the report in progress on the sensor link (R169). -/
structure Port where
  /-- input 1: E-stop -/ eStop : Bool
  /-- input 2: web break -/ webBreak : Bool
  /-- input 3: arm ready A at the SUPPLY, blade home at the HEAD -/ input3 : Bool
  /-- input 4: arm ready B at the SUPPLY -/ input4 : Bool
  /-- input 5: press done at the SUPPLY -/ input5 : Bool
  /-- input 6: unused -/ input6 : Bool
  /-- input 7: unused -/ input7 : Bool
  /-- input 8: restart -/ restartIn : Bool
  refDuty : Vector Nat 3
  valveDuty : Vector Nat 4
  staleness : Vector Timer 8
  /-- R169: the characters of the report in progress; none while the receiver waits for 300 µs of idle line -/
  report : Option (List SensorChar)
  deriving DecidableEq, Repr

/-! ## The machine -/

/-- The whole state of one Nohzel 412, with the queue of waiting commands. -/
structure State where
  /-- R3 to R16 -/ stn : StationState
  /-- R2: present from the end of a valid CONFIG -/ cfg : Option Cfg
  /-- R5: the sender number in CONFIG FAULT, if it may transmit -/ faultSender : Option Station
  /-- R17 -/ fault : Option FaultRecord
  ctl : Control
  link : Link
  msg : Msg
  pos : Pos
  spd : Speed
  /-- R85 -/ slots : Vector Slot 16
  lay : Laying
  sup : Supply
  set : Setting
  map : WebMap
  port : Port
  /-- the model's own: free values taken so far (log 22) -/ freeCount : Nat
  /-- the commands waiting, first in first out -/ pending : List Instr
  deriving DecidableEq, Repr

/-- The reasons a step can stop with a fault: none. No command of the table stops the machine: every fault of the spec is a fault
record (R17), and a LINE STOP is a station state. -/
inductive Fault
  deriving DecidableEq, Repr

/-- The reasons a step can be refused. -/
inductive Refusal
  /-- Raised by an arm of exec for a command that has no meaning yet; safe. No arm raises it. -/
  | notModelled (mnemonic : String)
  deriving DecidableEq, Repr

/-! ## Power-on values -/

/-- An empty step record: a FLAT fold with every number 0 (R85). Its direction, which R85 does not give, is code 0, neither LEFT nor RIGHT
(log 23). -/
def StepRec.blank : StepRec := ⟨0, 0, 0, 0, 0, 0⟩

/-- An unwritten step place (R85). -/
def StepPlace.blank : StepPlace := ⟨false, StepRec.blank⟩

/-- A slot after a reset (R85). -/
def Slot.blank : Slot where
  state := .empty; count := 0; places := Vector.replicate 48 StepPlace.blank
  lp := List.replicate 8 0; lf := List.replicate 8 0; derived := []; inUse := 0

/-- An arm after a reset (R143). -/
def Arm.blank : Arm := ⟨.empty, none, 0, 0, false, none⟩

/-- Station Control after power-on: the configuration timer runs (R3), no clear count (R12). -/
def Control.reset : Control where
  consoleHeard := false; neighbourHeard := false; lastClear := none; entryClear := none
  configTimer := some Config.configurationMs; repeatTimer := none; quiet := none

/-- The Link Interface through CONFIG (R37). -/
def Link.reset : Link where
  bus := .busy; tx := .waiting; wire := []; accept := Vector.replicate 128 .off; broken := 0
  consoleSilence := none; neighbourSilence := none; latch := none

/-- The Message Unit after power-on and after restart (R56). -/
def Msg.reset : Msg where
  queue := []; heldPosition := false; heldCeiling := none; heldRollState := none; passCount := 0; pendings := []
  delayed := []; answered := []; unsent := []; nextId := 0; lost := 0

/-- The Position Unit at power-on (R71). -/
def Pos.reset : Pos where
  ch0 := ⟨0, false, false⟩; ch1 := ⟨0, false, false⟩; measured := 0; prev := 0; reg := .uncaptured; offset := 0; held := 0
  errorRun := 0; watches := []; speedTimer := none; keepAlive := none

/-- The Speed Unit at power-on (R84). -/
def Speed.reset : Speed where
  table := Vector.replicate 7 .neverHeard; setSpeed := 0; fine := 0; ownValue := 0; ownReason := .notRunning
  lastPosted := none; rampTimer := none; postTimer := none

/-- The Laying Unit at power-on (R109, R126). -/
def Laying.reset : Laying where
  laying := none; next := none; queued := []; seams := []; evicted := none; mark := none; error := 0; trim := 0
  infeedLimit := 0; infeedRef := 0; feedTimer := none; inFlight := false; bladeTimer := none; pulseLeft := none
  pulseRight := none

/-- The Supply Unit at power-on (R143). -/
def Supply.reset : Supply where
  armA := Arm.blank; armB := Arm.blank; splice := .run; outstanding := none; fpos := none; emergency := false
  festoon := .noReading; content := 0; emptyMark := false; offset := 0; offsetValid := false; headFlat := 0; vHead := 0
  unwindRef := 0; fineUnwind := 0; brake := false; pressFire := false; supplyTimer := none; rollTimer := none
  festoonHold := none; pressTimer := none

/-- The Setting Unit at power-on (R155). -/
def Setting.reset : Setting := ⟨[], false, false⟩

/-- The Map Unit at power-on (R156). -/
def WebMap.reset : WebMap := ⟨[], none⟩

/-- The Field Port at power-on (R168, R169): inputs 1 to 7 have the inactive level until three samples agree (R167), and so has input 8, of
which the rule does not say it (log 23). -/
def Port.reset : Port where
  eStop := false; webBreak := false; input3 := false; input4 := false; input5 := false; input6 := false; input7 := false
  restartIn := false; refDuty := Vector.replicate 3 0; valveDuty := Vector.replicate 4 0
  staleness := Vector.replicate 8 none; report := none

/-- The machine right after power-on: CONFIG, the configuration read started, every output 0 (R3). -/
def State.reset : State where
  stn := .config; cfg := none; faultSender := none; fault := none; ctl := .reset; link := .reset; msg := .reset
  pos := .reset; spd := .reset; slots := Vector.replicate 16 Slot.blank; lay := .reset; sup := .reset; set := .reset
  map := .reset; port := .reset; freeCount := 0; pending := []

end Sys2Proof.Machine
end

