-- ==== Sys2Proof/Machine/Flags.lean ====
section
/-! DEFINITION. The flags bytes of spec/13, section 13.2, and the merging of panel flags (R159, R160, R162). Bits that a flags byte
does not list are sent as 0 and ignored on receipt (R170). -/

namespace Sys2Proof.Machine

/-- The panel flags byte: bit 0 SEAM, 1 PLEAT, 2 HALT, 3 NO END, 4 GAP used, 5 GAP origin EMERGENCY. -/
def PanelFlags.toByte (f : PanelFlags) : Byte :=
  BitVec.ofNat 8 (f.seam.toNat + 2 * f.pleat.toNat + 4 * f.halt.toNat + 8 * f.noEnd.toNat + 16 * f.used.toNat
    + 32 * f.emergency.toNat)

/-- The panel flags read from a received flags byte. -/
def PanelFlags.ofByte (b : Byte) : PanelFlags where
  seam := b.getLsbD 0; pleat := b.getLsbD 1; halt := b.getLsbD 2; noEnd := b.getLsbD 3; used := b.getLsbD 4
  emergency := b.getLsbD 5

/-- No flag. -/
def PanelFlags.none : PanelFlags := {}

/-- The flags of two sets ORed (R159, R160, R162). -/
def PanelFlags.or (f g : PanelFlags) : PanelFlags where
  seam := f.seam || g.seam; pleat := f.pleat || g.pleat; halt := f.halt || g.halt; noEnd := f.noEnd || g.noEnd
  used := f.used || g.used; emergency := f.emergency || g.emergency

/-- The four flags a span gathers, SEAM, PLEAT, HALT, NO END (R156): without the two GAP bits. -/
def PanelFlags.ofPanel (f : PanelFlags) : PanelFlags := { f with used := false, emergency := false }

/-- A panel's flags with the two GAP bits put in (R114, R160, R162). -/
def PanelFlags.withGap (f : PanelFlags) (emergency used : Bool) : PanelFlags := { f with used := used, emergency := emergency }

/-- The SEAM flags byte: bit 0 emergency, bit 1 unplaced. -/
def seamFlagsByte (emergency unplaced : Bool) : Byte := BitVec.ofNat 8 (emergency.toNat + 2 * unplaced.toNat)

/-- The CEILING flags byte: bit 0 flat. -/
def ceilingFlagsByte (flat : Bool) : Byte := BitVec.ofNat 8 flat.toNat

end Sys2Proof.Machine
end

