-- ==== Sys2Proof/Machine/Operands.lean ====
section
/-! DEFINITION. The operand forms: field codes, byte layouts of frames, requests, answers, sensor reports and the configuration record
(spec/13), the bits of a character (R19), the frame check (R22, R31) and the validation of the record (R4). Every multi-byte field is
least significant byte first (R170). -/

namespace Sys2Proof.Machine

/-! ## Reading and writing fields -/

/-- Byte `i` of a payload or record. -/
def byteAt (p : List Byte) (i : Nat) : Byte := p.getD i 0

/-- The 16-bit field at byte `i`, low byte first (R170). -/
def half (p : List Byte) (i : Nat) : Half := byteAt p (i + 1) ++ byteAt p i

/-- The 32-bit field at byte `i`, low byte first (R170). -/
def word (p : List Byte) (i : Nat) : Word := half p (i + 2) ++ half p i

/-- The bytes of a 16-bit field, low byte first (R170). -/
def halfBytes (h : Half) : List Byte := [h.extractLsb' 0 8, h.extractLsb' 8 8]

/-- The bytes of a 32-bit field, low byte first (R170). -/
def wordBytes (w : Word) : List Byte :=
  [w.extractLsb' 0 8, w.extractLsb' 8 8, w.extractLsb' 16 8, w.extractLsb' 24 8]

/-- A number as a 16-bit field. -/
abbrev half16 (n : Nat) : Half := BitVec.ofNat 16 n

/-- A number as a 32-bit field, or as a distance added to a position modulo 2^32 (R57). -/
abbrev word32 (n : Nat) : Word := BitVec.ofNat 32 n

/-! ## Codes (section 13.2) -/

/-- The station state's code. -/
def StationState.code : StationState → Byte
  | .config => 0 | .configFault => 1 | .listen => 2 | .ready => 3 | .running => 4 | .stopping => 5 | .halted => 6

/-- The role's code. -/
def roleCode : Role → Byte
  | .supply => 0 | .head => 1 | .setter => 2

/-- The CEILING reason's code. -/
def Reason.code : Reason → Byte
  | .notRunning => 0 | .outfeedMax => 1 | .infeed => 2 | .stroke => 3 | .unwindMax => 4 | .splice => 5 | .dwell => 6
  | .cold => 7 | .noZone => 8 | .sensorLost => 9 | .unlisted c => c

/-- The reason a received code names; an unlisted code is a reason other than NOT RUNNING (R170). -/
def Reason.ofCode (b : Byte) : Reason :=
  match b.toNat with
  | 0 => .notRunning | 1 => .outfeedMax | 2 => .infeed | 3 => .stroke | 4 => .unwindMax | 5 => .splice | 6 => .dwell
  | 7 => .cold | 8 => .noZone | 9 => .sensorLost | _ => .unlisted b

/-- The fault code's number. -/
def FaultCode.code : FaultCode → Byte
  | .configBad => 1 | .consoleSilent => 2 | .neighbourSilent => 3 | .registrationLost => 4 | .eStop => 5 | .webBreak => 6
  | .bladeJam => 7 | .strokeOverrun => 8 | .pleatSlip => 9 | .rollRunout => 10 | .noSpareRoll => 11 | .festoonEmpty => 12
  | .festoonSensorLost => 13 | .pressTimeout => 14 | .overtemp => 15 | .sensorLost => 16 | .mapOverflow => 17
  | .linkOverrun => 18 | .linkTransmit => 19 | .requestUndelivered => 20 | .haltHeard => 21

/-- The request code's number. -/
def ReqCode.code : ReqCode → Byte
  | .seamSlot => 1 | .panelOrder => 2 | .orderCancel => 3 | .patternBlock => 4 | .patternCommit => 5 | .patternClear => 6
  | .rollLoad => 7 | .setpoint => 8

/-- The refusal reason's number. -/
def RefusalReason.code : RefusalReason → Byte
  | .noPattern => 1 | .badGrade => 2 | .queueFull => 3 | .duplicate => 4 | .inUse => 5 | .badStep => 6 | .patternInvalid => 7
  | .armBusy => 8 | .notThreaded => 9 | .badZone => 10 | .wrongRole => 11 | .notAllowed => 12 | .badLength => 13

/-- The arm state's code. -/
def ArmState.code : ArmState → Byte
  | .empty => 0 | .loading => 1 | .loaded => 2 | .running => 3 | .expired => 4

/-- The running arm's code: 0 NONE, 1 A, 2 B. -/
def runningArmCode : Option ArmName → Byte
  | none => 0 | some .a => 1 | some .b => 2

/-- The splice state's code. -/
def SpliceState.code : SpliceState → Byte
  | .run => 0 | .requesting => 1 | .noSlot => 2 | .slotted => 3 | .filling => 4 | .armed => 5 | .pressing => 6
  | .accelerating => 7

/-- The outcome's code. -/
def Verdict.code : Verdict → Byte
  | .none => 0 | .set => 1 | .underset => 2 | .overset => 3

/-- The reported verdict's code. -/
def Reported.code : Reported → Byte
  | .none => 0 | .halt => 1 | .seam => 2 | .pleat => 3 | .noEnd => 4 | .overset => 5 | .underset => 6 | .set => 7

/-- The kind number of a frame (section 2.3). -/
def Frame.kind : Frame → Nat
  | .position => 0 | .ceiling _ => 1 | .passStart _ => 2 | .passEnd _ => 2 | .seam _ => 3 | .rollState _ => 4 | .fault _ => 5
  | .request _ => 6 | .answer _ => 7

/-- The tag value: the sender's station number times 16 plus the kind number (section 2.3). -/
def tagOf (sender : Station) (kind : Nat) : Nat := sender.toNat * 16 + kind

/-! ## Payloads sent (sections 13.3 to 13.5) -/

/-- CEILING: value, flags, reason. -/
def CeilingMsg.bytes (m : CeilingMsg) : List Byte :=
  halfBytes (half16 m.value) ++ [ceilingFlagsByte m.flat, m.reason.code]

/-- PANEL PASS START. -/
def PassStart.bytes (m : PassStart) : List Byte :=
  [BitVec.ofNat 8 m.isGap.toNat] ++ halfBytes m.id ++ [m.slot, m.grade] ++ wordBytes m.start ++ wordBytes m.length
    ++ [m.flags.toByte]

/-- PANEL PASS END. -/
def PassEnd.bytes (m : PassEnd) : List Byte :=
  [BitVec.ofNat 8 m.isGap.toNat] ++ halfBytes m.id ++ [m.flags.toByte, m.outcome.code, m.reported.code]

/-- SEAM. -/
def SeamMsg.bytes (m : SeamMsg) : List Byte :=
  wordBytes m.pos ++ wordBytes m.length ++ [seamFlagsByte m.emergency m.unplaced] ++ wordBytes m.margin

/-- ROLL STATE. -/
def RollStateMsg.bytes (m : RollStateMsg) : List Byte :=
  [runningArmCode m.running] ++ wordBytes (word32 m.remaining) ++ wordBytes (word32 m.content) ++ [m.splice.code, m.other.code]

/-- FAULT. -/
def FaultRecord.bytes (m : FaultRecord) : List Byte := [m.code.code] ++ halfBytes m.detail ++ [m.stateAt.code]

/-- A step record (section 13.4). -/
def StepRec.bytes (r : StepRec) : List Byte :=
  [r.fold, r.direction] ++ halfBytes r.pitch ++ halfBytes r.increment ++ halfBytes r.depth ++ [r.repeats]

/-- The request code of a body. -/
def ReqBody.code : ReqBody → ReqCode
  | .seamSlot .. => .seamSlot | .panelOrder .. => .panelOrder | .orderCancel .. => .orderCancel
  | .patternBlock .. => .patternBlock | .patternCommit .. => .patternCommit | .patternClear .. => .patternClear
  | .rollLoad .. => .rollLoad | .setpoint .. => .setpoint

/-- The parameters of a request, from byte 3 (section 13.4). -/
def ReqBody.bytes : ReqBody → List Byte
  | .seamSlot l m => wordBytes l ++ wordBytes m
  | .panelOrder f c p g => halfBytes f ++ [c, p, g]
  | .orderCancel f c => halfBytes f ++ [c]
  | .patternBlock p i r none => [p, i] ++ r.bytes
  | .patternBlock p i r (some r2) => [p, i] ++ r.bytes ++ r2.bytes
  | .patternCommit p c => [p, c]
  | .patternClear p => [p]
  | .rollLoad a r l => [a] ++ halfBytes r ++ halfBytes l
  | .setpoint z t => [z] ++ halfBytes t

/-- A station number as a byte. -/
def stationByte (s : Station) : Byte := BitVec.ofNat 8 s.toNat

/-- REQUEST: id, target, code, parameters. -/
def RequestMsg.bytes (m : RequestMsg) : List Byte := [m.id, stationByte m.target, m.body.code.code] ++ m.body.bytes

/-- The answer code of section 13.2: 1 DONE, 2 WAIT, 3 BUSY, 4 REFUSED. -/
def AnswerBody.code : AnswerBody → Byte
  | .final (.done _) => 1 | .wait => 2 | .busy => 3 | .final (.refused ..) => 4

/-- ANSWER (section 13.5). -/
def AnswerMsg.bytes (m : AnswerMsg) : List Byte :=
  [m.id, stationByte m.requester, m.body.code] ++
    match m.body with
    | .final (.done v) => wordBytes v ++ [0, 0, 0]
    | .final (.refused r st c) => wordBytes 0 ++ [r.code, st, c]
    | .wait => wordBytes 0 ++ [0, 0, 0]
    | .busy => wordBytes 0 ++ [0, 0, 0]

/-! ## Payloads received -/

/-- The fields of a received POSITION that a block uses (R65, R66, R132). -/
structure PositionMsg where
  ref : Word
  second : Word
  measured : Nat
  deriving DecidableEq, Repr

/-- POSITION, 16 bytes. -/
def parsePosition (p : List Byte) : Option PositionMsg :=
  if p.length = 16 then some ⟨word p 2, word p 6, (half p 12).toNat⟩ else none

/-- CEILING, 4 bytes. -/
def parseCeiling (p : List Byte) : Option CeilingMsg :=
  if p.length = 4 then some ⟨(half p 0).toNat, (byteAt p 2).getLsbD 0, Reason.ofCode (byteAt p 3)⟩ else none

/-- A received RUN STATE (spec/01, section 1.5). -/
structure RunStateMsg where
  run : Bool
  setSpeed : Nat
  clear : Byte
  deriving DecidableEq, Repr

/-- RUN STATE, 4 bytes; any command other than 1 is taken as STOP (R170). -/
def parseRunState (p : List Byte) : Option RunStateMsg :=
  if p.length = 4 then some ⟨byteAt p 0 == 1, (half p 1).toNat, byteAt p 3⟩ else none

/-- A received PANEL PASS START; `kind` is the item kind as received. -/
structure PassStartIn where
  kind : Byte
  id : Half
  slot : Byte
  grade : Byte
  start : Word
  length : Word
  flags : PanelFlags
  deriving DecidableEq, Repr

/-- PANEL PASS START, 14 bytes. -/
def parsePassStart (p : List Byte) : Option PassStartIn :=
  if p.length = 14 then
    some ⟨byteAt p 0, half p 1, byteAt p 3, byteAt p 4, word p 5, word p 9, PanelFlags.ofByte (byteAt p 13)⟩
  else none

/-- A received PANEL PASS END; its outcome and verdict are not used by a Nohzel 412 (R163). -/
structure PassEndIn where
  kind : Byte
  id : Half
  flags : PanelFlags
  deriving DecidableEq, Repr

/-- PANEL PASS END, 6 bytes. -/
def parsePassEnd (p : List Byte) : Option PassEndIn :=
  if p.length = 6 then some ⟨byteAt p 0, half p 1, PanelFlags.ofByte (byteAt p 3)⟩ else none

/-- SEAM, 13 bytes. -/
def parseSeam (p : List Byte) : Option SeamMsg :=
  if p.length = 13 then
    some ⟨word p 0, word p 4, (byteAt p 8).getLsbD 0, (byteAt p 8).getLsbD 1, word p 9⟩
  else none

/-- The step record at byte `i` of a payload (section 13.4). -/
def stepRecAt (p : List Byte) (i : Nat) : StepRec :=
  ⟨byteAt p i, byteAt p (i + 1), half p (i + 2), half p (i + 4), half p (i + 6), byteAt p (i + 8)⟩

/-- The parameters of a REQUEST with the given code, if its length is the one section 13.4 gives for the code. -/
def parseReqBody (code : ReqCode) (p : List Byte) : Option ReqBody :=
  match code with
  | .seamSlot => if p.length = 11 then some (.seamSlot (word p 3) (word p 7)) else none
  | .panelOrder => if p.length = 8 then some (.panelOrder (half p 3) (byteAt p 5) (byteAt p 6) (byteAt p 7)) else none
  | .orderCancel => if p.length = 6 then some (.orderCancel (half p 3) (byteAt p 5)) else none
  | .patternBlock =>
    if p.length = 14 then some (.patternBlock (byteAt p 3) (byteAt p 4) (stepRecAt p 5) none)
    else if p.length = 23 then some (.patternBlock (byteAt p 3) (byteAt p 4) (stepRecAt p 5) (some (stepRecAt p 14)))
    else none
  | .patternCommit => if p.length = 5 then some (.patternCommit (byteAt p 3) (byteAt p 4)) else none
  | .patternClear => if p.length = 4 then some (.patternClear (byteAt p 3)) else none
  | .rollLoad => if p.length = 8 then some (.rollLoad (byteAt p 3) (half p 4) (half p 6)) else none
  | .setpoint => if p.length = 6 then some (.setpoint (byteAt p 3) (half p 4)) else none

/-- A received REQUEST of a given code: request id, target as received, parameters. -/
structure RequestIn where
  id : Byte
  target : Byte
  body : ReqBody
  deriving DecidableEq, Repr

/-- A REQUEST of the given code, when its code byte names that code and its length is the code's (R45, step 2). -/
def parseRequest (code : ReqCode) (p : List Byte) : Option RequestIn :=
  if byteAt p 2 = code.code then (parseReqBody code p).map fun b => ⟨byteAt p 0, byteAt p 1, b⟩ else none

/-- Whether a REQUEST payload length is one section 13.1 allows for the kind (R31). -/
def requestLengthOk (n : Nat) : Bool := n = 4 || n = 5 || n = 6 || n = 8 || n = 11 || n = 14 || n = 23

/-- A received ANSWER (section 13.5). -/
structure AnswerIn where
  id : Byte
  requester : Byte
  code : Byte
  value : Word
  reason : Byte
  deriving DecidableEq, Repr

/-- ANSWER, 10 bytes. -/
def parseAnswer (p : List Byte) : Option AnswerIn :=
  if p.length = 10 then some ⟨byteAt p 0, byteAt p 1, byteAt p 2, word p 3, byteAt p 7⟩ else none

/-! ## Characters and the frame check (R21, R22, R30, R31) -/

/-- One bit of the check computation: generator 1021 hex (R22). -/
def crcShift (c : Half) : Half := if c.getLsbD 15 then (c <<< 1) ^^^ 0x1021#16 else c <<< 1

/-- One data value fed into the check, most significant bit first (R22). -/
def crcByte (c : Half) (b : Byte) : Half :=
  (List.range 8).foldl (fun c _ => crcShift c) (c ^^^ ((b.zeroExtend 16) <<< 8))

/-- The 16-bit check over data values, from FFFF hex, with no final inversion (R22). -/
def crc (bs : List Byte) : Half := bs.foldl crcByte 0xFFFF#16

/-- A character on the line: 11 bits in the order sent, a start bit (0), eight data bits, least significant first, a mark bit and a stop
bit (R19). -/
def bitsOf (c : LinkChar) : List Bool := false :: (List.ofFn fun i : Fin 8 => c.data.getLsbD i) ++ [c.mark, c.stop]

/-- The character that 11 bits are, sampled from the dominant edge of its start bit; a stop bit read dominant is kept as its framing error
(R19). -/
def sampled : List Bool → Option LinkChar
  | [false, b0, b1, b2, b3, b4, b5, b6, b7, mark, stop] =>
    some ⟨BitVec.ofBoolListLE [b0, b1, b2, b3, b4, b5, b6, b7], mark, stop⟩
  | _ => none

/-- A character as the transmitter drives it: stop bit recessive (R19). -/
def sentChar (mark : Bool) (b : Byte) : LinkChar := ⟨b, mark, true⟩

/-- The characters of a frame: tag with mark bit 1, length, payload, check low byte, check high byte (R21, R22). -/
def frameChars (tag : Nat) (payload : List Byte) : List LinkChar :=
  let body := BitVec.ofNat 8 payload.length :: payload
  let check := crc (BitVec.ofNat 8 tag :: body)
  sentChar true (BitVec.ofNat 8 tag) :: (body ++ halfBytes check).map (sentChar false)

/-- The payload lengths section 13.1 allows for a kind. -/
def lengthOk (kind n : Nat) : Bool :=
  match kind with
  | 0 => n = 16 | 1 => n = 4 | 2 => n = 14 || n = 6 | 3 => n = 13 | 4 => n = 11 | 5 => n = 4
  | 6 => requestLengthOk n | 7 => n = 10 | 8 => n = 4 | _ => false

/-- Whether a character is a tag: stop bit recessive, mark bit 1, data value at most 127 (R30). -/
def isTag (c : LinkChar) : Bool := c.stop && c.mark && decide (c.data.toNat ≤ 127)

/-- The checks of R31 on the characters of a collected frame. -/
def goodChars (cs : List LinkChar) : Bool :=
  match cs with
  | [] => false
  | tag :: rest =>
    let n := (rest.head?.map (·.data.toNat)).getD 25
    let data := cs.map (·.data)
    isTag tag && rest.all (fun c => c.stop && !c.mark) && decide (n ≤ 24) && lengthOk (tag.data.toNat % 16) n
      && decide (cs.length = n + 4) && decide (halfBytes (crc (data.take (n + 2))) = data.drop (n + 2))

/-! ## The sensor link (R169) -/

/-- The report that received characters make (R169): four characters or more, of which the first four are the report, every one with its
stop bit high, and a channel number of at most 7. -/
def completeReport (cs : List SensorChar) : Option SensorReport :=
  match cs with
  | c :: l :: h :: st :: _ =>
    if c.stop && l.stop && h.stop && st.stop && decide (c.data.toNat ≤ 7) then some ⟨c.data, l.data, h.data, st.data⟩ else none
  | _ => none

/-- The receiver of the sensor link takes characters after a time of idle line (R169): 300 µs or more of it begins a report, dropping one
left incomplete; characters that belong to no report are discarded; the fourth completes it. What it holds after, and the report that is
complete, if it is not dropped. -/
def takeReport (b : SensorBurst) (held : Option (List SensorChar)) : Option (List SensorChar) × Option SensorReport :=
  match (if Config.reportGapUs ≤ b.idle then some [] else held) with
  | none => (none, none)
  | some old =>
    if (old ++ b.chars).length < Config.reportChars then (some (old ++ b.chars), none) else (none, completeReport (old ++ b.chars))

/-- A report's value, signed, low byte first. -/
def reportValue (r : SensorReport) : Int := (r.high ++ r.low).toInt

/-- Whether a report's status marks the reading sound. -/
def reportSound (r : SensorReport) : Bool := r.status == 0

/-! ## The configuration record (R2, R4, section 13.6) -/

/-- The sum, modulo 65,536, of bytes 0 to 147 (R2, R4). -/
def checkSum (r : List Byte) : Half := half16 ((r.take 148).map (·.toNat)).sum

/-- A stored value with its default for a stored 0 (R2). -/
def orDefault (d n : Nat) : Nat := if n = 0 then d else n

/-- The eight points of the dwell table: point i at byte 98 + 4 i, T_i signed, D_i. -/
def dwellPoints (r : List Byte) : List DwellPoint :=
  (List.range 8).map fun i => ⟨(half r (98 + 4 * i)).toInt, (half r (100 + 4 * i)).toNat⟩

/-- The role a role byte names. -/
def roleOf (b : Byte) : Option Role :=
  match b.toNat with
  | 0 => some .supply | 1 => some .head | 2 => some .setter | _ => none

/-- The configuration quantities the bytes of a record store, defaults in place (section 13.6). -/
def decodeRecord (r : List Byte) : Cfg where
  number := BitVec.ofNat 3 (byteAt r 0).toNat
  role := (roleOf (byteAt r 1)).getD .supply
  members := byteAt r 2
  neighbour := BitVec.ofNat 3 (byteAt r 3).toNat
  source := BitVec.ofNat 3 (byteAt r 4).toNat
  pathSource := (word r 5).toNat
  pathHead := (word r 9).toNat
  lineEnd := byteAt r 13 == 1
  scale0 := (half r 14).toNat
  scale1 := (half r 16).toNat
  deglitch := (byteAt r 18).toNat
  cadenceBit := orDefault 12 (byteAt r 19).toNat
  silenceLimit := orDefault 200 (half r 20).toNat
  repeatInterval := orDefault 50 (half r 22).toNat
  attemptLimit := orDefault 16 (byteAt r 24).toNat
  answerHold := orDefault 1000 (half r 25).toNat
  ceilingHold := orDefault 500 (half r 27).toNat
  accel := (half r 29).toNat
  decel := (half r 31).toNat
  emergencyDecel := (half r 33).toNat
  outfeedMax := (half r 35).toNat
  infeedMax := (half r 37).toNat
  unwindMax := (half r 39).toNat
  strokeRateMax := (half r 41).toNat
  commitLead := (word r 43).toNat
  slipLimit := orDefault 500 (half r 47).toNat
  bladeTimeout := orDefault 300 (half r 49).toNat
  festoonCapacity := (word r 51).toNat
  runTarget := (word r 55).toNat
  fillTarget := (word r 59).toNat
  emptyLimit := (word r 63).toInt
  requestThreshold := (word r 67).toNat
  runoutReserve := (word r 71).toNat
  minSpliceLead := (word r 75).toNat
  seamLength := (word r 79).toNat
  slotMargin := (word r 83).toNat
  spliceDuration := (half r 87).toNat
  spliceDecel := (half r 89).toNat
  pressTimeout := orDefault 3000 (half r 91).toNat
  chestLength := (word r 93).toNat
  zoneCount := (byteAt r 97).toNat
  dwell := dwellPoints r
  band := (half r 130).toNat
  hardLimit := (half r 132).toInt
  kp := (byteAt r 134).toNat
  ki := (byteAt r 135).toNat
  integralLimit := (word r 136).toNat
  standstillLimit := (word r 140).toNat
  windowAhead := (word r 144).toNat

/-- Whether a number lies in a range, both ends included. -/
def within (lo hi n : Nat) : Bool := decide (lo ≤ n) && decide (n ≤ hi)

/-- Whether a dwell table is valid: ranges, T strictly increasing, D not increasing (R4). -/
def dwellValid (ps : List DwellPoint) : Bool :=
  ps.all (fun p => decide (-500 ≤ p.temp) && decide (p.temp ≤ 2500) && within 1 6000 p.dwell)
    && (ps.zip (ps.drop 1)).all (fun (p, q) => decide (p.temp < q.temp) && decide (q.dwell ≤ p.dwell))

/-- The checks of R4 in the order of the field numbers, each with the field number a failure reports. A field that belongs to another
role is not checked (R2); fields 28 to 31 are checked together as field 31. -/
def fieldChecks (r : List Byte) : List (Nat × Bool) :=
  let c := decodeRecord r
  let supply := byteAt r 1 == 0
  let head := byteAt r 1 == 1
  let setter := byteAt r 1 == 2
  let n := (byteAt r 0).toNat
  let w := (byteAt r 3).toNat
  [ (1, decide (n ≤ 6)),
    (2, decide ((byteAt r 1).toNat ≤ 2)),
    (3, !(byteAt r 2).getLsbD 7 && (byteAt r 2).getLsbD n),
    (4, decide (w ≤ 6) && (byteAt r 2).getLsbD w && decide (w ≠ n)),
    (5, !setter || byteAt r 4 == byteAt r 3),
    (6, !setter || within 1 50000000 c.pathSource),
    (7, !supply || within 200000 50000000 c.pathHead),
    (8, byteAt r 13 == 0 || (byteAt r 13 == 1 && setter)),
    (9, within 1 65535 c.scale0),
    (10, !head || within 1 65535 c.scale1),
    (11, within 1 4 c.deglitch),
    (12, within 8 15 c.cadenceBit),
    (13, within 150 2000 c.silenceLimit),
    (14, within 20 500 c.repeatInterval),
    (15, within 4 64 c.attemptLimit),
    (16, within 200 5000 c.answerHold),
    (17, within 200 2000 c.ceilingHold),
    (18, within 1 65535 c.accel),
    (19, within 1 65535 c.decel),
    (20, within (max 1 c.decel) 65535 c.emergencyDecel) ] ++
  [ (21, supply || within 1 65535 c.outfeedMax),
    (22, !head || within 1 65535 c.infeedMax),
    (23, !supply || within 1 65535 c.unwindMax),
    (24, !head || within 1 600 c.strokeRateMax),
    (25, !head || within 0 1000000 c.commitLead),
    (26, !head || within 1 65535 c.slipLimit),
    (27, !head || within 10 5000 c.bladeTimeout),
    (31, !supply || (within 100000 3276700 c.festoonCapacity && decide (0 ≤ c.emptyLimit)
      && decide (c.emptyLimit < c.runTarget) && decide (c.runTarget < c.fillTarget)
      && decide (c.fillTarget ≤ c.festoonCapacity))),
    (32, !supply || within 1 600000000 c.requestThreshold),
    (33, !supply || (within 0 600000000 c.runoutReserve && decide (c.runoutReserve < c.requestThreshold))),
    (34, !supply || within 0 50000000 c.minSpliceLead),
    (35, !supply || within 1 100000 c.seamLength),
    (36, !supply || within 0 100000 c.slotMargin),
    (37, !supply || within 100 60000 c.spliceDuration),
    (38, !supply || within 1 65535 c.spliceDecel),
    (39, !supply || within 100 30000 c.pressTimeout),
    (40, !setter || within 1000 10000000 c.chestLength),
    (41, !setter || within 1 4 c.zoneCount),
    (42, !setter || dwellValid c.dwell),
    (43, !setter || within 1 500 c.band),
    (44, !setter || (decide (100 ≤ c.hardLimit) && decide (c.hardLimit ≤ 2500))),
    (45, !setter || within 0 255 c.kp),
    (46, !setter || within 0 255 c.ki),
    (47, !setter || within 1 1000000 c.integralLimit),
    (48, !setter || within 0 600000 c.standstillLimit),
    (49, !setter || within 0 100000000 c.windowAhead) ]

/-- The CONFIG BAD detail of a record, if it fails: 65,535 for a bad check word, else the number of the first invalid field
(R3, R4). -/
def recordFailure (r : List Byte) : Option Nat :=
  if half r 148 ≠ checkSum r then some 65535 else ((fieldChecks r).find? fun c => !c.2).map (·.1)

end Sys2Proof.Machine
end

