-- ==== Sys2Proof/Machine/Ops.lean ====
section
/-! DEFINITION. The shared operations every block uses: position arithmetic (R57), roles and quantities in force, timers, the outbound
queue and its tables (spec/03), the fault record (R17), the positions of the role (R60), and the filtered levels of the inputs (R167). -/

namespace Sys2Proof.Machine

/-! ## Arithmetic (spec/00, "Units and conventions"; R57) -/

/-- The signed difference of two positions, −2^31 to 2^31 − 1 (R57). -/
def sdiff (a b : Word) : Int := (a - b).toInt

/-- A is ahead of B (R57). -/
def ahead (a b : Word) : Bool := decide (0 < sdiff a b)

/-- A reaches B: equal to it or ahead of it (R57). -/
def reaches (a b : Word) : Bool := decide (0 ≤ sdiff a b)

/-- Two flat or pleated ranges overlap when each begins behind the other's end (R111, R156). -/
def rangesOverlap (s1 e1 s2 e2 : Word) : Bool := ahead e2 s1 && ahead e1 s2

/-- "Clamped to [lo, hi]". -/
def clampInt (lo hi x : Int) : Int := if x < lo then lo else if hi < x then hi else x

/-- A signed amount as a distance added to a position, modulo 2^32 (R57). -/
def wordOfInt (x : Int) : Word := BitVec.ofInt 32 x

/-- "Saturating at 255". -/
def satInc (n : Nat) : Nat := if n < 255 then n + 1 else n

/-- Replace entry `i` of a list by `f` of it. -/
def modifyAt {α : Type} (f : α → α) : Nat → List α → List α
  | _, [] => []
  | 0, x :: xs => f x :: xs
  | n + 1, x :: xs => x :: modifyAt f n xs

/-! ## The state's parts -/

/-- The role in force, from the end of a valid CONFIG (R1). -/
def State.role (s : State) : Option Role := s.cfg.map (·.role)

/-- The configuration quantities in force (R2). -/
def State.conf (s : State) : Cfg := s.cfg.getD Cfg.blank

/-- A state from LISTEN to HALTED. -/
def StationState.live : StationState → Bool
  | .config => false
  | .configFault => false
  | _ => true

/-- The station works: its state is one from LISTEN to HALTED. -/
def State.live (s : State) : Bool := s.stn.live

/-- The station works in the given role (R1). -/
def State.isRole (s : State) (r : Role) : Bool := s.live && decide (s.role = some r)

/-- The watched neighbour N (R33). -/
def State.neighbour (s : State) : Station := s.conf.neighbour

/-- The number this station sends under: field 1, or in CONFIG FAULT the number R5 allows. -/
def State.sender (s : State) : Option Station :=
  match s.cfg with
  | some c => some c.number
  | none => s.faultSender

/-- Station `m` is a member other than this station itself (R33, R72). -/
def State.otherMember (s : State) (m : Station) : Bool := s.conf.members.getLsbD m.toNat && decide (m ≠ s.conf.number)

/-! ## Positions (R59, R60, R63) -/

/-- A channel's position in lu: the upper 32 bits of its fine position (R59). -/
def Channel.lu (c : Channel) : Word := c.fine.extractLsb' 10 32

/-- The map position of a SETTER: held while UNCAPTURED, else own position plus offset (R63). -/
def State.mapPos (s : State) : Word :=
  match s.pos.reg with
  | .uncaptured => s.pos.held
  | .tracking => s.pos.ch0.lu + s.pos.offset
  | .suspended => s.pos.ch0.lu + s.pos.offset

/-- The reference position of the role (R60). -/
def State.refPos (s : State) : Word :=
  match s.role with
  | some .supply => s.pos.ch0.lu
  | some .head => s.pos.ch1.lu
  | some .setter => s.mapPos
  | none => 0

/-- The position a watch names (R60, R62). -/
def State.posOf (s : State) : PosName → Word
  | .flat => s.pos.ch0.lu
  | .pleated => s.pos.ch1.lu
  | .supply => s.pos.ch0.lu
  | .own => s.pos.ch0.lu
  | .map => s.mapPos

/-- The positions as they stand, as a frame's start latches them (R64). -/
def State.latchNow (s : State) : Latch := ⟨s.pos.ch0.lu, s.pos.ch1.lu, s.refPos, s.mapPos⟩

/-! ## The outbound queue (R38 to R43) -/

/-- A notice of the superseding class (section 3.1). -/
def Frame.superseding : Frame → Bool
  | .position => true
  | .ceiling _ => true
  | .rollState _ => true
  | _ => false

/-- A notice, of either notice class; else a request or an answer (section 3.1). -/
def Frame.isNotice : Frame → Bool
  | .request _ => false
  | .answer _ => false
  | _ => true

/-- The frame waits: it is not in flight (R38). -/
def QEntry.isWaiting (e : QEntry) : Bool := decide (e.flight = .waiting)

/-- An entry is free (R38). -/
def Msg.room (m : Msg) : Bool := decide (m.queue.length < Config.queueSize)

/-- Some entry holds a frame of the kind. -/
def Msg.hasKind (m : Msg) (kind : Nat) : Bool := m.queue.any fun e => e.frame.kind == kind

/-- A frame takes a free entry: newest entry time, failure count 0 (R38). -/
def Msg.place (m : Msg) (f : Frame) : Msg := { m with queue := m.queue ++ [⟨f, 0, .waiting⟩] }

/-- A newer superseding frame takes the place of the one in an entry (R39); the flight of the older one goes on (R27). -/
def QEntry.replaceWith (f : Frame) (e : QEntry) : QEntry :=
  ⟨f, 0, match e.flight with
    | .waiting => .waiting
    | .inFlight p _ => .inFlight p true⟩

/-- Discard what is held of a frame's kind (R39). -/
def Msg.clearHeld (m : Msg) : Frame → Msg
  | .position => { m with heldPosition := false }
  | .ceiling _ => { m with heldCeiling := none }
  | .rollState _ => { m with heldRollState := none }
  | _ => m

/-- Hold a superseding frame in its kind's held place (R39). -/
def Msg.hold (m : Msg) : Frame → Msg
  | .position => { m with heldPosition := true }
  | .ceiling c => { m with heldCeiling := some c }
  | .rollState r => { m with heldRollState := some r }
  | _ => m

/-- A superseding notice handed to the Message Unit (R39). -/
def Msg.supersede (m : Msg) (f : Frame) : Msg :=
  if m.hasKind f.kind then
    { (m.clearHeld f) with queue := m.queue.map fun e => if e.frame.kind = f.kind then e.replaceWith f else e }
  else if m.room then (m.clearHeld f).place f
  else m.hold f

/-- The answer frame of an answered list entry. -/
def Answered.msg (a : Answered) : AnswerMsg := ⟨a.id, a.requester, a.code, .final a.final⟩

/-- The frame of a pending request (R44, R50). -/
def PendingReq.frame (p : PendingReq) : Frame := .request ⟨p.id, p.target, p.body, p.entry⟩

/-- The frame a record marked unsent waits to send (R41). -/
def Msg.unsentFrame (m : Msg) : UnsentRef → Option Frame
  | .request entry => (m.pendings.find? fun p => p.entry == entry).map PendingReq.frame
  | .answer r id => (m.answered.find? fun a => a.requester == r && a.id == id).map fun a => .answer a.msg

/-- A freed entry is given to one held frame: held notices first, POSITION before CEILING before ROLL STATE, then the record marked
unsent earliest (R42). A record marked while a copy was in flight is given the entry also when that flight has failed and its copy waits
again: two copies then wait (log 38). -/
def Msg.refill (m : Msg) : Msg :=
  if !m.room then m
  else if m.heldPosition then { m with heldPosition := false }.place .position
  else match m.heldCeiling with
    | some c => { m with heldCeiling := none }.place (.ceiling c)
    | none => match m.heldRollState with
      | some r => { m with heldRollState := none }.place (.rollState r)
      | none => match m.unsent with
        | [] => m
        | u :: rest => match m.unsentFrame u with
          | some f => { m with unsent := rest }.place f
          | none => { m with unsent := rest }

/-- The entry at index `i` is the oldest request or answer of the queue (R43). -/
def Msg.oldestAsk (m : Msg) (i : Nat) : Bool := m.queue.findIdx? (fun e => !e.frame.isNotice) == some i

/-- An entry is freed: it leaves the queue, the pass count returns to 0 when it held the oldest request or answer or was the last entry
of the queue (R43), and a held frame takes the free entry (R42). -/
def Msg.free (m : Msg) (i : Nat) : Msg :=
  { m with
    queue := m.queue.eraseIdx i
    passCount := if m.oldestAsk i || (m.queue.eraseIdx i).isEmpty then 0 else m.passCount }.refill

/-- Mark a record unsent, unless it is marked already (R41). -/
def Msg.markUnsent (m : Msg) (u : UnsentRef) : Msg := if m.unsent.contains u then m else { m with unsent := m.unsent ++ [u] }

/-- Cancel a record's unsent mark. -/
def Msg.unmark (m : Msg) (u : UnsentRef) : Msg := { m with unsent := m.unsent.filter (· ≠ u) }

/-- A copy of the frame waits in the queue; one in flight does not count (R41). -/
def Msg.copyWaits (m : Msg) (f : Frame) : Bool := m.queue.any fun e => e.isWaiting && decide (e.frame = f)

/-- A request or a final answer handed to the Message Unit (R41). -/
def Msg.handAsk (m : Msg) (f : Frame) (u : UnsentRef) : Msg :=
  if m.copyWaits f then m else if m.room then (m.unmark u).place f else m.markUnsent u

/-- A WAIT or BUSY answer handed to the Message Unit: not sent when no entry is free (R41). With an entry free it is placed also while a
copy of it waits (log 37). -/
def Msg.handInterim (m : Msg) (a : AnswerMsg) : Msg := if m.room then m.place (.answer a) else m

/-- The choice of the next frame (R43): the index of its entry, and whether the fourth line of the table chose it. -/
def Msg.choose (m : Msg) : Option (Nat × Bool) :=
  match m.queue.findIdx? (fun e => e.isWaiting && e.frame.isNotice),
        m.queue.findIdx? (fun e => e.isWaiting && !e.frame.isNotice) with
  | none, none => none
  | some n, none => some (n, false)
  | none, some q => some (q, false)
  | some n, some q => if n < q then some (n, false) else if m.passCount < 2 then some (n, true) else some (q, false)

/-- The index of the entry whose frame is in flight. -/
def Msg.flying (m : Msg) : Option Nat := m.queue.findIdx? fun e => !e.isWaiting

/-- A flight ends without completion: the frame stays in its entry at its place (R25, R26, R28). -/
def Msg.land (m : Msg) : Msg := { m with queue := m.queue.map fun e => { e with flight := .waiting } }

/-! ## Answers (R47, R48) -/

/-- Make an answered list entry (R48): it replaces an entry with the same requester and id; when the list is full, the oldest entry
whose answer is no longer unsent, or else the oldest, whose answer is then not sent. -/
def Msg.recordAnswer (m : Msg) (a : Answered) : Msg :=
  let same := m.answered.filter fun e => !(e.requester == a.requester && e.id == a.id)
  let m := { m with answered := same }.unmark (.answer a.requester a.id)
  if same.length < Config.tableSize then { m with answered := same ++ [a] }
  else match same.findIdx? (fun e => !m.unsent.contains (.answer e.requester e.id)) with
    | some i => { m with answered := same.eraseIdx i ++ [a] }
    | none => match same with
      | [] => { m with answered := [a] }
      | o :: rest => { m with answered := rest ++ [a] }.unmark (.answer o.requester o.id)

/-- A final answer: recorded in the answered list and queued (R47, R48). -/
def Msg.finish (m : Msg) (a : Answered) : Msg := (m.recordAnswer a).handAsk (.answer a.msg) (.answer a.requester a.id)

/-! ## State-level hand-over -/

/-- Hand a superseding notice to the Message Unit (R39). -/
def supersede (f : Frame) (s : State) : State := { s with msg := s.msg.supersede f }

/-- Hand a lasting notice to the Message Unit (R40). One that finds no free entry is lost and counted; outside CONFIG FAULT it then
raises LINK OVERRUN with its kind number, whose own FAULT notice meets the same full queue and is lost and counted too. -/
def postLasting (f : Frame) (s : State) : State :=
  if s.msg.room then { s with msg := s.msg.place f }
  else if s.stn = .configFault then { s with msg.lost := satInc s.msg.lost }
  else
    { s with
      fault := some ⟨.linkOverrun, half16 f.kind, s.stn⟩
      msg.lost := satInc (satInc s.msg.lost) }

/-- Record a fault and queue its FAULT notice (R17). In CONFIG FAULT the record is held and nothing is queued (R5). -/
def recordFault (code : FaultCode) (detail : Nat) (s : State) : State :=
  if s.live then
    let r : FaultRecord := ⟨code, half16 detail, s.stn⟩
    postLasting (.fault r) { s with fault := some r }
  else s

/-- Hand a POSITION notice to the Message Unit, from LISTEN to HALTED; the keep-alive timer restarts (R70). -/
def handPosition (s : State) : State :=
  if s.live then supersede .position { s with pos.keepAlive := some Config.hundredMs } else s

/-- The POSITION cadence: a change of the reference position from `old` that changes its bit n hands a POSITION (R70). -/
def cadence (old : Word) (s : State) : State :=
  if old.getLsbD s.conf.cadenceBit = s.refPos.getLsbD s.conf.cadenceBit then s else handPosition s

/-- The inputs a role uses (R165): E-stop, web break and restart in every role, arm ready A and B and press done at the SUPPLY, blade home
at the HEAD. -/
def usesInput : Role → Nat → Bool
  | _, 1 => true
  | _, 2 => true
  | _, 8 => true
  | .supply, n => decide (3 ≤ n ∧ n ≤ 5)
  | .head, n => decide (n = 3)
  | .setter, _ => false

/-- The level of its pin at which a digital input is active, true for high (R167): high for E-stop and web break, low for every other. -/
def activeHigh (input : Nat) : Bool := decide (input = 1 ∨ input = 2)

/-- A digital input is active when its pin reads a level (R167). -/
def isActive (input : Nat) (high : Bool) : Bool := high == activeHigh input

/-- The level on which the samples of a run agree, true for active. -/
def runActive (r : PinRun) : Bool := isActive r.input r.high

/-- One more reading of a pin: the filtered level, the value last read, and how many readings in a row have given it (R167). -/
def filterReading (f : Bool × Bool × Nat) (v : Bool) : Bool × Bool × Nat :=
  let k := if v = f.2.1 then f.2.2 + 1 else 1
  (if Config.inputSamples ≤ k then v else f.1, v, k)

/-- The filtered level of a pin after readings: it takes a value that three in a row have read (R167). -/
def filterReadings (level : Bool) (vs : List Bool) : Bool := (vs.foldl filterReading (level, level, 0)).1

/-- The filtered level of one of inputs 3 to 8 takes a value (R167); inputs 1 and 2 have rows for both of their changes. -/
def Port.setInput (p : Port) (active : Bool) : Nat → Port
  | 3 => { p with input3 := active }
  | 4 => { p with input4 := active }
  | 5 => { p with input5 := active }
  | 6 => { p with input6 := active }
  | 7 => { p with input7 := active }
  | 8 => { p with restartIn := active }
  | _ => p

/-- A run of samples changes an input's filtered level by itself, there being no row for the change (R167, log 11): three samples agree,
and it is a release of input 8, or, while inputs 1 to 7 are sampled, a release of one of inputs 3 to 7 or either change of an unused one. -/
def State.takesRun (s : State) (r : PinRun) : Bool :=
  decide (Config.inputSamples ≤ r.samples)
    && (if r.input = 8 then !runActive r
      else s.live && (!runActive r || !((s.role.map (usesInput · r.input)).getD true)))

/-- What a run of samples does to the filtered levels; it is delivered to no block (R167). -/
def samplePin (s : State) (r : PinRun) : State :=
  if s.takesRun r then { s with port := s.port.setInput (runActive r) r.input } else s

/-- The runs of other inputs that come with a command, in turn. -/
def samplePins (rs : List PinRun) (s : State) : State := rs.foldl samplePin s

/-- An input's filtered level becomes active (R167): it was inactive, or has been released in between (log 11), and three samples agree. -/
def rises (level : Bool) (r : Rise) : Bool :=
  (!level || decide (Config.inputSamples ≤ r.released)) && decide (Config.inputSamples ≤ r.samples)

/-- The filtered level after an input's own samples: three that agree on the inactive level release it, three that agree on the active
one after them make it active (R167). -/
def levelAfter (level : Bool) (r : Rise) : Bool :=
  if Config.inputSamples ≤ r.samples then true else level && decide (r.released < Config.inputSamples)

/-- An input's filtered level becomes inactive (R167). -/
def falls (level : Bool) (samples : Nat) : Bool := level && decide (Config.inputSamples ≤ samples)

/-- The report that characters on the sensor link complete; the receiver runs from LISTEN to HALTED (R169). -/
def State.heardReport (s : State) (b : SensorBurst) : Option SensorReport :=
  if s.live then (takeReport b s.port.report).2 else none

/-- The receiver of the sensor link after characters (R169). -/
def hearSensor (b : SensorBurst) (s : State) : State :=
  { s with port.report := if s.live then (takeReport b s.port.report).1 else s.port.report }

/-- A free value (log 22): a value the spec does not state, fresh for each use. -/
def freeValue (s : State) : Word × State := (Config.freeWord s.freeCount, { s with freeCount := s.freeCount + 1 })

end Sys2Proof.Machine
end

