-- ==== Sys2Proof/Machine/Ceilings.lean ====
section
/-! DEFINITION. Speeds and ceilings: the ceiling table's standing values and the effective target (spec/05), the own ceiling each role
unit gives (R105, R134, R154), its posting (R82, R83), the infeed limit (R100, R103) and the duties (R81). -/

namespace Sys2Proof.Machine

/-! ## The ceiling table (R72 to R76) -/

/-- What an entry contributes wherever a minimum is taken over the table (R75). -/
def CeilingEntry.standing : CeilingEntry → Nat
  | .neverHeard => 0
  | .lapsed _ => 0
  | .current m _ => if m.reason = .notRunning then 0 else m.value

/-- A flat entry: one whose last CEILING carried the flat flag (R75). -/
def CeilingEntry.flat : CeilingEntry → Bool
  | .neverHeard => false
  | .lapsed m => m.flat
  | .current m _ => m.flat

/-- The table entry of a station; station 7 has none (R72). -/
def State.entry (s : State) (m : Station) : CeilingEntry := (s.spd.table[m.toNat]?).getD .neverHeard

/-- The stations whose entries are not absent (R72). -/
def State.otherMembers (s : State) : List Station := ((List.range 7).map (BitVec.ofNat 3)).filter s.otherMember

/-- The standing values of the line entries (R75, R76). -/
def State.lineValues (s : State) : List Nat := ((s.otherMembers.map s.entry).filter fun e => !e.flat).map CeilingEntry.standing

/-- The effective target (R76): 0 outside RUNNING and at the SUPPLY. -/
def effectiveTarget (s : State) : Nat :=
  if s.stn = .running ∧ (s.role = some .head ∨ s.role = some .setter) then
    s.lineValues.foldl min (min s.spd.setSpeed (min s.spd.ownValue s.conf.outfeedMax))
  else 0

/-- The role maximum that clamps the set speed (R77). -/
def State.roleMax (s : State) : Nat := if s.role = some .supply then s.conf.unwindMax else s.conf.outfeedMax

/-- The commanded speed of the HEAD and a SETTER: the fine commanded speed divided by 100, truncated (R78). -/
def State.commanded (s : State) : Nat := s.spd.fine / 100

/-- The commanded speed a POSITION reports and R10 tests: at the SUPPLY the unwind reference (R80). -/
def State.reportedSpeed (s : State) : Nat := if s.role = some .supply then s.sup.unwindRef else s.commanded

/-! ## Duties (R81, R168) -/

/-- The 10-bit duty of a speed against a full scale, halves upward, clamped to 1,023 (R81). -/
def dutyOf (speed full : Nat) : Nat := min 1023 ((2 * 1023 * speed + full) / (2 * full))

/-- The duty handed to speed reference output i + 1 by the role (R80, R81, R165). -/
def State.refHanded (s : State) (i : Nat) : Nat :=
  if !s.live then 0
  else match s.role, i with
    | some .supply, 0 => dutyOf s.sup.unwindRef s.conf.unwindMax
    | some .head, 0 => dutyOf s.commanded s.conf.outfeedMax
    | some .head, 1 => dutyOf s.lay.infeedRef s.conf.infeedMax
    | some .setter, 0 => dutyOf s.commanded s.conf.outfeedMax
    | _, _ => 0

/-- The duty handed to valve output i + 1: zone i's duty (R144, R165). -/
def State.valveHanded (s : State) (i : Nat) : Nat := if s.isRole .setter then ((s.set.zones[i]?).map (·.duty)).getD 0 else 0

/-! ## The HEAD's own ceiling (R104, R105) -/

/-- The derived table rows of a slot, taken at one grade (R94, R98). -/
def Slot.geoms (sl : Slot) (grade : Nat) : List Geom := sl.derived.map fun row => (row[grade]?).getD ⟨0, 0, 0, 0⟩

/-- The slot of a number (spec/06, section 6.1). -/
def State.slot (s : State) (n : Nat) : Slot := (s.slots[n]?).getD Slot.blank

/-- A term of a least, with its reason. -/
abbrev Term := Nat × Reason

/-- Precedence of the reasons that share the least value: INFEED, then STROKE, then OUTFEED MAX (R105). -/
def reasonRank : Reason → Nat
  | .infeed => 0
  | .stroke => 1
  | _ => 2

/-- The lesser of two terms, by value and then by precedence (R105). -/
def lesserTerm (a b : Term) : Term := if b.1 < a.1 ∨ (b.1 = a.1 ∧ reasonRank b.2 < reasonRank a.2) then b else a

/-- The ceiling of one step under an infeed limit (R104). -/
def stepTerm (lim sMax : Nat) (g : Geom) : Term :=
  if g.k = 0 then (lim, .infeed)
  else
    let cin := lim * g.p / g.f
    let cst := sMax * g.p / (100 * g.spp)
    if cin ≤ cst then (min cin 65535, .infeed) else (min cst 65535, .stroke)

/-- The terms of one committed item (R105). -/
def itemTerms (s : State) : Item → List Term
  | .panel p => ((s.slot p.slot).geoms p.grade).map (stepTerm s.lay.infeedLimit s.conf.strokeRateMax)
  | .gap _ => [(s.lay.infeedLimit, .infeed)]

/-- The HEAD's own ceiling (R105). -/
def headCeiling (s : State) : Term :=
  let laying := match s.lay.laying with
    | some l => itemTerms s l.item
    | none => [(s.lay.infeedLimit, .infeed)]
  let next := match s.lay.next with
    | some n => itemTerms s n.item
    | none => []
  (laying ++ next).foldl lesserTerm (s.conf.outfeedMax, .outfeedMax)

/-! ## The SUPPLY's flat ceiling (R134) -/

/-- The SUPPLY's flat ceiling by splice state (R134). -/
def supplyCeiling (s : State) : Term :=
  match s.sup.splice with
  | .run => (s.conf.unwindMax, .unwindMax)
  | .accelerating => (s.conf.unwindMax, .unwindMax)
  | _ => (min s.conf.unwindMax ((((s.conf.fillTarget : Int) - s.conf.emptyLimit) * 100).toNat / s.conf.spliceDuration), .splice)

/-! ## A SETTER's chest ceiling (R152 to R154) -/

/-- A zone is in use while its setpoint is above 0 (R144). -/
def Zone.inUse (z : Zone) : Bool := decide (0 < z.setpoint)

/-- T_cold: the least reading in force among the zones in use; no value when none is in use or one of them is SENSOR LOST (R152). -/
def coldest (s : State) : Option Int :=
  let used := s.set.zones.filter Zone.inUse
  if used.any (fun z => z.reading.isNone) then none
  else match used.filterMap (·.reading) with
    | [] => none
    | r :: rs => some (rs.foldl min r)

/-- The dwell between neighbouring points of the table (R153): `none` below the first point given. -/
def dwellFrom : List DwellPoint → Int → Option Nat
  | [], _ => none
  | [p], t => if p.temp ≤ t then some p.dwell else none
  | p :: q :: rest, t =>
    if t < p.temp then none
    else if t < q.temp then some (p.dwell - (((p.dwell : Int) - q.dwell) * (t - p.temp) / (q.temp - p.temp)).toNat)
    else dwellFrom (q :: rest) t

/-- The dwell requirement D(T), `none` when too cold (R153). -/
def dwellRequirement (s : State) (t : Int) : Option Nat := dwellFrom s.conf.dwell t

/-- The chest ceiling (R154). -/
def chestCeiling (s : State) : Term :=
  if !(s.set.zones.any Zone.inUse) then (0, .noZone)
  else match coldest s with
    | none => (0, .sensorLost)
    | some t => match dwellRequirement s t with
      | none => (0, .cold)
      | some d => (min 65535 (s.conf.chestLength / d), .dwell)

/-! ## The own ceiling and its posting (R82, R83) -/

/-- The own ceiling that the station's role unit gives (R82). -/
def roleCeiling (s : State) : Term :=
  match s.role with
  | some .head => headCeiling s
  | some .supply => supplyCeiling s
  | some .setter => chestCeiling s
  | none => (0, .notRunning)

/-- The contents of a CEILING notice now: NOT RUNNING outside RUNNING, flat at the SUPPLY (R82). -/
def ceilingNow (s : State) : CeilingMsg :=
  ⟨s.spd.ownValue, decide (s.role = some .supply), if s.stn = .running then s.spd.ownReason else .notRunning⟩

/-- Hand a CEILING notice: P becomes its value and the posting timer restarts (R83). -/
def handCeiling (s : State) : State :=
  supersede (.ceiling (ceilingNow s))
    { s with spd.lastPosted := some s.spd.ownValue, spd.postTimer := some Config.hundredMs }

/-- The own ceiling takes the value and reason its role unit now gives, without posting (R82). -/
def setOwn (s : State) : State := { s with spd.ownValue := (roleCeiling s).1, spd.ownReason := (roleCeiling s).2 }

/-- A change of the own ceiling from `old` to `new` is posted when it falls below P or rises above P + ⌊P/32⌋ (R83). -/
def postsChange (p : Option Nat) (old new : Nat) : Bool :=
  match p with
  | none => false
  | some p => decide (new ≠ old) && (decide (new < p) || decide (p + p / 32 < new))

/-- The role unit recomputes its ceiling: the own ceiling changes and is posted by R83. -/
def reformOwn (s : State) : State :=
  let t := setOwn s
  if postsChange s.spd.lastPosted s.spd.ownValue t.spd.ownValue then handCeiling t else t

/-! ## The infeed limit (R100, R103) -/

/-- The infeed limit as R100 forms it: the lesser of the infeed max and the standing value of the SUPPLY's entry. -/
def infeedLimitNow (s : State) : Nat := min s.conf.infeedMax (s.entry s.neighbour).standing

/-- The HEAD re-forms its infeed limit: a changed limit clamps the infeed reference at once (R103) and recomputes the own ceiling
(R105). -/
def reformInfeed (s : State) : State :=
  if s.isRole .head ∧ infeedLimitNow s ≠ s.lay.infeedLimit then
    reformOwn { s with lay.infeedLimit := infeedLimitNow s, lay.infeedRef := min s.lay.infeedRef (infeedLimitNow s) }
  else s

/-- Write a station's ceiling table entry; a change of the SUPPLY's standing value re-forms the HEAD's infeed limit (R73, R74, R75). -/
def writeEntry (m : Station) (e : CeilingEntry) (s : State) : State :=
  reformInfeed { s with spd.table := s.spd.table.setIfInBounds m.toNat e }

end Sys2Proof.Machine
end

