-- ==== Sys2Proof/Machine/SupplyOps.lean ====
section
/-! DEFINITION. The Supply Unit's shared operations (spec/09): arms, ROLL STATE, metering, the festoon, the arrival estimate, the unwind
reference and the evaluation of the splice sequence. -/

namespace Sys2Proof.Machine

/-! ## Arms (R127) -/

/-- The arm that is not the named one. -/
def otherOf : ArmName → ArmName
  | .a => .b
  | .b => .a

/-- The record of an arm. -/
def Supply.arm (u : Supply) : ArmName → Arm
  | .a => u.armA
  | .b => u.armB

/-- Change the record of an arm. -/
def onArm (n : ArmName) (f : Arm → Arm) (s : State) : State :=
  match n with
  | .a => { s with sup.armA := f s.sup.armA }
  | .b => { s with sup.armB := f s.sup.armB }

/-- The RUNNING arm, at most one (Law 5). -/
def Supply.running (u : Supply) : Option ArmName :=
  if u.armA.state = .running then some .a else if u.armB.state = .running then some .b else none

/-- The clutch output of an arm: on for the RUNNING one (R127). -/
def Supply.clutch (u : Supply) (n : ArmName) : Bool := decide ((u.arm n).state = .running)

/-- The remaining length of the RUNNING arm, 0 with none. -/
def Supply.runningRemaining (u : Supply) : Nat := (u.running.map fun n => (u.arm n).remaining).getD 0

/-- The roll id of an arm as a fault detail. -/
def Arm.rollId (a : Arm) : Nat := (a.roll.map (·.toNat)).getD 0

/-- The other arm of a ROLL STATE: arm B beside A or NONE, arm A beside B (R141). -/
def Supply.otherArm (u : Supply) : ArmName := if u.running = some .b then .a else .b

/-! ## ROLL STATE (R141) -/

/-- The contents of a ROLL STATE notice now. -/
def rollStateNow (s : State) : RollStateMsg where
  running := s.sup.running
  remaining := s.sup.runningRemaining
  content := if s.sup.festoon = .noReading then 0 else s.sup.content
  splice := s.sup.splice
  other := (s.sup.arm s.sup.otherArm).state

/-- Hand a ROLL STATE notice; the roll state timer restarts (R141). -/
def handRollState (s : State) : State :=
  if s.isRole .supply then supersede (.rollState (rollStateNow s)) { s with sup.rollTimer := some Config.rollStateMs } else s

/-- A change of splice state: the flat ceiling is re-formed (R134) and a ROLL STATE is handed. Outside REQUESTING no request is
outstanding. -/
def setSplice (x : SpliceState) (s : State) : State :=
  handRollState (reformOwn
    { s with sup.splice := x, sup.outstanding := if x = .requesting then s.sup.outstanding else none })

/-- An arm becomes RUNNING: its mark of NO SPARE ROLL is cleared (R127, R135). -/
def Arm.run (a : Arm) : Arm := { a with state := .running, noSpare := false }

/-- A threaded roll: the arm becomes LOADED with its whole length, and RUNNING at once when no arm is RUNNING (R127, R128). -/
def threadArm (n : ArmName) (s : State) : State :=
  let t := handRollState (onArm n (fun a => { a with state := .loaded, remaining := a.loaded, threading := none }) s)
  if s.sup.running = none then handRollState (onArm n Arm.run t) else t

/-! ## Metering (R129) -/

/-- The remaining length after the supply position has moved by `d`. -/
def Arm.meter (a : Arm) (d : Int) : Arm := { a with remaining := (clampInt 0 a.loaded ((a.remaining : Int) - d)).toNat }

/-! ## The festoon (R130) -/

/-- The content a good reading of `v` mm gives: 100 lu each, clamped. -/
def contentOf (v : Int) : Nat := (clampInt 0 3276700 (v * 100)).toNat

/-- A change of the festoon condition hands a ROLL STATE (R141). -/
def setFestoon (f : Festoon) (s : State) : State :=
  if s.sup.festoon = f then s else handRollState { s with sup.festoon := f }

/-- A faulty reading, or the channel becoming stale: GOOD becomes HOLDING and the hold timer starts (R130). -/
def festoonDoubt (s : State) : State :=
  if s.sup.festoon = .good then setFestoon .holding { s with sup.festoonHold := some Config.festoonHoldMs } else s

/-! ## Arrival (R132, R133) -/

/-- The arrival estimate E: the supply position plus the arrival offset (R132). -/
def State.arrival (s : State) : Word := s.pos.ch0.lu + s.sup.offset

/-- The stop distance ⌈5 v² / a⌉ (R133). -/
def stopDistance (v a : Nat) : Nat := (5 * v * v + a - 1) / a

/-! ## The splice sequence (section 9.5) -/

/-- Enter PRESSING (R131, R137, R138). An emergency splice has no Fpos. -/
def enterPressing (emergency : Bool) (s : State) : State :=
  setSplice .pressing
    { s with
      sup.emergency := emergency
      sup.fpos := if emergency then none else s.sup.fpos
      sup.fineUnwind := 100 * s.sup.unwindRef }

/-- The arm other than the RUNNING one is LOADED: the spare (R127). -/
def Supply.spareLoaded (u : Supply) : Bool :=
  match u.running with
  | some n => decide ((u.arm (otherOf n)).state = .loaded)
  | none => false

/-- The test of an emergency splice (R138). -/
def emergencyDue (s : State) : Bool := s.sup.spareLoaded && decide (s.sup.runningRemaining ≤ s.conf.runoutReserve)

/-- The lowest entry of the pending request table that is free, where one is (R49, log 35). -/
def Msg.freeEntry (m : Msg) : Nat :=
  ((List.range Config.tableSize).find? fun k => m.pendings.all fun p => p.entry != k).getD Config.tableSize

/-- The pending entry of a new request to the watched neighbour (R44, R49). -/
def newRequest (s : State) (body : ReqBody) : PendingReq :=
  ⟨s.msg.freeEntry, s.msg.nextId, s.neighbour, body, 1, .supplyUnit, some s.conf.repeatInterval⟩

/-- Ask the Message Unit to send a SEAM SLOT; nothing when the pending request table is full (R49, R136). -/
def requestSlot (s : State) : State :=
  if s.msg.pendings.length < Config.tableSize then
    let p := newRequest s (.seamSlot (word32 s.conf.seamLength) (word32 s.conf.slotMargin))
    let m := { s.msg with pendings := s.msg.pendings ++ [p], nextId := s.msg.nextId + 1 }
    { s with msg := m.handAsk p.frame (.request p.entry), sup.outstanding := some p.entry }
  else s

/-- An evaluation in RUN: the threshold test (R135). -/
def evalRun (s : State) : State :=
  match s.sup.running with
  | none => s
  | some n =>
    if s.conf.requestThreshold < s.sup.runningRemaining then s
    else if s.sup.spareLoaded then requestSlot (setSplice .requesting s)
    else if (s.sup.arm n).noSpare then s
    else recordFault .noSpareRoll (s.sup.arm n).rollId (onArm n (fun a => { a with noSpare := true }) s)

/-- The stop trigger (R137). -/
def stopTrigger (s : State) : Bool :=
  match s.sup.fpos with
  | some f => decide (sdiff f s.arrival ≤ stopDistance s.pos.measured s.conf.spliceDecel)
  | none => false

/-- The Supply Unit uses C: in NO READING there is none, in LOST it is kept for reports alone (section 9.2). -/
def Supply.usesContent (u : Supply) : Bool := decide (u.festoon = .good) || decide (u.festoon = .holding)

/-- An evaluation in FILLING or ARMED (R137). Without a C that the Supply Unit uses, FILLING does not arm (log 19). -/
def evalFilling (s : State) : State :=
  let t :=
    if s.sup.splice = .filling ∧ s.sup.usesContent = true ∧ s.conf.fillTarget ≤ s.sup.content + s.conf.festoonCapacity / 100 then
      setSplice .armed s
    else s
  if stopTrigger t then enterPressing false t else t

/-- An evaluation in ACCELERATING: RUN once C is within capacity / 100 of the run target (R140); without a C that the Supply Unit uses
it goes on (log 19). The tests of RUN are made from the next evaluation on (log 48). -/
def evalAccelerating (s : State) : State :=
  if s.sup.usesContent = true ∧ ((s.sup.content : Int) - s.conf.runTarget).natAbs ≤ s.conf.festoonCapacity / 100 then setSplice .run s
  else s

/-- An evaluation that makes the test for an emergency first, and acts on its state when that does not hold (R138; the order in
REQUESTING, NO SLOT and SLOTTED is log 18). -/
def unlessEmergency (f : State → State) (s : State) : State := if emergencyDue s then enterPressing true s else f s

/-- An evaluation in RUN: the threshold first (R135), which may send a SEAM SLOT, then the emergency test (R138). -/
def evalRunThenEmergency (s : State) : State := unlessEmergency id (evalRun s)

/-- An evaluation in REQUESTING: with no emergency, a request is sent when none is outstanding (R136). -/
def evalRequesting (s : State) : State := if s.sup.outstanding = none then requestSlot s else s

/-- One evaluation of the splice sequence, made in READY, RUNNING and STOPPING (R135 to R140). -/
def evalSplice (s : State) : State :=
  if s.stn = .ready ∨ s.stn = .running ∨ s.stn = .stopping then
    match s.sup.splice with
    | .pressing => s
    | .accelerating => evalAccelerating s
    | .run => evalRunThenEmergency s
    | .requesting => unlessEmergency evalRequesting s
    | .noSlot => unlessEmergency id s
    | .slotted => unlessEmergency id s
    | .filling => unlessEmergency evalFilling s
    | .armed => unlessEmergency evalFilling s
  else s

/-- The festoon correction (R131). -/
def festoonCorrection (s : State) : Int :=
  let target := if s.sup.splice = .filling ∨ s.sup.splice = .armed then s.conf.fillTarget else s.conf.runTarget
  let raw := ((target : Int) - s.sup.content).tdiv 100
  if s.sup.festoon = .noReading ∨ s.sup.festoon = .lost then 0
  else if s.stn = .running then clampInt (-1000) 1000 raw
  else clampInt (-1000) 0 raw

/-- Form the unwind reference, outside HALTED (R131). -/
def formUnwind (s : State) : State :=
  if s.stn = .halted then s
  else if s.sup.splice = .pressing then
    { s with
      sup.fineUnwind := s.sup.fineUnwind - s.conf.spliceDecel
      sup.unwindRef := (s.sup.fineUnwind - s.conf.spliceDecel) / 100 }
  else { s with sup.unwindRef := (clampInt 0 s.conf.unwindMax (s.sup.vHead + festoonCorrection s)).toNat }

/-- In PRESSING with the measured speed at 0 the brake is on, and in RUNNING an unfired press is fired (R139). -/
def pressCheck (s : State) : State :=
  if s.sup.splice = .pressing ∧ s.pos.measured = 0 then
    if s.stn = .running ∧ s.sup.pressFire = false then
      { s with sup.brake := true, sup.pressFire := true, sup.pressTimer := some s.conf.pressTimeout }
    else { s with sup.brake := true }
  else s

/-- The seam of a completed splice is planned: no emergency, and E within the slot margin of Fpos (R140). -/
def seamPlanned (s : State) : Bool :=
  match s.sup.fpos with
  | some f => !s.sup.emergency && decide ((sdiff s.arrival f).natAbs ≤ s.conf.slotMargin)
  | none => false

/-- The SEAM notice of a completed splice (R140). -/
def spliceSeam (s : State) : Frame :=
  .seam ⟨s.arrival, word32 s.conf.seamLength, !seamPlanned s, false, word32 s.conf.slotMargin⟩

/-- The arms change over: the RUNNING arm becomes EXPIRED and the spare RUNNING with its whole length (R140). -/
def changeOver (s : State) : State :=
  match s.sup.running with
  | some n =>
    onArm (otherOf n) (fun a => { a.run with remaining := a.loaded }) (onArm n (fun a => { a with state := .expired }) s)
  | none => s

/-- The press done input completes a fired press's splice (R140). Fpos and the emergency mark of the finished splice are cleared here
(log 47). -/
def completeSplice (s : State) : State :=
  let t := handRollState (changeOver (postLasting (spliceSeam s) s))
  setSplice .accelerating
    { t with
      sup.pressFire := false
      sup.pressTimer := none
      sup.brake := t.sup.brake && decide (t.stn = .halted)
      sup.fpos := none
      sup.emergency := false }

/-- What a seam slot's result does to a REQUESTING splice (R136). `late` is Fpos − E. -/
def judgeSlot (fpos : Word) (s : State) : State :=
  let late := sdiff fpos s.arrival
  if late < s.conf.minSpliceLead then { s with sup.outstanding := none }
  else if (s.sup.runningRemaining : Int) - s.conf.runoutReserve < late then setSplice .noSlot s
  else setSplice .filling (setSplice .slotted { s with sup.fpos := some fpos })

/-- What a request's owner receives (R50, R51): DONE with the result value, REFUSED with the reason as received, or UNDELIVERED. -/
inductive Outcome
  | done (value : Word)
  | refused (reason : Byte)
  | undelivered
  deriving DecidableEq, Repr

/-- The owner of the SEAM SLOT is given its outcome (R136). A result for another request, or outside REQUESTING, is set aside
(log 20). -/
def slotOutcome (entry : Nat) (o : Outcome) (s : State) : State :=
  if s.sup.splice = .requesting ∧ s.sup.outstanding = some entry then
    match o with
    | .done v => judgeSlot v s
    | .refused _ => setSplice .noSlot s
    | .undelivered => { s with sup.outstanding := none }
  else s

end Sys2Proof.Machine
end

