-- ==== Sys2Proof/Machine/LayingOps.lean ====
section
/-! DEFINITION. The Laying Unit's shared operations (spec/07, spec/08): items, the commit rule (R112, R113), start and end of an item
(R114, R115), the cascade of strokes (R116 to R118), seams (R121, R122) and slots in use (R96). -/

namespace Sys2Proof.Machine

/-! ## Watches (R62) -/

/-- Set a position watch. -/
def setWatch (w : Watch) (s : State) : State := { s with pos.watches := s.pos.watches ++ [w] }

/-- Remove a watch, if it is set. -/
def dropWatch (w : Watch) (s : State) : State := { s with pos.watches := s.pos.watches.erase w }

/-- Remove every watch that delivers an event. -/
def dropEvent (e : WatchEvent) (s : State) : State := { s with pos.watches := s.pos.watches.filter (·.event ≠ e) }

/-! ## Items (R99, R110, R111) -/

/-- The flat length of an item (R99). -/
def Item.flatLen : Item → Nat
  | .panel p => p.lf
  | .gap g => g.length

/-- The pleated length of an item (R99). -/
def Item.pleatedLen : Item → Nat
  | .panel p => p.lp
  | .gap g => g.length

/-- The panel id a notice carries: 0 for a GAP. -/
def Item.id : Item → Nat
  | .panel p => p.id
  | .gap _ => 0

/-- A GAP whose origin is EMERGENCY. -/
def GapOrigin.isEmergency : GapOrigin → Bool
  | .planned _ _ => false
  | .emergency => true

/-- The flags a PANEL PASS notice of the HEAD carries: a panel's flags, or a GAP's origin and used flag (R114, R115). -/
def Item.flags : Item → PanelFlags
  | .panel p => p.flags.ofPanel
  | .gap g => PanelFlags.none.withGap g.origin.isEmergency g.used

/-- An item that is a GAP. -/
def Item.isGap : Item → Bool
  | .panel _ => false
  | .gap _ => true

/-- Set flags on a panel; a GAP takes none. -/
def Item.flag (f : PanelFlags → PanelFlags) : Item → Item
  | .panel p => .panel { p with flags := f p.flags }
  | .gap g => .gap g

/-- Mark a GAP used; a panel is left alone. -/
def Item.markUsed : Item → Item
  | .panel p => .panel p
  | .gap g => .gap { g with used := true }

/-- The end of an item's flat extent (R111). -/
def LayingItem.flatEnd (l : LayingItem) : Word := l.flatStart + word32 l.item.flatLen

/-- The end of the NEXT item's flat extent (R111). -/
def NextItem.flatEnd (n : NextItem) : Word := n.flatStart + word32 n.item.flatLen

/-- The id of the LAYING panel; 0 for a GAP or RUNOUT (R17). -/
def State.layingId (s : State) : Nat := ((s.lay.laying).map (·.item.id)).getD 0

/-- Add to or take from a slot's in-use count (R96). -/
def modifySlot (n : Nat) (f : Slot → Slot) (s : State) : State := { s with slots := s.slots.setIfInBounds n (f (s.slot n)) }

/-- A slot's in-use count rises by `k` (R96). -/
def slotGains (n k : Nat) (s : State) : State := modifySlot n (fun sl => { sl with inUse := sl.inUse + k }) s

/-- A slot's in-use count falls by one (R96). -/
def slotLoses (n : Nat) (s : State) : State := modifySlot n (fun sl => { sl with inUse := sl.inUse - 1 }) s

/-! ## Seams and the evicted extent (R121) -/

/-- The end of a seam: a + Ls. -/
def SeamEntry.stop (e : SeamEntry) : Word := e.a + e.length

/-- A seam's clear point: a + Ls plus the slot margin it carried (R113). -/
def SeamEntry.clear (e : SeamEntry) : Word := e.a + e.length + e.margin

/-- The clear points of the seams, and the end of the evicted extent, that overlap a flat range (R113). -/
def overlapping (s : State) (start stop : Word) : List Word :=
  ((s.lay.seams.filter fun e => rangesOverlap e.a e.stop start stop).map SeamEntry.clear) ++
    (match s.lay.evicted with
      | some r => if rangesOverlap r.start r.stop start stop then [r.stop] else []
      | none => [])

/-- The position furthest ahead. -/
def furthest (w : Word) (ws : List Word) : Word := ws.foldl (fun x y => if ahead y x then y else x) w

/-- A SEAM notice of the HEAD for a seam: placed with its captured position and length, or unplaced (R121). -/
def headSeam (pos length : Word) (emergency unplaced : Bool) : Frame := .seam ⟨pos, length, emergency, unplaced, 0⟩

/-- The least range that contains both (R121). -/
def FlatRange.merge (r q : FlatRange) : FlatRange :=
  ⟨if ahead r.start q.start then q.start else r.start, if ahead q.stop r.stop then q.stop else r.stop⟩

/-- Remove the watches of a seam entry. -/
def dropSeamWatches (e : SeamEntry) (s : State) : State :=
  dropWatch ⟨.flat, e.stop, .seamEnd⟩ (if e.captured.isNone then dropWatch ⟨.flat, e.a, .seamArrival⟩ s else s)

/-- Merge a range into the evicted extent, with the watch at its end (R121). -/
def evict (q : FlatRange) (s : State) : State :=
  let r := match s.lay.evicted with
    | some r => r.merge q
    | none => q
  setWatch ⟨.flat, r.stop, .evictedEnd⟩ { (dropEvent .evictedEnd s) with lay.evicted := some r }

/-- An entry is to be made in a full seam list: the oldest leaves, is posted unplaced, and its range is evicted (R121). -/
def evictOldest (s : State) : State :=
  match s.lay.seams with
  | [] => s
  | e :: rest =>
    if s.lay.seams.length < Config.seamPlaces then s
    else
      evict ⟨e.a, e.clear⟩
        (postLasting (headSeam 0 0 e.emergency true) (dropSeamWatches e { s with lay.seams := rest }))

/-- A seam enters the seam list with its two watches (R121). -/
def enterSeam (e : SeamEntry) (s : State) : State :=
  let s := evictOldest s
  setWatch ⟨.flat, e.stop, .seamEnd⟩
    (setWatch ⟨.flat, e.a, .seamArrival⟩ { s with lay.seams := s.lay.seams ++ [e] })

/-- SEAM ARRIVAL: the flat position reaches a, and the pleated position is captured (R121). -/
def seamArrival (a : Word) (s : State) : State :=
  match s.lay.seams.findIdx? (fun e => e.a == a && e.captured.isNone) with
  | some i => { s with lay.seams := modifyAt (fun e => { e with captured := some (s.posOf .pleated) }) i s.lay.seams }
  | none => s

/-- The pleated length of a seam now: pleated position minus the captured one, 0 when negative (R121). -/
def seamLengthNow (s : State) (captured : Word) : Word :=
  if sdiff (s.posOf .pleated) captured < 0 then 0 else s.posOf .pleated - captured

/-- SEAM PASSED: the flat position reaches a + Ls; the entry leaves and a SEAM notice goes downstream (R121). A seam whose end is
reached before its arrival was captured reports a free value as its position (log 22). -/
def seamPassed (target : Word) (s : State) : State :=
  match s.lay.seams.findIdx? (fun e => e.stop == target) with
  | none => s
  | some i =>
    match s.lay.seams[i]? with
    | none => s
    | some e =>
      let t := { s with lay.seams := s.lay.seams.eraseIdx i }
      match e.captured with
      | some p => postLasting (headSeam p (seamLengthNow s p) e.emergency false) t
      | none =>
        let (p, t) := freeValue (dropWatch ⟨.flat, e.a, .seamArrival⟩ t)
        postLasting (headSeam p (seamLengthNow s p) e.emergency false) t

/-! ## Commit (R112, R113) -/

/-- The planned start of a candidate (R112). -/
def plannedStart (s : State) : Word :=
  match s.lay.laying with
  | some l => l.flatEnd
  | none => s.posOf .flat + word32 s.conf.commitLead

/-- An item becomes NEXT at a flat start, with its watch; the own ceiling is recomputed (R105, R112). -/
def commitAt (item : Item) (start : Word) (s : State) : State :=
  reformOwn (setWatch ⟨.flat, start, .itemStart⟩ { s with lay.next := some ⟨item, start⟩ })

/-- The length of a PLANNED GAP: the seam length plus twice the slot margin (R112). -/
def plannedLength (length margin : Word) : Nat := length.toNat + 2 * margin.toNat

/-- Commit a PLANNED GAP for a SEAM SLOT; marked used when a seam or the evicted extent overlaps it (R112). -/
def commitSlot (requester : Station) (id : Byte) (length margin : Word) (s : State) : State :=
  let start := plannedStart s
  let n := plannedLength length margin
  let used := !(overlapping s start (start + word32 n)).isEmpty
  commitAt (.gap ⟨.planned requester id, n, used⟩) start s

/-- The Fpos a SEAM SLOT is given: the planned start plus the slot margin (R112). -/
def slotFpos (margin : Word) (s : State) : Word := plannedStart s + margin

/-- Commit the first QUEUED panel, or an EMERGENCY GAP in its place when a seam or the evicted extent overlaps it (R113). -/
def commitPanel (p : Panel) (rest : List Panel) (s : State) : State :=
  let start := plannedStart s
  match overlapping s start (start + word32 p.lf) with
  | [] => commitAt (.panel p) start { s with lay.queued := rest }
  | c :: cs => commitAt (.gap ⟨.emergency, (furthest c cs - start).toNat, true⟩) start s

/-- The delayed entry of a requester and id becomes COMPLETE; its hold timer starts (R54). -/
def Msg.complete (requester : Station) (id : Byte) (f : Final) (hold : Nat) (m : Msg) : Msg :=
  { m with delayed := m.delayed.map fun d =>
      if d.requester = requester ∧ d.id = id then { d with result := some f, hold := some hold } else d }

/-- The first PENDING SEAM SLOT of the delayed answer table (R112). -/
def Msg.pendingSlot (m : Msg) : Option Delayed := m.delayed.find? fun d => d.result.isNone && d.body.code == .seamSlot

/-- The commit rule (R112). -/
def commitRule (s : State) : State :=
  match s.lay.next with
  | some _ => s
  | none =>
    match s.msg.pendingSlot with
    | some ⟨r, id, .seamSlot length margin, _, _⟩ =>
      let t := commitSlot r id length margin s
      { t with msg := t.msg.complete r id (.done (slotFpos margin s)) s.conf.answerHold }
    | _ =>
      match s.lay.queued with
      | p :: rest => commitPanel p rest s
      | [] => s

/-! ## The cascade (R98, R116) -/

/-- The fold of a step record (section 13.2). -/
inductive Fold
  | flat | knife | box
  deriving DecidableEq, Repr

/-- The fold a code names, if any. -/
def foldOf (b : Byte) : Option Fold :=
  match b.toNat with
  | 0 => some .flat | 1 => some .knife | 2 => some .box | _ => none

/-- The step record at a step of a slot. -/
def Slot.record (sl : Slot) (j : Nat) : StepRec := ((sl.places[j]?).getD StepPlace.blank).record

/-- The step in force of the LAYING panel: its geometry and its record; none when the counter has reached the step count, and for a
GAP or RUNOUT (R98, R116). -/
def stepInForce (s : State) : Option (Geom × StepRec) :=
  match s.lay.laying with
  | some ⟨.panel p, _, _, j, _, _, _, _⟩ =>
    (((s.slot p.slot).geoms p.grade)[j]?).map fun g => (g, (s.slot p.slot).record j)
  | _ => none

/-- The pleated length of the steps before step `j`: the sum of r × p (R116). -/
def pleatedBefore (geoms : List Geom) (sl : Slot) (j : Nat) : Nat :=
  ((geoms.take j).mapIdx fun i g => (sl.record i).repeats.toNat * g.p).sum

/-- The next stroke point of a folded step, or the step end of a PLAIN one, measured from the step's pleated start (R116). -/
def pointInStep (g : Geom) (r : StepRec) (pleat stroke : Nat) : Nat :=
  if g.k = 0 then r.repeats.toNat * g.p
  else if g.spp = 2 ∧ stroke = 0 then pleat * g.p + g.p / 2
  else (pleat + 1) * g.p

/-- Set the cascade's watch at the next stroke point or step end; none when the step counter has reached the step count (R116). -/
def setCascade (s : State) : State :=
  match s.lay.laying, stepInForce s with
  | some l, some (g, r) =>
    match l.item with
    | .panel p =>
      let base := pleatedBefore ((s.slot p.slot).geoms p.grade) (s.slot p.slot) l.step
      setWatch ⟨.pleated, l.pleatedStart + word32 (base + pointInStep g r l.pleat l.stroke), .cascade⟩ s
    | .gap _ => s
  | _, _ => s

/-- Change the LAYING item. -/
def onLaying (f : LayingItem → LayingItem) (s : State) : State := { s with lay.laying := s.lay.laying.map f }

/-- Set flags on the LAYING panel. -/
def flagLaying (f : PanelFlags → PanelFlags) (s : State) : State := onLaying (fun l => { l with item := l.item.flag f }) s

/-- Give a stroke: a pulse on the named output, the stroke in flight, the blade home timer started (R117, R168).
A pulse that still runs on that output is begun anew (log 44). -/
def giveStroke (side : Side) (s : State) : State :=
  let t := { s with lay.inFlight := true, lay.bladeTimer := some s.conf.bladeTimeout }
  match side with
  | .left => { t with lay.pulseLeft := some Config.strokePulseMs }
  | .right => { t with lay.pulseRight := some Config.strokePulseMs }

/-- The stroke output a stroke point names: a BOX pleat's first point LEFT, its second RIGHT; a KNIFE step's own direction (R116). -/
def strokeSide (g : Geom) (r : StepRec) (stroke : Nat) : Side :=
  if g.spp = 2 then (if stroke = 0 then .left else .right) else if r.direction.toNat = 1 then .left else .right

/-- A stroke point advances X by F / spp and re-forms the take-up error (R106). -/
def advanceMark (g : Geom) (s : State) : State :=
  match s.lay.mark with
  | some x =>
    let x' := x + word32 (g.f / g.spp)
    { s with lay.mark := some x', lay.error := sdiff (s.posOf .flat) x' }
  | none => s

/-- The slip test of a stroke point (R108). -/
def slipTest (s : State) : State :=
  match s.lay.laying with
  | some l =>
    if s.conf.slipLimit < s.lay.error.natAbs ∧ l.slipMark = false then
      recordFault .pleatSlip l.item.id
        (onLaying (fun l => { l with slipMark := true, item := l.item.flag fun f => { f with pleat := true } }) s)
    else s
  | none => s

/-- A stroke overrun: no stroke, PLEAT set, STROKE OVERRUN raised once per panel (R118). -/
def overrun (s : State) : State :=
  let t := flagLaying (fun f => { f with pleat := true }) s
  match s.lay.laying with
  | some l => if l.overrunMark then t else recordFault .strokeOverrun l.item.id (onLaying (fun l => { l with overrunMark := true }) t)
  | none => t

/-- The stroke at a stroke point: none in HALTED, an overrun while one is in flight, else given (R117). -/
def strokeAt (side : Side) (s : State) : State :=
  if s.stn = .halted then s else if s.lay.inFlight then overrun s else giveStroke side s

/-- The counters after a stroke point (R116). -/
def countStroke (g : Geom) (r : StepRec) (l : LayingItem) : LayingItem :=
  if l.stroke + 1 < g.spp then { l with stroke := l.stroke + 1 }
  else if l.pleat + 1 < r.repeats.toNat then { l with stroke := 0, pleat := l.pleat + 1 }
  else { l with stroke := 0, pleat := 0, step := l.step + 1 }

/-- The cascade's watch fires: a step end or a stroke point (R106, R108, R116, R117). -/
def cascadeFires (s : State) : State :=
  match s.lay.laying, stepInForce s with
  | some l, some (g, r) =>
    if g.k = 0 then
      let t := { s with lay.mark := s.lay.mark.map (· + word32 (r.repeats.toNat * g.p)) }
      setCascade (onLaying (fun l => { l with pleat := 0, step := l.step + 1 }) t)
    else
      setCascade (onLaying (countStroke g r) (strokeAt (strokeSide g r l.stroke) (slipTest (advanceMark g s))))
  | _, _ => s

/-! ## Start and end of an item (R114, R115) -/

/-- The PANEL PASS START of an item that becomes LAYING (R114). A GAP's length above 2^32 − 1 is sent modulo 2^32 (log 45). -/
def passStartOf (item : Item) (pleatedStart : Word) : Frame :=
  .passStart
    { isGap := item.isGap
      id := half16 item.id
      slot := match item with
        | .panel p => BitVec.ofNat 8 p.slot
        | .gap _ => 0
      grade := match item with
        | .panel p => BitVec.ofNat 8 p.grade
        | .gap _ => 0
      start := pleatedStart
      length := word32 item.pleatedLen
      flags := item.flags }

/-- The PANEL PASS END of an item of the HEAD, which gives no outcome and no verdict (R115). -/
def passEndOf (item : Item) : Frame := .passEnd ⟨item.isGap, half16 item.id, item.flags, .none, .none⟩

/-- ITEM END: the flat position reaches the end of the LAYING item's flat extent (R115). The last pleats not made set PLEAT, and the
take-up error is 0 through the RUNOUT that may follow (R106). -/
def itemEnd (s : State) : State :=
  match s.lay.laying with
  | none => s
  | some l =>
    let cut := match stepInForce s with
      | some (g, _) => decide (g.k ≠ 0)
      | none => false
    let item := if cut then l.item.flag fun f => { f with pleat := true } else l.item
    let t := dropEvent .cascade s
    let t := postLasting (passEndOf item) { t with lay.laying := none, lay.error := 0 }
    let t := match item with
      | .panel p => slotLoses p.slot t
      | .gap _ => t
    commitRule (reformOwn t)

/-- The NEXT item becomes LAYING, and the commit rule runs (R114). -/
def startItem (n : NextItem) (s : State) : State :=
  let item := if s.stn = .halted then n.item.flag fun f => { f with halt := true } else n.item
  let l : LayingItem := ⟨item, n.flatStart, s.posOf .pleated, 0, 0, 0, false, false⟩
  let t := { s with
    lay.laying := some l
    lay.next := none
    lay.mark := some n.flatStart
    lay.error := 0 }
  let t := setWatch ⟨.flat, l.flatEnd, .itemEnd⟩ (setCascade t)
  commitRule (postLasting (passStartOf item l.pleatedStart) (reformOwn t))

/-- ITEM START: the flat position reaches the NEXT item's flat start (R114). A LAYING item has ended before: its end is taken first
(R115). -/
def itemStart (s : State) : State :=
  match s.lay.next with
  | none => s
  | some n =>
    match s.lay.laying with
    | none => startItem n s
    | some _ => startItem n (itemEnd (dropEvent .itemEnd s))

/-! ## A seam against the committed set (R122) -/

/-- The LAYING item against a seam's range: a GAP is marked used, a panel takes SEAM (R122). -/
def seamOnLaying (a stop : Word) (s : State) : State :=
  match s.lay.laying with
  | some l =>
    if rangesOverlap a stop l.flatStart l.flatEnd then
      onLaying (fun l => { l with item := (l.item.flag fun f => { f with seam := true }).markUsed }) s
    else s
  | none => s

/-- Return the NEXT panel to the front of the QUEUED panels (R122). -/
def returnNext (p : Panel) (s : State) : State :=
  reformOwn (dropEvent .itemStart { s with lay.next := none, lay.queued := p :: s.lay.queued })

/-- The NEXT item against a seam's range: a GAP is marked used; a panel is returned and the commit rule runs (R122). -/
def seamOnNext (a stop : Word) (s : State) : State :=
  match s.lay.next with
  | some n =>
    if rangesOverlap a stop n.flatStart n.flatEnd then
      match n.item with
      | .gap _ => { s with lay.next := some { n with item := n.item.markUsed } }
      | .panel p => commitRule (returnNext p s)
    else s
  | none => s

end Sys2Proof.Machine
end

