-- ==== Sys2Proof/Machine/MapOps.lean ====
section
/-! DEFINITION. The Map Unit's shared operations (spec/11): spans, overlap, entry and leaving of the chest, the verdict. -/

namespace Sys2Proof.Machine

/-- A span's end: S + length. -/
def Span.stop (sp : Span) : Word := sp.start + sp.length

/-- The end by which a span overlaps: a SEAM of length 0 covers the one line unit at its start (R156). -/
def Span.coverStop (sp : Span) : Word :=
  match sp.kind with
  | .seam _ => if sp.length = 0 then sp.start + 1 else sp.stop
  | _ => sp.stop

/-- A span's leaving point: S + length + chest length (R156). -/
def leavingPoint (s : State) (start length : Word) : Word := start + length + word32 s.conf.chestLength

/-- Two spans overlap (R156). -/
def Span.overlaps (x y : Span) : Bool := rangesOverlap x.start x.coverStop y.start y.coverStop

/-- A PANEL span with the given id. -/
def Span.isPanel (sp : Span) (id : Half) : Bool :=
  match sp.kind with
  | .panel i _ _ => i == id
  | _ => false

/-- A GAP span. -/
def Span.isGap (sp : Span) : Bool :=
  match sp.kind with
  | .gap _ _ => true
  | _ => false

/-- A SEAM span. -/
def Span.isSeam (sp : Span) : Bool :=
  match sp.kind with
  | .seam _ => true
  | _ => false

/-- What a seam does to a span it overlaps: a PANEL takes the own flag SEAM, a GAP is marked used (R157, R158). -/
def Span.takeSeam (sp : Span) : Span :=
  match sp.kind with
  | .panel .. => { sp with own := { sp.own with seam := true } }
  | .gap e _ => { sp with kind := .gap e true }
  | .seam _ => sp

/-- Insert a span at its place in increasing start (R156, R157). -/
def insertSpan (sp : Span) : List Span → List Span
  | [] => [sp]
  | x :: xs => if ahead x.start sp.start then sp :: x :: xs else x :: insertSpan sp xs

/-- Test 1 of R157: S + length + chest length is ahead of M. -/
def notGone (s : State) (start length : Word) : Bool := ahead (leavingPoint s start length) s.mapPos

/-- Test 2 of R157: with a window ahead that is not 0, S − M is at most the window. -/
def inWindow (s : State) (start : Word) : Bool :=
  decide (s.conf.windowAhead = 0) || decide (sdiff start s.mapPos ≤ s.conf.windowAhead)

/-- Test 4 of R157 fails: some span has the same start. -/
def startTaken (s : State) (start : Word) : Bool := s.map.spans.any (·.start == start)

/-- Test 5 of R157: the map holds fewer than 24 spans. -/
def mapRoom (s : State) : Bool := decide (s.map.spans.length < Config.mapPlaces)

/-- A span enters the map as APPROACHING, with its watch (R157, R158). -/
def mapSpan (sp : Span) (s : State) : State :=
  setWatch ⟨.map, sp.start, .spanEntry sp.start⟩ { s with map.spans := insertSpan sp s.map.spans }

/-- The ORed flags a notice about a span carries, with a GAP's origin and used flag (R160, R162). -/
def Span.flagsNow (sp : Span) : PanelFlags :=
  match sp.kind with
  | .gap e u => (sp.received.or sp.own).withGap e u
  | _ => sp.received.or sp.own

/-- The PANEL PASS START a SETTER queues at a span's entry (R160); none for a SEAM. -/
def spanStart (sp : Span) : Option Frame :=
  match sp.kind with
  | .panel id slot grade => some (.passStart ⟨false, id, slot, grade, sp.start, sp.length, sp.flagsNow⟩)
  | .gap _ _ => some (.passStart ⟨true, 0, 0, 0, sp.start, sp.length, sp.flagsNow⟩)
  | .seam _ => none

/-- SPAN ENTERS CHEST: M reaches S (R160). -/
def spanEntry (start : Word) (s : State) : State :=
  match s.map.spans.findIdx? (fun sp => sp.start == start && decide (sp.phase = .approaching)) with
  | none => s
  | some i =>
    match s.map.spans[i]? with
    | none => s
    | some sp =>
      let sp' := { sp with
        phase := .inChest s.pos.measured (coldest s) 0
        own := if s.stn = .halted then { sp.own with halt := true } else sp.own }
      let t := setWatch ⟨.map, leavingPoint s sp.start sp.length, .spanLeave sp.start⟩
        { s with map.spans := s.map.spans.set i sp' }
      match spanStart sp' with
      | some f => if s.conf.lineEnd then t else postLasting f t
      | none => t

/-- The verdict of an occupancy record (R163). A v_peak of 0 takes the speed term as met, which is read as the dwell being long enough: no
UNDERSET by speed (log 39). -/
def verdictOf (s : State) (vPeak : Nat) (tLow : Option Int) (standstill : Nat) : Verdict :=
  if s.conf.standstillLimit < standstill then .overset
  else match tLow with
    | none => .underset
    | some t => match dwellRequirement s t with
      | none => .underset
      | some d => if vPeak ≠ 0 ∧ s.conf.chestLength / vPeak < d then .underset else .set

/-- The reported verdict: HALT, SEAM, PLEAT, NO END, then the outcome (R163). -/
def reportedOf (f : PanelFlags) (v : Verdict) : Reported :=
  if f.halt then .halt else if f.seam then .seam else if f.pleat then .pleat else if f.noEnd then .noEnd
  else match v with
    | .none => .none
    | .set => .set
    | .underset => .underset
    | .overset => .overset

/-- The notice a SETTER queues when a span leaves its chest (R162). -/
def spanEnd (s : State) (sp : Span) : Frame :=
  match sp.kind with
  | .panel id _ _ =>
    let v := match sp.phase with
      | .inChest vPeak tLow standstill => verdictOf s vPeak tLow standstill
      | .approaching => verdictOf s 0 none 0
    .passEnd ⟨false, id, sp.flagsNow, v, reportedOf sp.flagsNow v⟩
  | .gap _ _ => .passEnd ⟨true, 0, sp.flagsNow, .none, .none⟩
  | .seam e => .seam ⟨sp.start, sp.length, e, false, 0⟩

/-- SPAN LEAVES CHEST: M reaches S + length + chest length (R162). -/
def spanLeave (start : Word) (s : State) : State :=
  match s.map.spans.findIdx? (fun sp => sp.start == start && decide (sp.phase ≠ .approaching)) with
  | none => s
  | some i =>
    match s.map.spans[i]? with
    | none => s
    | some sp =>
      let sp' := if sp.endSeen then sp else { sp with own := { sp.own with noEnd := true } }
      { (postLasting (spanEnd s sp') s) with map.spans := s.map.spans.eraseIdx i }

/-- A span that is IN CHEST. -/
def Span.inChest (sp : Span) : Bool := decide (sp.phase ≠ .approaching)

/-- Entry to HALTED: every IN CHEST span takes the own flag HALT (R161). -/
def haltSpans (spans : List Span) : List Span :=
  spans.map fun sp => if sp.inChest then { sp with own := { sp.own with halt := true } } else sp

/-- Expiry of the speed timer: v_peak and standstill of an IN CHEST span (R161). -/
def Span.speedTick (stn : StationState) (v : Nat) (sp : Span) : Span :=
  match sp.phase with
  | .approaching => sp
  | .inChest p t st =>
    let stands := v = 0 ∧ (stn = .ready ∨ stn = .running ∨ stn = .stopping)
    { sp with phase := .inChest (max p v) t (if stands then min 1000000 (st + 10) else st) }

/-- Expiry of the sample timer: T_low of an IN CHEST span (R161); COLD when T_cold has no value. -/
def Span.sampleTick (cold : Option Int) (sp : Span) : Span :=
  match sp.phase with
  | .approaching => sp
  | .inChest p t st =>
    let t' := match t, cold with
      | some a, some b => some (min a b)
      | _, _ => none
    { sp with phase := .inChest p t' st }

/-- After a capture: every APPROACHING span that fails the window test leaves with its watch (R164). -/
def windowTest (s : State) : State :=
  let gone := s.map.spans.filter fun sp => !sp.inChest && !inWindow s sp.start
  { s with
    map.spans := s.map.spans.filter fun sp => sp.inChest || inWindow s sp.start
    pos.watches := s.pos.watches.filter fun w => !(gone.any fun sp => w.event == .spanEntry sp.start) }

end Sys2Proof.Machine
end

