-- ==== Sys2Proof/Machine/Watches.lean ====
section
/-! DEFINITION. The firing of position watches (R62): each watch whose position has reached its target is removed and delivered to its
owner, the one furthest behind first. -/

namespace Sys2Proof.Machine

/-- How far a watch's position is past its target; the watch fires when this is not negative (R62). -/
def Watch.past (s : State) (w : Watch) : Int := sdiff (s.posOf w.pos) w.target

/-- Order of watches with equal targets (log 12): a seam's arrival before its end, an item's end before the next item's start (R115), a
span's leaving before another's entry. -/
def WatchEvent.rank : WatchEvent → Nat
  | .seamArrival => 0
  | .seamEnd => 1
  | .evictedEnd => 2
  | .itemEnd => 3
  | .itemStart => 4
  | .cascade => 5
  | .spanLeave _ => 6
  | .spanEntry _ => 7

/-- Of two watches that fire, the one delivered first (R62); of two with one event kind and one target, the one set first (log 12). -/
def firstOf (s : State) (v w : Watch) : Watch :=
  if v.past s < w.past s ∨ (v.past s = w.past s ∧ w.event.rank < v.event.rank) then w else v

/-- The watch that fires next, if any. One whose target is exactly 2^31 from its position is not due: R57 says that neither reaches the
other (log 46). -/
def nextDue (s : State) : Option Watch :=
  match s.pos.watches.filter fun w => decide (0 ≤ w.past s) with
  | [] => none
  | w :: ws => some (ws.foldl (firstOf s) w)

/-- Deliver a watch's event to the block that set it (R62). -/
def deliver (w : Watch) (s : State) : State :=
  match w.event with
  | .itemStart => itemStart s
  | .itemEnd => itemEnd s
  | .cascade => cascadeFires s
  | .seamArrival => seamArrival w.target s
  | .seamEnd => seamPassed w.target s
  | .evictedEnd => { s with lay.evicted := none }
  | .spanEntry start => spanEntry start s
  | .spanLeave start => spanLeave start s

/-- Fire watches, at most `n` of them, until none is due. -/
def fire : Nat → State → State
  | 0, s => s
  | n + 1, s =>
    match nextDue s with
    | none => s
    | some w => fire n (deliver w (dropWatch w s))

/-- Fire every watch that is due (R62; the bound is log 12). -/
def settle (s : State) : State := fire Config.watchFuel s

end Sys2Proof.Machine
end

