-- ==== Sys2Proof/Machine/Transitions.lean ====
section
/-! DEFINITION. The transitions between station states (spec/01): entry to and exit from each state with what every block does at it, the
local causes of a LINE STOP (R13, R14), and the release of HALTED (R16). -/

namespace Sys2Proof.Machine

/-! ## The medium as Station Control uses it -/

/-- A dominant edge on an IDLE bus: the bus becomes BUSY, a frame begins and the positions are latched (R20, R64). -/
def noteEdge (s : State) : State :=
  if s.link.bus = .idle then { s with link.bus := .busy, link.latch := some s.latchNow } else s

/-- Ask for the LINE STOP pattern (R28): a frame in flight of this station stays queued, unchanged. -/
def sendPattern (s : State) : State :=
  if s.link.tx = .sendingStop then s
  else noteEdge { s with link.tx := .sendingStop, link.wire := [], msg := s.msg.land }

/-! ## The Setting Unit's parts of a transition (R149 to R151) -/

/-- The over-band test of the vent, from the state it had before (R151). -/
def overBand (before : Bool) (band : Nat) (zones : List Zone) : Bool :=
  let used := zones.filter Zone.inUse
  if used.any fun z => match z.reading with
      | some r => decide (z.setpoint + band < r)
      | none => false
  then true
  else if used.all fun z => match z.reading with
      | some r => decide (r ≤ z.setpoint)
      | none => true
  then false
  else before

/-- Duty and integral of a zone become 0 (R145, R147, R149, R150). -/
def Zone.shut (z : Zone) : Zone := { z with integral := 0, duty := 0 }

/-- The vent after an event that re-forms it: on throughout HALTED, else by the over-band test (R151). -/
def reformVent (s : State) : State :=
  { s with set.vent := if s.stn = .halted then true else overBand s.set.vent s.conf.band s.set.zones }

/-! ## Registration (R63) -/

/-- The registration of a SETTER becomes UNCAPTURED, the map position held where it stands (R63). -/
def uncapture (s : State) : State :=
  if s.role = some .setter then { s with pos.held := s.mapPos, pos.reg := .uncaptured } else s

/-! ## Entry to HALTED -/

/-- The HEAD at the entry to HALTED: the LAYING panel takes HALT (R125). -/
def haltHead (s : State) : State := flagLaying (fun f => { f with halt := true }) s

/-- The SUPPLY at the entry to HALTED: the emergency ramp starts from the unwind reference (R80), the brake comes on when that is 0
(R142). -/
def haltSupply (s : State) : State :=
  { s with spd.fine := 100 * s.sup.unwindRef, sup.brake := s.sup.brake || decide (s.sup.unwindRef = 0) }

/-- A SETTER at the entry to HALTED: SUSPENDED (R63, R67), valves shut and vent on (R149, R151), spans in the chest flagged (R161). -/
def haltSetter (s : State) : State :=
  { s with
    pos.reg := .suspended
    pos.errorRun := 0
    set.zones := s.set.zones.map Zone.shut
    set.vent := true
    map.spans := haltSpans s.map.spans }

/-- What the role units do at the entry to HALTED. -/
def haltRole (s : State) : State :=
  match s.role with
  | some .head => haltHead s
  | some .supply => haltSupply s
  | some .setter => haltSetter s
  | none => s

/-- The station enters HALTED (R12, R14, R15): the entry clear count and the quiet timer, the role's actions, POSITION (R70), CEILING on
leaving RUNNING (R83), and what a moved map position brings (log 28). -/
def enterHalted (s : State) : State :=
  let t := haltRole { s with stn := .halted, ctl.entryClear := s.ctl.lastClear, ctl.quiet := some Config.quietMs }
  let t := handPosition t
  let t := if s.stn = .running then handCeiling t else t
  cadence s.refPos (settle t)

/-- A local LINE STOP cause (R14): in HALTED it is recorded, and a latched one sets the entry clear count again; in the other live
states the record is set, HALTED entered, the pattern asked for and a FAULT queued. In CONFIG and CONFIG FAULT none is raised (R13). -/
def localCause (code : FaultCode) (detail : Nat) (latched : Bool) (s : State) : State :=
  if !s.live then s
  else if s.stn = .halted then
    recordFault code detail (if latched then { s with ctl.entryClear := s.ctl.lastClear } else s)
  else
    let r : FaultRecord := ⟨code, half16 detail, s.stn⟩
    postLasting (.fault r) (sendPattern (enterHalted { s with fault := some r }))

/-! ## The other states -/

/-- Entry to LISTEN: heard flags cleared (R6), registration UNCAPTURED (R63), POSITION and CEILING handed (R70, R83), then the input
test (R7, log 10). -/
def enterListen (s : State) : State :=
  let t := uncapture { s with stn := .listen, ctl.consoleHeard := false, ctl.neighbourHeard := false }
  let t := handCeiling (handPosition t)
  if t.port.eStop then localCause .eStop 0 false t
  else if t.port.webBreak then localCause .webBreak 0 false t
  else t

/-- Entry to READY (R70). -/
def enterReady (s : State) : State := handPosition { s with stn := .ready }

/-- Entry to RUNNING (R70, R83). -/
def enterRunning (s : State) : State := handCeiling (handPosition { s with stn := .running })

/-- Both heard flags are set (R6). -/
def State.heard (s : State) : Bool := s.ctl.consoleHeard && s.ctl.neighbourHeard

/-- The commanded speed that ends STOPPING is 0 (R10, R79). -/
def State.atRest (s : State) : Bool :=
  if s.role = some .supply then decide (s.sup.unwindRef = 0) else decide (s.spd.fine = 0)

/-- The exit to READY, or to LISTEN when a heard flag is clear (R10, R16). -/
def enterReadyOrListen (s : State) : State := if s.heard then enterReady s else enterListen s

/-- The test for the end of STOPPING (R10). -/
def stoppingEnd (s : State) : State := if s.stn = .stopping ∧ s.atRest = true then enterReadyOrListen s else s

/-- Entry to STOPPING, with the test made there (R9, R10). -/
def enterStopping (s : State) : State := stoppingEnd (handCeiling (handPosition { s with stn := .stopping }))

/-- LISTEN becomes READY when both heard flags are set (R7). -/
def listenTest (s : State) : State := if s.stn = .listen ∧ s.heard = true then enterReady s else s

/-! ## Exit from HALTED (R16) -/

/-- The conditions for leaving HALTED (R16). -/
def State.mayLeaveHalted (s : State) : Bool :=
  decide (s.stn = .halted)
    && (match s.ctl.lastClear, s.ctl.entryClear with
      | some a, some b => decide (a ≠ b)
      | _, _ => false)
    && s.ctl.quiet.isNone && !s.port.eStop && !s.port.webBreak

/-- What the role units do on leaving HALTED: the SUPPLY's brake and ramp (R80, R131, R142); a SETTER's registration, mark and vent
(R63, R150, R151). -/
def releaseRole (s : State) : State :=
  match s.role with
  | some .supply =>
    { s with
      spd.fine := 0
      sup.fineUnwind := 0
      sup.brake := s.sup.brake && decide (s.sup.splice = .pressing ∧ s.pos.measured = 0) }
  | some .setter =>
    uncapture { s with set.overMark := false, set.vent := overBand false s.conf.band s.set.zones }
  | _ => s

/-- Leave HALTED if the conditions hold (R16). -/
def haltedExit (s : State) : State :=
  if s.mayLeaveHalted then
    enterReadyOrListen (releaseRole { s with ctl.quiet := none, ctl.entryClear := none })
  else s

/-! ## Running -/

/-- The role conditions for RUNNING (R8). -/
def State.mayRun (s : State) : Bool :=
  if s.role = some .supply then
    decide (0 < s.sup.runningRemaining) && decide (s.sup.festoon ≠ .noReading) && decide (s.sup.festoon ≠ .lost)
  else true

/-- A stop cause taken in RUNNING enters STOPPING (R9). -/
def stopCause (s : State) : State := if s.stn = .running then enterStopping s else s

end Sys2Proof.Machine
end

