-- ==== Sys2Proof/Machine/Receive.lean ====
section
/-! DEFINITION. Receiving (spec/02, sections 2.6 to 2.8): the accept table (R33), what becomes of a frame on the line (R30, R31, R64),
silence timers (R35), and the examination of a REQUEST and of an ANSWER (R45 to R53). -/

namespace Sys2Proof.Machine

/-! ## The accept table -/

/-- The entry R33 gives a tag value. -/
def acceptOf (c : Cfg) (tag : Nat) : Accept :=
  let st : Station := BitVec.ofNat 3 (tag / 16)
  let n := decide (st = c.neighbour)
  let console := decide (st = consoleStation)
  let member := c.members.getLsbD st.toNat && decide (st ≠ c.number)
  match tag % 16 with
  | 0 => if n then .watch else .off
  | 1 => if decide (c.role ≠ .supply) && member && !console then .take else .off
  | 2 => if decide (c.role = .setter) && n then .take else .off
  | 3 => if decide (c.role ≠ .supply) && n then .take else .off
  | 6 => if console || (decide (c.role = .head) && n) then .take else .off
  | 7 => if decide (c.role = .supply) && n then .take else .off
  | 8 => if console then .watch else .off
  | _ => .off

/-- The accept table of a configuration (R33). -/
def acceptTable (c : Cfg) : Vector Accept 128 := Vector.ofFn fun i => acceptOf c i

/-- The accept table entry of a tag value in force (R30). -/
def State.accept (s : State) (tag : Nat) : Accept := (s.link.accept[tag]?).getD .off

/-! ## A frame on the line -/

/-- The receiver runs in every state but CONFIG (R37). -/
def State.receives (s : State) : Bool := decide (s.stn ≠ .config)

/-- The latch of the frame that has just ended: the one its start made, or, for a frame whose start is not given as a command of its
own, the positions as they stand; none when the receiver has seen no start (R20, R64, log 5). -/
def State.frameLatch (s : State) : Option Latch :=
  if !s.receives then none
  else match s.link.latch with
    | some l => some l
    | none => if s.link.bus = .idle then some s.latchNow else none

/-- The frame on the line is over for the latch (R64). -/
def dropLatch (s : State) : State := { s with link.latch := none }

/-- A broken frame is counted, saturating at 255 (R31). -/
def countBroken (s : State) : State := { s with link.broken := satInc s.link.broken }

/-- A frame with good characters, of a kind and sender and with a payload, has ended: not seen or not collected it has no effect; with a
length not allowed for its kind it is broken (R30, R31); else it is delivered with its latch (R32, R64). -/
def receive (kind : Nat) (sender : Station) (payload : List Byte) (deliver : Latch → State → State) (s : State) : State :=
  match s.frameLatch with
  | none => s
  | some l =>
    let t := dropLatch s
    if s.accept (tagOf sender kind) = .off then t
    else if lengthOk kind payload.length then deliver l t
    else countBroken t

/-- Restart the watched neighbour's silence timer (R35). -/
def hearNeighbour (s : State) : State :=
  listenTest { s with link.neighbourSilence := some s.conf.silenceLimit, ctl.neighbourHeard := true }

/-! ## The examination of a REQUEST (R45) -/

/-- The role that serves a request code (section 3.3). -/
def ReqCode.role : ReqCode → Role
  | .rollLoad => .supply
  | .setpoint => .setter
  | _ => .head

/-- A code that may be delayed (section 3.3). -/
def ReqCode.delayable : ReqCode → Bool
  | .seamSlot => true
  | .rollLoad => true
  | _ => false

/-- The requester allowed for a code: the watched neighbour for SEAM SLOT, the console for every other (R46). -/
def State.allowed (s : State) (code : ReqCode) (sender : Station) : Bool :=
  if code = .seamSlot then decide (sender = s.neighbour) else decide (sender = consoleStation)

/-- Answer a request with DONE or REFUSED (R47). -/
def answer (sender : Station) (id : Byte) (code : ReqCode) (f : Final) (s : State) : State :=
  { s with msg := s.msg.finish ⟨sender, id, code, f⟩ }

/-- Answer a request with WAIT or BUSY (R41). -/
def interim (sender : Station) (id : Byte) (code : ReqCode) (b : AnswerBody) (s : State) : State :=
  { s with msg := s.msg.handInterim ⟨id, sender, code, b⟩ }

/-- DONE with no result value. -/
def done : Final := .done 0

/-- REFUSED with a reason alone. -/
def refused (r : RefusalReason) : Final := .refused r 0 0

/-- The answered list entry of a requester, id and code (R45, step 3). -/
def Msg.findAnswered (m : Msg) (sender : Station) (id : Byte) (code : ReqCode) : Option Answered :=
  m.answered.find? fun a => a.requester == sender && a.id == id && a.code == code

/-- The delayed entry of a requester and id (R45, step 4). -/
def Msg.findDelayed (m : Msg) (sender : Station) (id : Byte) : Option Delayed :=
  m.delayed.find? fun d => d.requester == sender && d.id == id

/-- Discard the delayed entry of a requester and id. -/
def Msg.dropDelayed (m : Msg) (sender : Station) (id : Byte) : Msg :=
  { m with delayed := m.delayed.filter fun d => !(d.requester == sender && d.id == id) }

/-- The answer of the delayed answer table to a repeat (R53). -/
def answerDelayed (d : Delayed) (code : ReqCode) (s : State) : State :=
  if d.body.code = code then
    match d.result with
    | none => interim d.requester d.id code .wait s
    | some f => answer d.requester d.id code f { s with msg := s.msg.dropDelayed d.requester d.id }
  else interim d.requester d.id code .busy s

/-- The delayed answer table holds an entry of this requester and code (R45, step 7). -/
def Msg.delays (m : Msg) (sender : Station) (code : ReqCode) : Bool :=
  m.delayed.any fun d => d.requester == sender && d.body.code == code

/-- The examination of a REQUEST of a listed code with a length right for it (R45); `serve` is the serving block. -/
def examine (code : ReqCode) (sender : Station) (r : RequestIn) (serve : Byte → ReqBody → State → State) (s : State) : State :=
  if r.target ≠ stationByte s.conf.number then s
  else match s.msg.findAnswered sender r.id code with
    | some a => { s with msg := s.msg.handAsk (.answer a.msg) (.answer a.requester a.id) }
    | none => match s.msg.findDelayed sender r.id with
      | some d => answerDelayed d code s
      | none =>
        if s.role ≠ some code.role then answer sender r.id code (refused .wrongRole) s
        else if !s.allowed code sender then answer sender r.id code (refused .notAllowed) s
        else if code.delayable && s.msg.delays sender code then interim sender r.id code .busy s
        else serve r.id r.body s

/-- A REQUEST frame of a code (R32, R45). -/
def receiveRequest (code : ReqCode) (sender : Station) (payload : List Byte) (serve : Byte → ReqBody → State → State)
    (s : State) : State :=
  receive 6 sender payload (fun _ t =>
    match parseRequest code payload with
    | some r => examine code sender r serve t
    | none => t) s

/-- Make a PENDING delayed entry and answer WAIT (R52). -/
def delay (sender : Station) (id : Byte) (body : ReqBody) (s : State) : State :=
  interim sender id body.code .wait { s with msg.delayed := s.msg.delayed ++ [⟨sender, id, body, none, none⟩] }

/-! ## ANSWERs (R51) -/

/-- The pending entry of an id and a target; of two, the one made first (log 41). -/
def Msg.findPending (m : Msg) (id : Byte) (target : Station) : Option PendingReq :=
  m.pendings.find? fun p => p.id == id && p.target == target

/-- Change an entry of the pending request table. -/
def Msg.onPending (m : Msg) (entry : Nat) (f : PendingReq → PendingReq) : Msg :=
  { m with pendings := m.pendings.map fun p => if p.entry = entry then f p else p }

/-- Withdraw copies of a frame that wait in the queue, at most `n` of them: the entry of each is freed (R38). -/
def Msg.withdrawUpTo (f : Frame) : Nat → Msg → Msg
  | 0, m => m
  | n + 1, m =>
    match m.queue.findIdx? (fun e => e.isWaiting && decide (e.frame = f)) with
    | some i => Msg.withdrawUpTo f n (m.free i)
    | none => m

/-- Withdraw every copy of a frame that waits in the queue (R50, R51). -/
def Msg.withdraw (m : Msg) (f : Frame) : Msg := Msg.withdrawUpTo f m.queue.length m

/-- A pending entry is freed: every waiting copy is withdrawn, an unsent mark cancelled (R50, R51). -/
def Msg.closeRequest (m : Msg) (p : PendingReq) : Msg :=
  let m := { m with pendings := m.pendings.filter fun q => q.entry != p.entry }
  (m.unmark (.request p.entry)).withdraw p.frame

/-- The outcome of a request goes to the block that asked for it. -/
def giveOutcome (p : PendingReq) (o : Outcome) (s : State) : State :=
  match p.owner with
  | .supplyUnit => slotOutcome p.entry o s

/-- An ANSWER frame with an answer code (R32, R51): for another requester, without a pending entry, or of another code, it is
discarded. -/
def receiveAnswer (code : Byte) (sender : Station) (payload : List Byte) (act : PendingReq → AnswerIn → State → State)
    (s : State) : State :=
  receive 7 sender payload (fun _ t =>
    match parseAnswer payload with
    | some a =>
      if a.code = code ∧ a.requester = stationByte t.conf.number then
        match t.msg.findPending a.id sender with
        | some p => act p a t
        | none => t
      else t
    | none => t) s

/-- A final answer frees the entry and goes to the owner (R51). -/
def finalAnswer (p : PendingReq) (o : Outcome) (s : State) : State :=
  giveOutcome p o { s with msg := s.msg.closeRequest p }

end Sys2Proof.Machine
end

