-- ==== Sys2Proof/Machine/SupplyUnit.lean ====
section
/-! DEFINITION. The Supply Unit's commands (spec/09): ROLL LOAD and threading, the festoon, the supply timer, the press and the roll state
timer. -/

namespace Sys2Proof.Machine

/-! ## ROLL LOAD and threading (R128) -/

/-- The arm a ROLL LOAD names: bit 0 alone is read (R170). -/
def armNamed (b : Byte) : ArmName := if b.getLsbD 0 then .b else .a

/-- The refusal of a ROLL LOAD, if any (R128). -/
def loadRefusal (a : Arm) (length : Nat) : Option RefusalReason :=
  if a.state = .running ∨ a.state = .loading ∨ a.state = .loaded then some .armBusy
  else if !within 1 60000 length then some .badLength
  else none

/-- The arm becomes LOADING with the request's roll and length; its threading timer starts (R127, R128). -/
def Arm.load (a : Arm) (roll length : Half) : Arm :=
  { a with
    state := .loading, roll := some roll, loaded := length.toNat * 10000, threading := some Config.threadingMs }

/-- A ROLL LOAD is served (R128): refused at once, or delayed (R52) with the arm LOADING. -/
def serveLoad (sender : Station) (id : Byte) (b : ReqBody) (s : State) : State :=
  match b with
  | .rollLoad arm roll length =>
    match loadRefusal (s.sup.arm (armNamed arm)) length.toNat with
    | some r => answer sender id .rollLoad (refused r) s
    | none => handRollState (onArm (armNamed arm) (fun a => a.load roll length) (delay sender id b s))
  | _ => s

/-- ROLL_LOAD (R45, R128). -/
def execRollLoad (sender : Station) (payload : List Byte) (s : State) : Host.Outcome State Fault Refusal :=
  .next (receiveRequest .rollLoad sender payload (serveLoad sender) s)

/-- The PENDING ROLL LOAD is finished with a final answer (R54). -/
def completeLoad (f : Final) (s : State) : State :=
  match s.msg.delayed.find? fun d => d.result.isNone && d.body.code == .rollLoad with
  | some d => { s with msg := s.msg.complete d.requester d.id f s.conf.answerHold }
  | none => s

/-- The filtered level of an arm's ready input: input 3 for arm A, input 4 for arm B (R165). -/
def State.armReady (s : State) : ArmName → Bool
  | .a => s.port.input3
  | .b => s.port.input4

/-- The input of an arm's ready signal (R165). -/
def readyInput : ArmName → Nat
  | .a => 3
  | .b => 4

/-- The filtered level of an arm's ready input takes a value. -/
def setArmReady (n : ArmName) (active : Bool) (s : State) : State := { s with port := s.port.setInput active (readyInput n) }

/-- ARM_READY_BECOMES_ACTIVE: the filtered level (R167); when it becomes active a LOADING arm is threaded and its ROLL LOAD is DONE (R127,
R128). -/
def execArmReadyBecomesActive (arm : ArmName) (rise : Rise) (s : State) : Host.Outcome State Fault Refusal :=
  .next
    (let p := samplePins rise.others s
    if p.isRole .supply then
      let t := setArmReady arm (levelAfter (p.armReady arm) rise) p
      if rises (p.armReady arm) rise = true ∧ (p.sup.arm arm).state = .loading then completeLoad done (threadArm arm t) else t
    else p)

/-- THREADING_TIMER_EXPIRY: a LOADING arm becomes EMPTY and its ROLL LOAD is NOT THREADED (R128). -/
def execThreadingTimerExpiry (arm : ArmName) (s : State) : Host.Outcome State Fault Refusal :=
  .next
    (if (s.sup.arm arm).threading.isSome = true ∧ (s.sup.arm arm).state = .loading then
      completeLoad (refused .notThreaded)
        (handRollState (onArm arm (fun a => { a with state := .empty, roll := none, threading := none }) s))
    else s)

/-! ## The festoon (R130) -/

/-- The empty mark and FESTOON EMPTY after a good reading (R130). -/
def emptyTest (mm : Int) (s : State) : State :=
  if (s.sup.content : Int) < s.conf.emptyLimit then
    if (s.stn = .running ∨ s.stn = .stopping ∨ s.stn = .halted) ∧ s.sup.emptyMark = false then
      localCause .festoonEmpty (clampInt 0 65535 mm).toNat true { s with sup.emptyMark := true }
    else s
  else { s with sup.emptyMark := false }

/-- A good festoon reading in mm (R130). -/
def goodFestoon (mm : Int) (s : State) : State :=
  emptyTest mm (setFestoon .good { s with sup.content := contentOf mm, sup.festoonHold := none })

/-- A complete report on a sensor channel restarts its staleness timer (R169). -/
def freshReport (channel : Nat) (s : State) : State :=
  { s with port.staleness := s.port.staleness.setIfInBounds channel (some Config.stalenessMs) }

/-- A complete report on channel 0 at the SUPPLY (R130). -/
def takeFestoon (r : SensorReport) (s : State) : State :=
  if reportSound r then goodFestoon (reportValue r) (freshReport 0 s) else festoonDoubt (freshReport 0 s)

/-- FESTOON_READING: characters on the sensor link that complete a report on channel 0 at the SUPPLY (R130, R169). -/
def execFestoonReading (burst : SensorBurst) (s : State) : Host.Outcome State Fault Refusal :=
  .next
    (let t := hearSensor burst s
    match s.heardReport burst with
    | some r => if s.isRole .supply = true ∧ r.channel = 0 then takeFestoon r t else t
    | none => t)

/-- FESTOON_HOLD_TIMER_EXPIRY: the condition becomes LOST and FESTOON SENSOR LOST is raised, a stop cause in RUNNING (R9, R130). -/
def execFestoonHoldTimerExpiry (s : State) : Host.Outcome State Fault Refusal :=
  .next
    (if s.sup.festoonHold.isSome then
      stopCause (recordFault .festoonSensorLost 0 (setFestoon .lost { s with sup.festoonHold := none }))
    else s)

/-! ## The supply timer, the press and the roll state timer -/

/-- SUPPLY_TIMER_EXPIRY: the splice sequence is evaluated, the unwind reference formed, the press fired when it may be (R131, R135 to
R140), and the end of STOPPING tested (R10). -/
def execSupplyTimerExpiry (s : State) : Host.Outcome State Fault Refusal :=
  .next
    (if s.sup.supplyTimer.isSome then
      stoppingEnd (pressCheck (formUnwind (evalSplice { s with sup.supplyTimer := some Config.tenMs })))
    else s)

/-- PRESS_DONE: the filtered level of input 5 at the SUPPLY (R167); when it becomes active with the press fired the splice is completed
(R139, R140). -/
def execPressDone (rise : Rise) (s : State) : Host.Outcome State Fault Refusal :=
  .next
    (let p := samplePins rise.others s
    if p.isRole .supply then
      let t := { p with port.input5 := levelAfter p.port.input5 rise }
      if rises p.port.input5 rise = true ∧ p.sup.pressFire = true then completeSplice t else t
    else p)

/-- The roll id of the arm being spliced in (R17). -/
def State.spareRoll (s : State) : Nat := (s.sup.running.map fun n => (s.sup.arm (otherOf n)).rollId).getD 0

/-- PRESS_TIMER_EXPIRY: the press goes off and PRESS TIMEOUT is raised (R139). -/
def execPressTimerExpiry (s : State) : Host.Outcome State Fault Refusal :=
  .next
    (if s.sup.pressTimer.isSome then
      localCause .pressTimeout s.spareRoll true { s with sup.pressTimer := none, sup.pressFire := false }
    else s)

/-- ROLL_STATE_TIMER_EXPIRY: a ROLL STATE is handed, which restarts the timer (R141). -/
def execRollStateTimerExpiry (s : State) : Host.Outcome State Fault Refusal :=
  .next (if s.sup.rollTimer.isSome then handRollState s else s)

end Sys2Proof.Machine
end

