-- ==== Sys2Proof/Machine/SettingUnit.lean ====
section
/-! DEFINITION. The Setting Unit's commands (spec/10): SETPOINT, zone reports and the loss of a zone's sensor. -/

namespace Sys2Proof.Machine

/-- Change a zone's record. -/
def onZone (z : Nat) (f : Zone → Zone) (s : State) : State := { s with set.zones := modifyAt f z s.set.zones }

/-- The vent and the chest ceiling are re-formed (R151, R154). -/
def reformChest (s : State) : State := reformOwn (reformVent s)

/-! ## SETPOINT (R145) -/

/-- The setpoint a temperature gives after clamping (R145). -/
def clampSetpoint (s : State) (t : Half) : Int := clampInt 0 (s.conf.hardLimit - 100) t.toInt

/-- A zone's record under a new setpoint: one that becomes 0 shuts the zone (R145). -/
def Zone.setTo (v : Int) (z : Zone) : Zone := if v = 0 then { z.shut with setpoint := v } else { z with setpoint := v }

/-- A SETPOINT is served (R145). -/
def serveSetpoint (sender : Station) (id : Byte) (b : ReqBody) (s : State) : State :=
  match b with
  | .setpoint zone t =>
    match s.set.zones[zone.toNat]? with
    | none => answer sender id .setpoint (refused .badZone) s
    | some z =>
      let v := clampSetpoint s t
      let r := if z.setpoint = v then s else reformChest (onZone zone.toNat (Zone.setTo v) s)
      answer sender id .setpoint (.done (wordOfInt v)) r
  | _ => s

/-- SETPOINT (R45, R145). -/
def execSetpoint (sender : Station) (payload : List Byte) (s : State) : Host.Outcome State Fault Refusal :=
  .next (receiveRequest .setpoint sender payload (serveSetpoint sender) s)

/-! ## Zone reports (R146 to R150) -/

/-- A report is good: sound, and its value from −500 to 2,500 (R146). -/
def reportGood (r : SensorReport) : Bool :=
  reportSound r && decide (-500 ≤ reportValue r) && decide (reportValue r ≤ 2500)

/-- A faulty report, or the channel becoming stale: GOOD becomes HOLDING and the hold timer starts (R146). -/
def Zone.doubt (z : Zone) : Zone :=
  if z.cond = .good then { z with cond := .holding, hold := some Config.zoneHoldMs } else z

/-- A good report sets the reading and makes the zone GOOD (R146). -/
def Zone.read (v : Int) (z : Zone) : Zone := { z with reading := some v, cond := .good, hold := none }

/-- The integral of a control step: held when the duty is saturated in the direction of the error, and clamped (R148). -/
def stepIntegral (limit : Nat) (z : Zone) (e : Int) : Int :=
  if (z.duty = 1023 ∧ 0 < e) ∨ (z.duty = 0 ∧ e < 0) then z.integral else clampInt (-(limit : Int)) limit (z.integral + e)

/-- The control step of an in-use zone (R148). -/
def Zone.control (c : Cfg) (v : Int) (z : Zone) : Zone :=
  let e := z.setpoint - v
  let i := stepIntegral c.integralLimit z e
  { z with integral := i, duty := (clampInt 0 1023 ((c.kp * e + c.ki * i).tdiv 64)).toNat }

/-- A reading above the hard limit: every zone shut, and OVERTEMP raised while its mark is clear (R150). -/
def tripLimit (zone : Nat) (s : State) : State :=
  let t := { s with set.zones := s.set.zones.map Zone.shut }
  if s.set.overMark then t else localCause .overtemp zone true { t with set.overMark := true }

/-- The control step after a good report: for a zone in use, outside HALTED (R148, R149). -/
def controlStep (zone : Nat) (v : Int) (s : State) : State :=
  if s.stn = .halted then s else onZone zone (fun z => if z.inUse then z.control s.conf v else z) s

/-- A good report on a zone's channel (R146): the test against the hard limit (R150), the control step (R148), then the vent, T_cold and
the chest ceiling. T_cold is re-formed after the trip, so the trip, which reads no reading itself, comes before the reading is entered: a
span that enters the chest at the halt takes its T_low from T_cold as it was (R160). -/
def goodZone (zone : Nat) (v : Int) (s : State) : State :=
  reformChest
    (if s.conf.hardLimit < v then onZone zone (Zone.read v) (tripLimit zone s)
    else controlStep zone v (onZone zone (Zone.read v) s))

/-- The channel belongs to a zone of this SETTER (R144, R165). -/
def State.isZone (s : State) (channel : Nat) : Bool := s.isRole .setter && decide (channel < s.set.zones.length)

/-- A complete report on a zone's channel (R146). -/
def takeZone (r : SensorReport) (s : State) : State :=
  let t := freshReport r.channel.toNat s
  if reportGood r then goodZone r.channel.toNat (reportValue r) t else reformChest (onZone r.channel.toNat Zone.doubt t)

/-- ZONE_REPORT: characters on the sensor link that complete a report on a zone's channel (R146, R169). -/
def execZoneReport (burst : SensorBurst) (s : State) : Host.Outcome State Fault Refusal :=
  .next
    (let t := hearSensor burst s
    match s.heardReport burst with
    | some r => if s.isZone r.channel.toNat then takeZone r t else t
    | none => t)

/-- A zone that loses its sensor (R147). -/
def Zone.lose (z : Zone) : Zone := { z.shut with reading := none, cond := .lost, hold := none }

/-- ZONE_HOLD_TIMER_EXPIRY: the zone becomes SENSOR LOST and the fault is recorded (R147). -/
def execZoneHoldTimerExpiry (zone : Nat) (s : State) : Host.Outcome State Fault Refusal :=
  .next
    (match s.set.zones[zone]? with
    | some z =>
      if z.hold.isSome then reformChest (recordFault .sensorLost zone (onZone zone Zone.lose s)) else s
    | none => s)

end Sys2Proof.Machine
end

