-- ==== Sys2Proof/Machine/FieldPort.lean ====
section
/-! DEFINITION. The Field Port's commands (spec/12): a stale sensor channel, a dropped report, and the start of a PWM period. -/

namespace Sys2Proof.Machine

/-- The owning block of a channel is told that it has become stale (R130, R146). -/
def becomesStale (channel : Nat) (s : State) : State :=
  if s.isRole .supply = true ∧ channel = 0 then festoonDoubt s
  else if s.isZone channel then reformChest (onZone channel Zone.doubt s)
  else s

/-- The staleness timer of a channel. -/
def State.staleTimer (s : State) (channel : Nat) : Timer := (s.port.staleness[channel]?).getD none

/-- STALENESS_TIMER_EXPIRY: the timer stops and the owner is told once (R169). -/
def execStalenessTimerExpiry (channel : Nat) (s : State) : Host.Outcome State Fault Refusal :=
  .next
    (if (s.staleTimer channel).isSome then
      becomesStale channel { s with port.staleness := s.port.staleness.setIfInBounds channel none }
    else s)

/-- SENSOR_REPORT_DROPPED: characters on the sensor link that complete no report, or a malformed one, deliver nothing and restart no
staleness timer (R169). -/
def execSensorReportDropped (burst : SensorBurst) (s : State) : Host.Outcome State Fault Refusal :=
  .next (hearSensor burst s)

/-- The level of digital output n, given by its owning block (R165, R168): off for an output the role does not use, and off in CONFIG and
CONFIG FAULT. -/
def State.output (s : State) (n : Nat) : Bool :=
  if !s.live then false
  else match s.role, n with
    | some .supply, 1 => s.sup.brake
    | some .supply, 2 => s.sup.clutch .a
    | some .supply, 3 => s.sup.clutch .b
    | some .supply, 4 => s.sup.pressFire
    | some .head, 1 => s.lay.pulseLeft.isSome
    | some .head, 2 => s.lay.pulseRight.isSome
    | some .setter, 1 => s.set.vent
    | _, _ => false

/-- The filtered level of digital input n, true for active (R165, R167). -/
def State.input (s : State) : Nat → Bool
  | 1 => s.port.eStop
  | 2 => s.port.webBreak
  | 3 => s.port.input3
  | 4 => s.port.input4
  | 5 => s.port.input5
  | 6 => s.port.input6
  | 7 => s.port.input7
  | 8 => s.port.restartIn
  | _ => false

/-- The filtered level of the pin of digital input n, true for high (R167). -/
def State.pin (s : State) (n : Nat) : Bool := s.input n == activeHigh n

/-- The readings of a run of samples: the number of the input and what its pin reads (R167). -/
def runReadings (r : PinRun) : List (Nat × Bool) := List.replicate r.samples (r.input, r.high)

/-- Samples of a digital input that agree on a level, true for active, as readings of its pin. -/
def readingsAt (input : Nat) (active : Bool) (samples : Nat) : List (Nat × Bool) :=
  runReadings ⟨input, active == activeHigh input, samples⟩

/-- The readings behind a command of an input that becomes active: those of other inputs, then those at the input's inactive and at its
active level (log 11). -/
def riseReadings (input : Nat) (r : Rise) : List (Nat × Bool) :=
  r.others.flatMap runReadings ++ readingsAt input false r.released ++ readingsAt input true r.samples

/-- What the pins of the digital inputs read in the samples a command stands for, in order (R165, R167). -/
def commandReadings : Instr → List (Nat × Bool)
  | .eStopBecomesActive n => readingsAt 1 true n
  | .eStopBecomesInactive n => readingsAt 1 false n
  | .webBreakBecomesActive n => readingsAt 2 true n
  | .webBreakBecomesInactive n => readingsAt 2 false n
  | .bladeHomeBecomesActive r => riseReadings 3 r
  | .armReadyBecomesActive .a r => riseReadings 3 r
  | .armReadyBecomesActive .b r => riseReadings 4 r
  | .pressDone r => riseReadings 5 r
  | .restart r => riseReadings 8 r
  | _ => []

/-- What the pin of digital input n reads in the samples a command stands for. -/
def pinReadings (c : Instr) (n : Nat) : List Bool := ((commandReadings c).filter (·.1 == n)).map (·.2)

/-- PWM_PERIOD_START: the duties last handed take effect (R168). -/
def execPwmPeriodStart (s : State) : Host.Outcome State Fault Refusal :=
  .next
    { s with
      port.refDuty := Vector.ofFn fun i => s.refHanded i
      port.valveDuty := Vector.ofFn fun i => s.valveHanded i }

end Sys2Proof.Machine
end

