-- ==== Sys2Proof/Machine/PatternStore.lean ====
section
/-! DEFINITION. The Pattern Store (spec/06): PATTERN BLOCK, PATTERN COMMIT with its five checks, and PATTERN CLEAR. -/

namespace Sys2Proof.Machine

/-- The slot number: the low four bits of the pattern character (R87, R119). -/
def slotNumber (pattern : Byte) : Nat := pattern.toNat % 16

/-- Store a slot. -/
def putSlot (n : Nat) (sl : Slot) (s : State) : State := { s with slots := s.slots.setIfInBounds n sl }

/-- A slot that requests may not change: READY with panels depending on it (R89, R90). -/
def Slot.locked (sl : Slot) : Bool := decide (sl.state = .ready) && decide (0 < sl.inUse)

/-! ## PATTERN BLOCK (R88, R89) -/

/-- Write a record to a step place. -/
def Slot.write (sl : Slot) (i : Nat) (r : StepRec) : Slot := { sl with places := sl.places.setIfInBounds i ⟨true, r⟩ }

/-- The records of a block are written and the slot is LOADING (R88). -/
def Slot.load (sl : Slot) (i : Nat) (r1 : StepRec) (r2 : Option StepRec) : Slot :=
  let t := sl.write i r1
  let t := match r2 with
    | some r => t.write (i + 1) r
    | none => t
  { t with state := .loading }

/-- A PATTERN BLOCK at the store: its answer and the slot it leaves (R88, R89). -/
def Slot.block (sl : Slot) (i : Nat) (r1 : StepRec) (r2 : Option StepRec) : Final × Slot :=
  if sl.locked then (refused .inUse, sl)
  else if Config.stepPlaces ≤ i + (if r2.isSome then 1 else 0) then (refused .badStep, sl)
  else (done, sl.load i r1 r2)

/-- A PATTERN BLOCK is served. -/
def serveBlock (sender : Station) (id : Byte) (b : ReqBody) (s : State) : State :=
  match b with
  | .patternBlock p i r1 r2 =>
    let out := (s.slot (slotNumber p)).block i.toNat r1 r2
    answer sender id .patternBlock out.1 (putSlot (slotNumber p) out.2 s)
  | _ => s

/-- PATTERN_BLOCK (R45, R88, R89). -/
def execPatternBlock (sender : Station) (payload : List Byte) (s : State) : Host.Outcome State Fault Refusal :=
  .next (receiveRequest .patternBlock sender payload (serveBlock sender) s)

/-! ## The five checks of a commit (R91 to R93) -/

/-- The fold factor k (R93). -/
def Fold.factor : Fold → Nat
  | .flat => 0
  | .knife => 2
  | .box => 4

/-- Strokes per pleat (R94). -/
def Fold.strokes : Fold → Nat
  | .flat => 0
  | .knife => 1
  | .box => 2

/-- The greatest pitch, or plain length, of a fold (section 6.2). -/
def Fold.maxPitch : Fold → Nat
  | .flat => 50000
  | _ => 5000

/-- The pitch of a step at a grade (R92). -/
def StepRec.pitchAt (r : StepRec) (g : Nat) : Int := (r.pitch.toNat : Int) + g * r.increment.toInt

/-- Check 2 on one step: every field in the range of section 6.2 (R92). -/
def StepRec.fieldsOk (r : StepRec) : Bool :=
  match foldOf r.fold with
  | none => false
  | some f =>
    (decide (f ≠ .knife) || r.direction == 1 || r.direction == 2)
      && within 100 f.maxPitch r.pitch.toNat
      && decide (-500 ≤ r.increment.toInt) && decide (r.increment.toInt ≤ 500)
      && (if f = .flat then r.depth == 0 else within 100 4000 r.depth.toNat)
      && decide (r.repeats ≠ 0)

/-- Check 3 on one step at one grade: the pitch in range, and even for BOX (R92). -/
def pitchOk (f : Fold) (p : Int) : Bool :=
  decide (100 ≤ p) && decide (p ≤ f.maxPitch) && (decide (f ≠ .box) || decide (p % 2 = 0))

/-- The eight grades. -/
def grades : List Nat := List.range 8

/-- The fold of a step that has passed check 2. -/
def StepRec.theFold (r : StepRec) : Fold := (foldOf r.fold).getD .flat

/-- Check 3 on one step (R92). -/
def StepRec.pitchesOk (r : StepRec) : Bool := grades.all fun g => pitchOk r.theFold (r.pitchAt g)

/-- Check 4 on one step: k × d ≤ 7 × p at every grade (R93). -/
def StepRec.fits (r : StepRec) : Bool :=
  grades.all fun g => decide (((r.theFold.factor * r.depth.toNat : Nat) : Int) ≤ 7 * r.pitchAt g)

/-- The derived table entry of a step at a grade (R94). -/
def StepRec.geom (r : StepRec) (g : Nat) : Geom :=
  let p := (r.pitchAt g).toNat
  ⟨p, r.theFold.factor, r.theFold.strokes, p + r.theFold.factor * r.depth.toNat⟩

/-- The pleated length of the given steps at a grade: the sum of r × p (R93). -/
def pleatedLength (rs : List StepRec) (g : Nat) : Nat := (rs.map fun r => r.repeats.toNat * (r.geom g).p).sum

/-- The flat length of the given steps at a grade: the sum of r × F (R93). -/
def flatLength (rs : List StepRec) (g : Nat) : Nat := (rs.map fun r => r.repeats.toNat * (r.geom g).f).sum

/-- Check 5 up to and with the last of the given steps: the sums of every grade within their limits (R93). -/
def lengthsOk (rs : List StepRec) : Bool :=
  grades.all fun g => decide (pleatedLength rs g ≤ 1000000) && decide (flatLength rs g ≤ 4000000)

/-- The step records of places 0 to count − 1. -/
def Slot.records (sl : Slot) (count : Nat) : List StepRec := (sl.places.toList.take count).map (·.record)

/-- The first failure of the five checks: step index and cause (R90 to R93). -/
def Slot.failure (sl : Slot) (count : Nat) : Option (Nat × Nat) :=
  if count = 0 ∨ Config.stepPlaces < count then some (255, 1)
  else
    let rs := sl.records count
    match (sl.places.toList.take count).findIdx? (fun p => !p.written) with
    | some i => some (i, 1)
    | none => match rs.findIdx? (fun r => !r.fieldsOk) with
      | some i => some (i, 2)
      | none => match rs.findIdx? (fun r => !r.pitchesOk) with
        | some i => some (i, 3)
        | none => match rs.findIdx? (fun r => !r.fits) with
          | some i => some (i, 4)
          | none => match (List.range count).find? (fun i => !lengthsOk (rs.take (i + 1))) with
            | some i => some (i, 5)
            | none => none

/-- The slot of a commit that passes (R94). -/
def Slot.ready (sl : Slot) (count : Nat) : Slot :=
  let rs := sl.records count
  { sl with
    state := .ready
    count := count
    lp := grades.map (pleatedLength rs)
    lf := grades.map (flatLength rs)
    derived := rs.map fun r => grades.map r.geom }

/-- A PATTERN COMMIT at the store: its answer and the slot it leaves (R90, R94). -/
def Slot.commit (sl : Slot) (count : Nat) : Final × Slot :=
  if sl.locked then (refused .inUse, sl)
  else match sl.failure count with
    | some (i, cause) => (.refused .patternInvalid (BitVec.ofNat 8 i) (BitVec.ofNat 8 cause), sl)
    | none => (done, sl.ready count)

/-- A PATTERN COMMIT is served. -/
def serveCommit (sender : Station) (id : Byte) (b : ReqBody) (s : State) : State :=
  match b with
  | .patternCommit p c =>
    let out := (s.slot (slotNumber p)).commit c.toNat
    answer sender id .patternCommit out.1 (putSlot (slotNumber p) out.2 s)
  | _ => s

/-- PATTERN_COMMIT (R45, R90 to R94). -/
def execPatternCommit (sender : Station) (payload : List Byte) (s : State) : Host.Outcome State Fault Refusal :=
  .next (receiveRequest .patternCommit sender payload (serveCommit sender) s)

/-! ## PATTERN CLEAR (R95) -/

/-- A PATTERN CLEAR at the store: its answer and the slot it leaves (R95). -/
def Slot.clear (sl : Slot) : Final × Slot := if sl.inUse = 0 then (done, Slot.blank) else (refused .inUse, sl)

/-- A PATTERN CLEAR is served. -/
def serveClear (sender : Station) (id : Byte) (b : ReqBody) (s : State) : State :=
  match b with
  | .patternClear p =>
    let out := (s.slot (slotNumber p)).clear
    answer sender id .patternClear out.1 (putSlot (slotNumber p) out.2 s)
  | _ => s

/-- PATTERN_CLEAR (R45, R95). -/
def execPatternClear (sender : Station) (payload : List Byte) (s : State) : Host.Outcome State Fault Refusal :=
  .next (receiveRequest .patternClear sender payload (serveClear sender) s)

end Sys2Proof.Machine
end

