-- ==== Sys2Proof/Machine/LayingUnit.lean ====
section
/-! DEFINITION. The Laying Unit's commands (spec/07, spec/08): SEAM from the SUPPLY, SEAM SLOT, PANEL ORDER, ORDER CANCEL, the feed timer,
the blade and the stroke pulses. -/

namespace Sys2Proof.Machine

/-! ## SEAM at the HEAD (R121, R122) -/

/-- A SEAM from the SUPPLY: it enters the seam list, watches already reached fire, then the committed set is tested (R122). -/
def takeSeamAtHead (m : SeamMsg) (s : State) : State :=
  let t := settle (enterSeam ⟨m.pos, m.length, m.emergency, m.margin, none⟩ s)
  settle (seamOnNext m.pos (m.pos + m.length) (seamOnLaying m.pos (m.pos + m.length) t))

/-- SEAM_AT_HEAD: a SEAM frame, delivered in the HEAD role (R32); in another role it ends as a frame and is delivered to no block here
(R64, log 26). -/
def execSeamAtHead (sender : Station) (payload : List Byte) (s : State) : Host.Outcome State Fault Refusal :=
  .next
    (receive 3 sender payload (fun _ t =>
      match t.isRole .head, parseSeam payload with
      | true, some m => takeSeamAtHead m t
      | _, _ => t) s)

/-! ## SEAM SLOT (R123) -/

/-- A SEAM SLOT is served at once with no NEXT item committed, else delayed (R123). -/
def serveSlot (sender : Station) (id : Byte) (b : ReqBody) (s : State) : State :=
  match b with
  | .seamSlot length margin =>
    match s.lay.next with
    | none => answer sender id .seamSlot (.done (slotFpos margin s)) (settle (commitSlot sender id length margin s))
    | some _ => delay sender id b s
  | _ => s

/-- SEAM_SLOT (R45, R123). -/
def execSeamSlot (sender : Station) (payload : List Byte) (s : State) : Host.Outcome State Fault Refusal :=
  .next (receiveRequest .seamSlot sender payload (serveSlot sender) s)

/-! ## Orders (R119, R120) -/

/-- The PANEL records of the queue, in any state (R110). -/
def State.panels (s : State) : List Panel :=
  let inItem : Item → List Panel
    | .panel p => [p]
    | .gap _ => []
  ((s.lay.laying.map fun l => inItem l.item).getD []) ++ ((s.lay.next.map fun n => inItem n.item).getD []) ++ s.lay.queued

/-- The tests of a PANEL ORDER in their order (R119). -/
def orderRefusal (s : State) (first count slot grade : Nat) : Option RefusalReason :=
  if (s.slot slot).state ≠ .ready then some .noPattern
  else if 7 < grade then some .badGrade
  else if !within 1 8 count || decide (Config.panelPlaces < s.panels.length + count) then some .queueFull
  else if first = 0 ∨ 65535 < first + count - 1 ∨ s.panels.any (fun p => within first (first + count - 1) p.id) = true then
    some .duplicate
  else none

/-- The panels an order appends (R119). -/
def orderedPanels (sl : Slot) (first count slot grade : Nat) : List Panel :=
  (List.range count).map fun k => ⟨first + k, slot, grade, sl.lp.getD grade 0, sl.lf.getD grade 0, PanelFlags.none⟩

/-- An order that passes: its panels at the back of the queue, the in-use count raised (R96), the commit rule run (R119). -/
def placeOrder (first count slot grade : Nat) (s : State) : State :=
  settle
    (commitRule
      (slotGains slot count { s with lay.queued := s.lay.queued ++ orderedPanels (s.slot slot) first count slot grade }))

/-- A PANEL ORDER is served. -/
def serveOrder (sender : Station) (id : Byte) (b : ReqBody) (s : State) : State :=
  match b with
  | .panelOrder first count pattern grade =>
    match orderRefusal s first.toNat count.toNat (slotNumber pattern) grade.toNat with
    | some r => answer sender id .panelOrder (refused r) s
    | none =>
      answer sender id .panelOrder done (placeOrder first.toNat count.toNat (slotNumber pattern) grade.toNat s)
  | _ => s

/-- PANEL_ORDER (R45, R119). -/
def execPanelOrder (sender : Station) (payload : List Byte) (s : State) : Host.Outcome State Fault Refusal :=
  .next (receiveRequest .panelOrder sender payload (serveOrder sender) s)

/-- A QUEUED panel an ORDER CANCEL removes: its id in the range, the count from 1 to 32 (R120). -/
def cancels (first count : Nat) (p : Panel) : Bool := within 1 32 count && within first (first + count - 1) p.id

/-- An ORDER CANCEL at the queue: each record removed lowers its slot's in-use count (R96, R120). -/
def cancelOrder (first count : Nat) (s : State) : State :=
  let gone := s.lay.queued.filter (cancels first count)
  gone.foldl (fun t p => slotLoses p.slot t) { s with lay.queued := s.lay.queued.filter fun p => !cancels first count p }

/-- An ORDER CANCEL is served: DONE with the number removed (R120). -/
def serveCancel (sender : Station) (id : Byte) (b : ReqBody) (s : State) : State :=
  match b with
  | .orderCancel first count =>
    answer sender id .orderCancel (.done (word32 (s.lay.queued.filter (cancels first.toNat count.toNat)).length))
      (cancelOrder first.toNat count.toNat s)
  | _ => s

/-- ORDER_CANCEL (R45, R120). -/
def execOrderCancel (sender : Station) (payload : List Byte) (s : State) : Host.Outcome State Fault Refusal :=
  .next (receiveRequest .orderCancel sender payload (serveCancel sender) s)

/-! ## The feed timer (R101, R102, R107) -/

/-- The geometry of the step in force when its ratio class is FOLDED (R98). -/
def foldedStep (s : State) : Option Geom :=
  match stepInForce s with
  | some (g, _) => if g.k = 0 then none else some g
  | none => none

/-- The untrimmed infeed speed of a ratio class (R101). -/
def untrimmed (v : Nat) : Option Geom → Nat
  | none => v
  | some g => (v * g.f + g.p / 2) / g.p

/-- The trim (R107). -/
def trimNow (vIn : Nat) (e : Int) : Option Geom → Int
  | none => 0
  | some _ => clampInt (-((vIn / 50 : Nat) : Int)) ((vIn / 50 : Nat) : Int) ((-e).tdiv 16)

/-- FEED_TIMER_EXPIRY: the trim and the infeed reference are recomputed (R101, R102, R107). -/
def execFeedTimerExpiry (s : State) : Host.Outcome State Fault Refusal :=
  .next
    (if s.lay.feedTimer.isSome then
      let g := foldedStep s
      let vIn := untrimmed s.commanded g
      let trim := trimNow vIn s.lay.error g
      { s with
        lay.feedTimer := some Config.tenMs
        lay.trim := trim
        lay.infeedRef := (clampInt 0 s.lay.infeedLimit (vIn + trim)).toNat }
    else s)

/-! ## The blade and the stroke pulses (R117, R118, R168) -/

/-- BLADE_HOME_BECOMES_ACTIVE: the filtered level of input 3 at the HEAD (R167); when it becomes active a stroke in flight ends and its
timer stops (R117). -/
def execBladeHomeBecomesActive (rise : Rise) (s : State) : Host.Outcome State Fault Refusal :=
  .next
    (let p := samplePins rise.others s
    if p.isRole .head then
      let t := { p with port.input3 := levelAfter p.port.input3 rise }
      if rises p.port.input3 rise then { t with lay.inFlight := false, lay.bladeTimer := none } else t
    else p)

/-- BLADE_HOME_TIMER_EXPIRY: with the stroke still in flight, BLADE JAM (R118). -/
def execBladeHomeTimerExpiry (s : State) : Host.Outcome State Fault Refusal :=
  .next
    (if s.lay.bladeTimer.isSome then
      let t := { s with lay.bladeTimer := none }
      if s.lay.inFlight then localCause .bladeJam s.layingId true t else t
    else s)

/-- STROKE_PULSE_END: a pulse's 5 ms are over and its output goes off (R168). -/
def execStrokePulseEnd (side : Side) (s : State) : Host.Outcome State Fault Refusal :=
  .next
    (match side with
    | .left => { s with lay.pulseLeft := none }
    | .right => { s with lay.pulseRight := none })

end Sys2Proof.Machine
end

