-- ==== Sys2Proof/Machine/LineLink.lean ====
section
/-! DEFINITION. The Line Link's own commands (spec/02): bus idle, the start of a frame, the start, withdrawal, cancellation and
completion of a frame of this station, and broken frames. -/

namespace Sys2Proof.Machine

/-- BUS_IDLE: after 12 recessive bit times the bus is IDLE (R20). -/
def execBusIdle (recessive : Nat) (s : State) : Host.Outcome State Fault Refusal :=
  .next (if s.receives = true ∧ Config.idleBits ≤ recessive then { s with link.bus := .idle } else s)

/-- FRAME_START: a dominant edge on an IDLE bus (R20, R64). -/
def execFrameStart (s : State) : Host.Outcome State Fault Refusal :=
  .next (if s.receives then noteEdge s else s)

/-! ## Sending -/

/-- The second position a POSITION carries (R60): the HEAD's flat position, the SUPPLY's festoon content. -/
def State.secondPos (s : State) : Word :=
  match s.role with
  | some .head => s.pos.ch0.lu
  | some .supply => if s.sup.festoon = .noReading then 0 else word32 s.sup.content
  | _ => 0

/-- The payload of a POSITION, as its start bit is driven (R69). -/
def positionBytes (s : State) : List Byte :=
  [s.stn.code, ((s.role.map roleCode).getD 0)] ++ wordBytes s.refPos ++ wordBytes s.secondPos
    ++ halfBytes (half16 s.reportedSpeed) ++ halfBytes (half16 s.pos.measured)
    ++ [BitVec.ofNat 8 s.link.broken, BitVec.ofNat 8 s.msg.lost]

/-- The payload of a frame as it is sent (spec/13). -/
def payloadOf (s : State) : Frame → List Byte
  | .position => positionBytes s
  | .ceiling m => m.bytes
  | .passStart m => m.bytes
  | .passEnd m => m.bytes
  | .seam m => m.bytes
  | .rollState m => m.bytes
  | .fault m => m.bytes
  | .request m => m.bytes
  | .answer m => m.bytes

/-- The transmitter may start a frame: LISTEN to HALTED, and CONFIG FAULT with a sender number (R5, R24). -/
def State.transmits (s : State) : Bool := s.live || (decide (s.stn = .configFault) && s.faultSender.isSome)

/-- An entry's frame takes flight (R24). -/
def QEntry.launch (passing : Bool) (e : QEntry) : QEntry := { e with flight := .inFlight passing false }

/-- A chosen frame starts: its start bit is driven, its characters are fixed, the bus is BUSY and the positions are latched
(R21, R24, R64, R69). -/
def startFrame (i : Nat) (passing : Bool) (sender : Station) (f : Frame) (s : State) : State :=
  noteEdge
    { s with
      msg.queue := modifyAt (QEntry.launch passing) i s.msg.queue
      link.tx := .sendingTag
      link.wire := frameChars (tagOf sender f.kind) (payloadOf s f) }

/-- TRANSMIT_START: WAITING on an IDLE bus with a frame queued (R24, R43). -/
def execTransmitStart (s : State) : Host.Outcome State Fault Refusal :=
  .next
    (if s.transmits = true ∧ s.link.tx = .waiting ∧ s.link.bus = .idle then
      match s.msg.choose, s.sender with
      | some (i, passing), some n =>
        match s.msg.queue[i]? with
        | some e => startFrame i passing n e.frame s
        | none => s
      | _, _ => s
    else s)

/-- The transmitter drives no frame any more. -/
def stopDriving (s : State) : State := { s with link.tx := .waiting, link.wire := [] }

/-- A frame is in flight in the transmitter (R24). -/
def State.sending (s : State) : Bool := decide (s.link.tx = .sendingTag) || decide (s.link.tx = .sendingBody)

/-- The bits the transmitter drives, true for recessive, from the first bit of the frame or the pattern in flight: the characters of the
frame back to back (R19, R21), 64 dominant bits for the pattern (R28), none while WAITING. -/
def State.driven (s : State) : List Bool :=
  match s.link.tx with
  | .waiting => []
  | .sendingStop => List.replicate Config.patternBits false
  | _ => s.link.wire.flatMap bitsOf

/-- FRAME_WITHDRAWN: a mismatch in the tag character; the frame stays at its place, its failure count unchanged (R25). The latch stays
for the winner's frame (R64). -/
def execFrameWithdrawn (bit : Nat) (s : State) : Host.Outcome State Fault Refusal :=
  .next
    (if s.link.tx = .sendingTag ∧ bit < Config.charBits then stopDriving { s with msg := s.msg.land } else s)

/-- A cancelled frame's entry: the failure count rises, unless a newer frame has replaced the cancelled one (R26, R27, log 8). -/
def QEntry.fail (e : QEntry) : QEntry :=
  match e.flight with
  | .inFlight _ true => { e with flight := .waiting }
  | _ => { e with failures := e.failures + 1, flight := .waiting }

/-- The frame in flight is cancelled: at 3 failures it is dropped and LINK TRANSMIT raised with its tag (R26). -/
def cancelFlying (s : State) : State :=
  match s.msg.flying with
  | none => s
  | some i =>
    match s.msg.queue[i]? with
    | none => s
    | some e =>
      if (QEntry.fail e).failures < Config.failureLimit then { s with msg.queue := modifyAt QEntry.fail i s.msg.queue }
      else
        recordFault .linkTransmit (tagOf (s.sender.getD 0) e.frame.kind) { s with msg := s.msg.land.free i }

/-- FRAME_CANCELLED: a mismatch after the tag character (R26). -/
def execFrameCancelled (bit : Nat) (s : State) : Host.Outcome State Fault Refusal :=
  .next
    (if s.sending = true ∧ Config.charBits ≤ bit then cancelFlying (stopDriving (dropLatch s)) else s)

/-- The queue when the frame in flight at index `i` completes (R27, R38): the entry is freed, or, its frame replaced meanwhile, kept as
the newest. -/
def Msg.completeAt (m : Msg) (i : Nat) (e : QEntry) : Msg :=
  match e.flight with
  | .inFlight _ true => { m with queue := m.queue.eraseIdx i ++ [{ e with failures := 0, flight := .waiting }] }
  | _ => m.free i

/-- The pass count rises, to 2 at most, when a notice that passed the oldest request or answer completes (R43). -/
def Msg.countPass (m : Msg) (e : QEntry) : Msg :=
  match e.flight with
  | .inFlight true _ => { m with passCount := min 2 (m.passCount + 1) }
  | _ => m

/-- The frame in flight completes (R27). -/
def completeFlying (s : State) : State :=
  match s.msg.flying with
  | none => s
  | some i =>
    match s.msg.queue[i]? with
    | none => s
    | some e => { s with msg := (s.msg.countPass e).completeAt i e }

/-- FRAME_COMPLETE: the whole frame sent without a mismatch (R27). -/
def execFrameComplete (s : State) : Host.Outcome State Fault Refusal :=
  .next (if s.sending then completeFlying (stopDriving (dropLatch s)) else s)

/-! ## Broken frames -/

/-- Whether a frame of these characters is counted as broken (R30, R31): its first character is no tag, or its entry collects it and a
check fails. -/
def State.countsBroken (s : State) (cs : List LinkChar) : Bool :=
  match cs with
  | [] => false
  | tag :: _ => !isTag tag || (decide (s.accept tag.data.toNat ≠ .off) && !goodChars cs)

/-- BROKEN_FRAME: the characters of a frame that has ended (R30, R31); nothing of it reaches any block. -/
def execBrokenFrame (chars : List LinkChar) (s : State) : Host.Outcome State Fault Refusal :=
  .next
    (match s.frameLatch with
    | none => s
    | some _ => if s.countsBroken chars then countBroken (dropLatch s) else dropLatch s)

end Sys2Proof.Machine
end

