-- ==== Sys2Proof/Machine/MapUnit.lean ====
section
/-! DEFINITION. The Map Unit's commands (spec/11): PANEL PASS START and END, SEAM at a SETTER, and the sample timer. -/

namespace Sys2Proof.Machine

/-- The kind of the span a PANEL PASS START gives; none for an item kind that is not listed (R157, R170).
A PANEL of id 0 is a PANEL span of id 0 (log 43). -/
def PassStartIn.spanKind (m : PassStartIn) : Option SpanKind :=
  match m.kind.toNat with
  | 0 => some (.panel m.id m.slot m.grade)
  | 1 => some (.gap m.flags.emergency m.flags.used)
  | _ => none

/-- Test 3 of R157 fails: a PANEL whose id is in the map. -/
def duplicates (s : State) : SpanKind → Bool
  | .panel id _ _ => s.map.spans.any (·.isPanel id)
  | _ => false

/-- The panel id of a span as a fault detail, 0 for a GAP or SEAM (R17). -/
def SpanKind.panelId : SpanKind → Nat
  | .panel id _ _ => id.toNat
  | _ => 0

/-- The span a PANEL PASS START becomes, with what a SEAM span already there does to it (R157). -/
def newSpan (s : State) (m : PassStartIn) (k : SpanKind) : Span :=
  let sp : Span := ⟨k, m.start, m.length, m.flags.ofPanel, PanelFlags.none, false, .approaching⟩
  if s.map.spans.any fun x => x.isSeam && x.overlaps sp then sp.takeSeam else sp

/-- A PANEL PASS START is tested and, if it passes, mapped (R157). -/
def takePassStart (m : PassStartIn) (s : State) : State :=
  match m.spanKind with
  | none => s
  | some k =>
    if !notGone s m.start m.length || !inWindow s m.start || duplicates s k || startTaken s m.start then s
    else if mapRoom s then settle (mapSpan (newSpan s m k) s)
    else recordFault .mapOverflow k.panelId s

/-- PANEL_PASS_START: the 14 byte form of a kind 2 frame (R32, R157); one of the 6 byte form ends as a frame and is not delivered here
(log 26). -/
def execPanelPassStart (sender : Station) (payload : List Byte) (s : State) : Host.Outcome State Fault Refusal :=
  .next
    (receive 2 sender payload (fun _ t =>
      match parsePassStart payload with
      | some m => takePassStart m t
      | none => t) s)

/-- What a PANEL PASS END does to its span (R159). -/
def Span.merge (f : PanelFlags) (sp : Span) : Span :=
  { sp with
    received := sp.received.or f.ofPanel
    endSeen := true
    kind := match sp.kind with
      | .gap e u => .gap e (u || f.used)
      | k => k }

/-- The span of a PANEL PASS END: the panel with its id, or the first GAP without an END (R159). -/
def endSpan (s : State) (m : PassEndIn) : Option Nat :=
  match m.kind.toNat with
  | 0 => s.map.spans.findIdx? (·.isPanel m.id)
  | 1 => s.map.spans.findIdx? fun sp => sp.isGap && !sp.endSeen
  | _ => none

/-- A PANEL PASS END merges into its span, or is discarded (R159). -/
def takePassEnd (m : PassEndIn) (s : State) : State :=
  match endSpan s m with
  | some i => { s with map.spans := modifyAt (Span.merge m.flags) i s.map.spans }
  | none => s

/-- PANEL_PASS_END: the 6 byte form of a kind 2 frame (R32, R159); one of the 14 byte form ends as a frame and is not delivered here
(log 26). -/
def execPanelPassEnd (sender : Station) (payload : List Byte) (s : State) : Host.Outcome State Fault Refusal :=
  .next
    (receive 2 sender payload (fun _ t =>
      match parsePassEnd payload with
      | some m => takePassEnd m t
      | none => t) s)

/-- A seam is forwarded at once, with an unplaced flag (R158). -/
def forwardSeam (m : SeamMsg) (unplaced : Bool) (s : State) : State :=
  postLasting (.seam ⟨m.pos, m.length, m.emergency, unplaced, 0⟩) s

/-- A seam enters the map and flags the spans it overlaps (R158). -/
def placeSeam (m : SeamMsg) (s : State) : State :=
  let sp : Span := ⟨.seam m.emergency, m.pos, m.length, PanelFlags.none, PanelFlags.none, false, .approaching⟩
  settle (mapSpan sp { s with map.spans := s.map.spans.map fun x => if x.overlaps sp then x.takeSeam else x })

/-- A SEAM from the source is mapped or forwarded (R158). Of a notice that meets several of the rule's cases the first in the rule's order
decides (log 40). -/
def takeSeamAtSetter (m : SeamMsg) (s : State) : State :=
  if m.unplaced then forwardSeam m true s
  else if !notGone s m.pos m.length || !inWindow s m.pos then forwardSeam m false s
  else if startTaken s m.pos then forwardSeam m true s
  else if mapRoom s then placeSeam m s
  else recordFault .mapOverflow 0 (forwardSeam m true s)

/-- SEAM_AT_SETTER: a SEAM frame, delivered in the SETTER role (R32, R158); in another role it ends as a frame and is delivered to no
block here (R64, log 26). -/
def execSeamAtSetter (sender : Station) (payload : List Byte) (s : State) : Host.Outcome State Fault Refusal :=
  .next
    (receive 3 sender payload (fun _ t =>
      match t.isRole .setter, parseSeam payload with
      | true, some m => takeSeamAtSetter m t
      | _, _ => t) s)

/-- SAMPLE_TIMER_EXPIRY: T_low of every IN CHEST span (R161). -/
def execSampleTimerExpiry (s : State) : Host.Outcome State Fault Refusal :=
  .next
    (if s.map.sampleTimer.isSome then
      { s with
        map.sampleTimer := some Config.hundredMs
        map.spans := s.map.spans.map (Span.sampleTick (coldest s)) }
    else s)

end Sys2Proof.Machine
end

