-- ==== Sys2Proof/Machine/MessageUnit.lean ====
section
/-! DEFINITION. The Message Unit's own commands (spec/03): answers to this station's requests, the repeat timer and the hold timer. -/

namespace Sys2Proof.Machine

/-- ANSWER_WAIT: attempts set back to 1 (R51). -/
def execAnswerWait (sender : Station) (payload : List Byte) (s : State) : Host.Outcome State Fault Refusal :=
  .next
    (receiveAnswer 2 sender payload (fun p _ t =>
      { t with msg := t.msg.onPending p.entry fun q => { q with attempts := 1 } }) s)

/-- ANSWER_BUSY: the entry, its attempts and its timer are unchanged (R51). -/
def execAnswerBusy (sender : Station) (payload : List Byte) (s : State) : Host.Outcome State Fault Refusal :=
  .next (receiveAnswer 3 sender payload (fun _ _ t => t) s)

/-- ANSWER_DONE: the entry is freed and the owner receives the result (R51, R136). -/
def execAnswerDone (sender : Station) (payload : List Byte) (s : State) : Host.Outcome State Fault Refusal :=
  .next (receiveAnswer 1 sender payload (fun p a t => finalAnswer p (.done a.value) t) s)

/-- ANSWER_REFUSED: the entry is freed and the owner receives the refusal with its reason (R51, R136). -/
def execAnswerRefused (sender : Station) (payload : List Byte) (s : State) : Host.Outcome State Fault Refusal :=
  .next (receiveAnswer 4 sender payload (fun p a t => finalAnswer p (.refused a.reason) t) s)

/-- A request is given up at its attempt limit: UNDELIVERED to its owner, then REQUEST UNDELIVERED (R50). -/
def giveUp (p : PendingReq) (s : State) : State :=
  recordFault .requestUndelivered (p.target.toNat * 256 + p.id.toNat) (giveOutcome p .undelivered { s with msg := s.msg.closeRequest p })

/-- A pending entry after a repeat: one more repeat interval has begun (R50). -/
def PendingReq.repeated (interval : Nat) (p : PendingReq) : PendingReq :=
  { p with attempts := p.attempts + 1, timer := some interval }

/-- The request of a pending entry is repeated under its id (R50). -/
def repeatRequest (p : PendingReq) (s : State) : State :=
  { s with msg := (s.msg.onPending p.entry (PendingReq.repeated s.conf.repeatInterval)).handAsk p.frame (.request p.entry) }

/-- REPEAT_TIMER_EXPIRY of an entry of the pending request table: repeat, or give up at the attempt limit (R50, log 35). -/
def execRepeatTimerExpiry (entry : Nat) (s : State) : Host.Outcome State Fault Refusal :=
  .next
    (match s.msg.pendings.find? fun p => p.entry == entry && p.timer.isSome with
    | none => s
    | some p => if p.attempts < s.conf.attemptLimit then repeatRequest p s else giveUp p s)

/-- The PLANNED GAP of a requester and id, when it is NEXT (R124). -/
def NextItem.isPlanned (n : NextItem) (requester : Station) (id : Byte) : Bool :=
  match n.item with
  | .gap ⟨.planned r i, _, _⟩ => r == requester && i == id
  | _ => false

/-- The HEAD is told of a discarded SEAM SLOT: its GAP, still NEXT, is removed with its watch, the ceiling recomputed, and the commit rule
runs (R124). -/
def withdrawSlot (requester : Station) (id : Byte) (s : State) : State :=
  match s.lay.next with
  | some n =>
    if n.isPlanned requester id then commitRule (reformOwn (dropEvent .itemStart { s with lay.next := none })) else s
  | none => s

/-- HOLD_TIMER_EXPIRY of the COMPLETE entry of a requester and id: it is discarded, and its serving block told (R55, R124). A ROLL LOAD
leaves the arm as it is. Watches already reached then fire (R62). -/
def execHoldTimerExpiry (requester : Station) (id : Byte) (s : State) : Host.Outcome State Fault Refusal :=
  .next
    (match s.msg.findDelayed requester id with
    | none => s
    | some d =>
      if d.hold.isSome then
        let t := { s with msg := s.msg.dropDelayed requester id }
        if d.body.code = .seamSlot then settle (withdrawSlot requester id t) else t
      else s)

end Sys2Proof.Machine
end

