-- ==== Sys2Proof/Machine/PositionUnit.lean ====
section
/-! DEFINITION. The Position Unit's commands (spec/04): encoder counts, the speed timer, the keep-alive timer, and the watched
neighbour's POSITION with the registration of a SETTER and the arrival offset of the SUPPLY (R132). -/

namespace Sys2Proof.Machine

/-! ## Encoder counts (R58, R59) -/

/-- A change of one accepted level is a forward count when A changes while the levels agree, or B while they differ (R58). -/
def Channel.forward (c : Channel) (line : EncLine) : Bool :=
  match line with
  | .a => c.a == c.b
  | .b => c.a != c.b

/-- Change one accepted level. -/
def Channel.toggle (c : Channel) : EncLine → Channel
  | .a => { c with a := !c.a }
  | .b => { c with b := !c.b }

/-- One count: the fine position moves by the encoder scale, forward or back, modulo 2^42 (R59). -/
def Channel.count (c : Channel) (line : EncLine) (scale : Nat) : Channel :=
  let d : Fine := BitVec.ofNat 42 scale
  { c.toggle line with fine := if c.forward line then c.fine + d else c.fine - d }

/-- The channel's own sampling is used by the role: channel 0 always, channel 1 at the HEAD (R165, R166). -/
def State.usesChannel (s : State) : EncChannel → Bool
  | .ch0 => s.live
  | .ch1 => s.isRole .head

/-- The SUPPLY meters the RUNNING arm by a move of the supply position; reaching 0 raises ROLL RUNOUT (R129). -/
def meter (d : Int) (s : State) : State :=
  match s.sup.running with
  | none => s
  | some n =>
    let t := onArm n (fun a => a.meter d) s
    if 0 < (s.sup.arm n).remaining ∧ (t.sup.arm n).remaining = 0 then localCause .rollRunout (s.sup.arm n).rollId true t else t

/-- A channel's position has changed, channel 0's by `d`: the SUPPLY meters, watches are tested, the cadence is tested (R59). That the
metering comes first is the model's choice (log 42). -/
def positionChanged (oldRef : Word) (ch : EncChannel) (d : Int) (s : State) : State :=
  let t := if ch = .ch0 ∧ s.role = some .supply then meter d s else s
  cadence oldRef (settle t)

/-- The state with a count taken on a channel. -/
def takeCount (ch : EncChannel) (line : EncLine) (s : State) : State :=
  match ch with
  | .ch0 => { s with pos.ch0 := s.pos.ch0.count line s.conf.scale0 }
  | .ch1 => { s with pos.ch1 := s.pos.ch1.count line s.conf.scale1 }

/-- The position of a channel in lu. -/
def State.luOf (s : State) : EncChannel → Word
  | .ch0 => s.pos.ch0.lu
  | .ch1 => s.pos.ch1.lu

/-- ENCODER_COUNT: one accepted level changes after as many agreeing samples as the deglitch setting asks (R58, R59). -/
def execEncoderCount (ch : EncChannel) (line : EncLine) (samples : Nat) (s : State) : Host.Outcome State Fault Refusal :=
  .next
    (if s.usesChannel ch = true ∧ s.conf.deglitch ≤ samples then
      let t := takeCount ch line s
      if t.luOf ch = s.luOf ch then t
      else positionChanged s.refPos ch (sdiff (t.luOf ch) (s.luOf ch)) t
    else s)

/-- Both accepted levels of a channel adopt the other level; no count is taken (R58). -/
def Channel.flip (c : Channel) : Channel := { c with a := !c.a, b := !c.b }

/-- BOTH_ACCEPTED_LEVELS_CHANGE (R58). -/
def execBothAcceptedLevelsChange (ch : EncChannel) (samples : Nat) (s : State) : Host.Outcome State Fault Refusal :=
  .next
    (if s.usesChannel ch = true ∧ s.conf.deglitch ≤ samples then
      match ch with
      | .ch0 => { s with pos.ch0 := s.pos.ch0.flip }
      | .ch1 => { s with pos.ch1 := s.pos.ch1.flip }
    else s)

/-! ## Timers -/

/-- The measured speed at an expiry of the speed timer: ten times the travel of channel 0, clamped (R61). -/
def speedNow (s : State) : Nat := (clampInt 0 65535 (10 * sdiff s.pos.ch0.lu s.pos.prev)).toNat

/-- SPEED_TIMER_EXPIRY: the measured speed (R61), the spans in the chest (R161), and at the SUPPLY the press of an unwind that has come to
rest (R139). -/
def execSpeedTimerExpiry (s : State) : Host.Outcome State Fault Refusal :=
  .next
    (if s.pos.speedTimer.isSome then
      let t := { s with
        pos.measured := speedNow s
        pos.prev := s.pos.ch0.lu
        pos.speedTimer := some Config.tenMs
        map.spans := s.map.spans.map (Span.speedTick s.stn (speedNow s)) }
      if t.isRole .supply = true ∧ s.pos.measured ≠ 0 then pressCheck t else t
    else s)

/-- KEEP_ALIVE_TIMER_EXPIRY: a POSITION is handed, which restarts the timer (R70). -/
def execKeepAliveTimerExpiry (s : State) : Host.Outcome State Fault Refusal :=
  .next (if s.pos.keepAlive.isSome then handPosition s else s)

/-! ## POSITION of the watched neighbour -/

/-- The expected map position: R_src minus the path (R65). -/
def expectedMap (s : State) (ref : Word) : Word := ref - word32 s.conf.pathSource

/-- The registration captures (R65), then the window test runs (R164). -/
def capture (ref : Word) (l : Latch) (s : State) : State :=
  cadence s.refPos
    (windowTest
      (settle { s with pos.offset := expectedMap s ref - l.ch0, pos.reg := .tracking, pos.errorRun := 0 }))

/-- A registration error counts toward REGISTRATION LOST (R67). -/
def judgeError (e : Int) (s : State) : State :=
  if e.natAbs ≤ Config.errorLimit then { s with pos.errorRun := 0 }
  else if s.pos.errorRun + 1 < 3 then { s with pos.errorRun := s.pos.errorRun + 1 }
  else localCause .registrationLost (min e.natAbs 65535) true { s with pos.errorRun := 0 }

/-- The registration slews by at most 50 lu (R66), then the error is judged (R67). -/
def track (ref : Word) (l : Latch) (s : State) : State :=
  let e := sdiff (expectedMap s ref) l.map
  let t := { s with pos.offset := s.pos.offset + wordOfInt (clampInt (-Config.slewClamp) Config.slewClamp e) }
  judgeError e (cadence s.refPos (settle t))

/-- A SETTER takes its source's POSITION (R65 to R68). -/
def register (ref : Word) (l : Latch) (s : State) : State :=
  match s.pos.reg with
  | .uncaptured => capture ref l s
  | .tracking => track ref l s
  | .suspended => s

/-- The C that the arrival offset takes: 0 in NO READING, the content in force in GOOD and HOLDING (R132); in LOST, where C is kept for
reports alone and no rule states another, a free value (log 19). -/
def arrivalContent (s : State) : Word :=
  match s.sup.festoon with
  | .noReading => 0
  | .lost => Config.freeWord s.freeCount
  | _ => word32 s.sup.content

/-- The arrival offset that a POSITION of the HEAD gives (R132). -/
def arrivalOffset (s : State) (flat : Word) (l : Latch) : Word := flat + word32 s.conf.pathHead + arrivalContent s - l.ch0

/-- The SUPPLY takes the HEAD's POSITION: H, v_head_flat and the arrival offset (R132). -/
def registerArrival (m : PositionMsg) (l : Latch) (s : State) : State :=
  { s with
    sup.headFlat := m.second
    sup.vHead := m.measured
    sup.offset := arrivalOffset s m.second l
    sup.offsetValid := true
    freeCount := if s.sup.festoon = .lost then s.freeCount + 1 else s.freeCount }

/-- A good POSITION of the watched neighbour reaches the role's block (R32). -/
def takePosition (m : PositionMsg) (l : Latch) (s : State) : State :=
  match s.role with
  | some .supply => registerArrival m l s
  | some .setter => register m.ref l s
  | _ => s

/-- POSITION: delivered with the latch of its start, then reported to Station Control (R6, R32, R35, R64). -/
def execPosition (sender : Station) (payload : List Byte) (s : State) : Host.Outcome State Fault Refusal :=
  .next
    (receive 0 sender payload (fun l t =>
      match parsePosition payload with
      | some m => hearNeighbour (takePosition m l t)
      | none => t) s)

end Sys2Proof.Machine
end

