-- ==== Sys2Proof/Machine/SpeedUnit.lean ====
section
/-! DEFINITION. The Speed Unit's commands (spec/05): CEILING, the lapse of an entry, the ramp and the posting of the own ceiling. -/

namespace Sys2Proof.Machine

/-- CEILING: the sender's entry becomes CURRENT, its lapse timer at the full ceiling hold time (R73). -/
def execCeiling (sender : Station) (payload : List Byte) (s : State) : Host.Outcome State Fault Refusal :=
  .next
    (receive 1 sender payload (fun _ t =>
      match parseCeiling payload with
      | some m => writeEntry sender (.current m t.conf.ceilingHold) t
      | none => t) s)

/-- LAPSE_TIMER_EXPIRY: a CURRENT entry becomes LAPSED, its contents kept (R74). -/
def execLapseTimerExpiry (station : Station) (s : State) : Host.Outcome State Fault Refusal :=
  .next
    (match s.entry station with
    | .current m _ => writeEntry station (.lapsed m) s
    | _ => s)

/-- One step of the fine commanded speed toward 100 times the target (R78). -/
def rampStep (accel decel fine goal : Nat) : Nat :=
  if fine < goal then min goal (fine + accel) else if goal < fine then max goal (fine - decel) else fine

/-- The rate in force for a falling ramp: emergency decel in HALTED (R78). -/
def State.fallRate (s : State) : Nat := if s.stn = .halted then s.conf.emergencyDecel else s.conf.decel

/-- The fine commanded speed after a step of the ramp. -/
def State.fineNext (s : State) : Nat := rampStep s.conf.accel s.fallRate s.spd.fine (100 * effectiveTarget s)

/-- The SUPPLY's emergency ramp in HALTED: the unwind reference is its commanded speed, and the brake comes on at 0 (R80, R142). -/
def rampUnwind (s : State) : State :=
  { s with
    spd.fine := s.fineNext
    sup.unwindRef := s.fineNext / 100
    sup.brake := s.sup.brake || decide (s.fineNext / 100 = 0) }

/-- RAMP_TIMER_EXPIRY: one step of the ramp (R78, R79), and the test for the end of STOPPING at the HEAD and a SETTER (R10). At the SUPPLY
the ramp acts in HALTED alone (R80). -/
def execRampTimerExpiry (s : State) : Host.Outcome State Fault Refusal :=
  .next
    (if s.spd.rampTimer.isSome then
      let t := { s with spd.rampTimer := some Config.tenMs }
      if s.role = some .supply then (if s.stn = .halted then rampUnwind t else t)
      else stoppingEnd { t with spd.fine := s.fineNext }
    else s)

/-- POSTING_TIMER_EXPIRY: a CEILING is handed, which restarts the timer (R83). -/
def execPostingTimerExpiry (s : State) : Host.Outcome State Fault Refusal :=
  .next (if s.spd.postTimer.isSome then handCeiling s else s)

end Sys2Proof.Machine
end

