-- ==== Sys2Proof/Machine/StationControl.lean ====
section
/-! DEFINITION. Station Control (spec/01): power-on and the configuration, restart, the inputs of the LINE STOP, stop heard, the quiet
timer, RUN STATE and the silence timers. -/

namespace Sys2Proof.Machine

/-! ## Power-on and configuration -/

/-- POWER_ON: every block at its power-on state, the configuration timer running (R3). The commands still waiting and the count of free
values are the model's own and stay. -/
def execPowerOn (s : State) : Host.Outcome State Fault Refusal :=
  .next { State.reset with pending := s.pending, freeCount := s.freeCount }

/-- A zone record at the start of the unit (R155). -/
def Zone.start : Zone := ⟨0, none, .lost, 0, 0, none⟩

/-- A timer that runs only in one role. -/
def roleTimer (c : Cfg) (r : Role) (ms : Nat) : Timer := if c.role = r then some ms else none

/-- The work state that every block has at the end of a valid CONFIG and after a restart (R12, R56, R71, R84, R85, R109, R126, R143,
R155, R156, R161, R168, R169): power-on values with the timers that start running. `a0` to `b1` are the accepted encoder levels. -/
def startWork (c : Cfg) (levels0 levels1 : Levels) (s : State) : State :=
  { s with
    ctl := { Control.reset with configTimer := none }
    msg := .reset
    pos := { Pos.reset with
      ch0 := ⟨0, levels0.a, levels0.b⟩
      ch1 := ⟨0, levels1.a, levels1.b⟩
      speedTimer := some Config.tenMs }
    spd := { Speed.reset with rampTimer := some Config.tenMs, postTimer := some Config.hundredMs }
    slots := Vector.replicate 16 Slot.blank
    lay := { Laying.reset with feedTimer := roleTimer c .head Config.tenMs }
    sup := { Supply.reset with
      supplyTimer := roleTimer c .supply Config.tenMs
      rollTimer := roleTimer c .supply Config.rollStateMs }
    set := { Setting.reset with zones := if c.role = .setter then List.replicate c.zoneCount Zone.start else [] }
    map := { WebMap.reset with sampleTimer := roleTimer c .setter Config.hundredMs }
    port.refDuty := Vector.replicate 3 0
    port.valveDuty := Vector.replicate 4 0
    port.staleness := Vector.replicate 8 (some Config.stalenessMs)
    port.report := none }

/-- The end of a valid CONFIG (R3, R33, R34, R58): the quantities taken, the accept table built, the receiver started with the bus BUSY,
every block started, and the entry to LISTEN. At the SUPPLY the first ROLL STATE is handed (R141, log 15). -/
def endConfig (c : Cfg) (levels0 levels1 : Levels) (s : State) : State :=
  let unused : Levels := ⟨false, false⟩
  let t := startWork c levels0 (if c.role = .head then levels1 else unused) { s with cfg := some c }
  let t := setOwn { t with stn := .listen, link := { Link.reset with accept := acceptTable c } }
  handRollState (enterListen t)

/-- Entry to CONFIG FAULT (R3, R5): CONFIG BAD with its detail and state CONFIG; with a usable number the FAULT notice and the repeat
timer. -/
def enterConfigFault (detail : Nat) (number : Option Station) (s : State) : State :=
  let r : FaultRecord := ⟨.configBad, half16 detail, .config⟩
  let t := { s with
    stn := .configFault
    fault := some r
    faultSender := number
    link := .reset
    ctl.configTimer := none
    ctl.repeatTimer := number.map fun _ => Config.configFaultRepeatMs }
  if number.isSome then postLasting (.fault r) t else t

/-- The sender number field 1 of a record allows in CONFIG FAULT: 0 to 6 (R5). -/
def usableNumber (r : List Byte) : Option Station :=
  if (byteAt r 0).toNat ≤ 6 then some (BitVec.ofNat 3 (byteAt r 0).toNat) else none

/-- CONFIGURATION_READ_COMPLETE: in CONFIG, the configuration timer stops and the record is validated (R3, R4). -/
def execConfigurationReadComplete (record : Vector Byte 150) (levels0 levels1 : Levels) (s : State) :
    Host.Outcome State Fault Refusal :=
  .next
    (if s.stn = .config ∧ s.ctl.configTimer.isSome = true then
      match recordFailure record.toList with
      | none => endConfig (decodeRecord record.toList) levels0 levels1 s
      | some d => enterConfigFault d (usableNumber record.toList) s
    else s)

/-- CONFIGURATION_TIMER_EXPIRY: the record is unreadable (R3). -/
def execConfigurationTimerExpiry (s : State) : Host.Outcome State Fault Refusal :=
  .next (if s.stn = .config ∧ s.ctl.configTimer.isSome = true then enterConfigFault 0 none s else s)

/-- Some entry of the queue holds a FAULT notice (R5). -/
def Msg.hasFault (m : Msg) : Bool := m.hasKind 5

/-- CONFIG_FAULT_REPEAT_TIMER_EXPIRY: a further FAULT notice, unless one is still queued; the timer runs on (R5). -/
def execConfigFaultRepeatTimerExpiry (s : State) : Host.Outcome State Fault Refusal :=
  .next
    (if s.stn = .configFault ∧ s.ctl.repeatTimer.isSome = true then
      let t := { s with ctl.repeatTimer := some Config.configFaultRepeatMs }
      match s.fault with
      | some r => if s.msg.hasFault then t else postLasting (.fault r) t
      | none => t
    else s)

/-! ## Restart -/

/-- The Link Interface at a restart: a frame in flight and one being collected are dropped, a pattern goes on, the accept table and the
bus condition stay (R37). -/
def Link.restart (l : Link) : Link :=
  { l with
    tx := if l.tx = .sendingStop then .sendingStop else .waiting
    wire := []
    broken := 0
    consoleSilence := none
    neighbourSilence := none
    latch := none }

/-- The levels a channel has accepted. -/
def Channel.levels (c : Channel) : Levels := ⟨c.a, c.b⟩

/-- What a ROLL STATE shows a change of: the arms' states, the splice state and the festoon condition (R141). -/
def Supply.shown (u : Supply) : ArmState × ArmState × SpliceState × Festoon := (u.armA.state, u.armB.state, u.splice, u.festoon)

/-- A restart in LISTEN to HALTED: every block returns to its restart state and the station enters LISTEN (R18). At the SUPPLY a ROLL
STATE is handed when an arm, the splice state or the festoon condition has changed by it (R141). -/
def restartStation (s : State) : State :=
  let t := startWork s.conf s.pos.ch0.levels s.pos.ch1.levels { s with link := s.link.restart }
  let t := enterListen (setOwn { t with stn := .listen })
  if s.sup.shown = Supply.reset.shown then t else handRollState t

/-- RESTART: the filtered level of input 8, kept in every state (R167), and, when it becomes active in LISTEN to HALTED, the restart
(R18). -/
def execRestart (rise : Rise) (s : State) : Host.Outcome State Fault Refusal :=
  .next
    (let p := samplePins rise.others s
    let t := { p with port.restartIn := levelAfter p.port.restartIn rise }
    if p.live = true ∧ rises p.port.restartIn rise = true then restartStation t else t)

/-! ## E-stop and web break -/

/-- E_STOP_BECOMES_ACTIVE: the filtered level, and the local cause E-STOP (R13). -/
def execEStopBecomesActive (samples : Nat) (s : State) : Host.Outcome State Fault Refusal :=
  .next
    (if s.live = true ∧ rises s.port.eStop ⟨0, samples, []⟩ = true then localCause .eStop 0 false { s with port.eStop := true } else s)

/-- E_STOP_BECOMES_INACTIVE: the filtered level, and the test for leaving HALTED (R16). -/
def execEStopBecomesInactive (samples : Nat) (s : State) : Host.Outcome State Fault Refusal :=
  .next (if s.live = true ∧ falls s.port.eStop samples = true then haltedExit { s with port.eStop := false } else s)

/-- WEB_BREAK_BECOMES_ACTIVE: the filtered level, and the local cause WEB BREAK (R13). -/
def execWebBreakBecomesActive (samples : Nat) (s : State) : Host.Outcome State Fault Refusal :=
  .next
    (if s.live = true ∧ rises s.port.webBreak ⟨0, samples, []⟩ = true then localCause .webBreak 0 false { s with port.webBreak := true } else s)

/-- WEB_BREAK_BECOMES_INACTIVE: the filtered level, and the test for leaving HALTED (R16). -/
def execWebBreakBecomesInactive (samples : Nat) (s : State) : Host.Outcome State Fault Refusal :=
  .next (if s.live = true ∧ falls s.port.webBreak samples = true then haltedExit { s with port.webBreak := false } else s)

/-! ## The LINE STOP on the medium -/

/-- LINE_STOP_PATTERN_END: after 64 bit times the pattern ends and the transmitter is WAITING (R28). -/
def execLineStopPatternEnd (bits : Nat) (s : State) : Host.Outcome State Fault Refusal :=
  .next
    (if s.link.tx = .sendingStop ∧ Config.patternBits ≤ bits then { s with link.tx := .waiting } else s)

/-- HALT HEARD: a stop heard in LISTEN to STOPPING (R15). -/
def haltHeard (s : State) : State :=
  let r : FaultRecord := ⟨.haltHeard, 0, s.stn⟩
  postLasting (.fault r) (enterHalted { s with fault := some r })

/-- STOP_HEARD: a dominant run of 40 bit times (R15, R29). Its edge makes an IDLE bus BUSY (R20). -/
def execStopHeard (run : Nat) (s : State) : Host.Outcome State Fault Refusal :=
  .next
    (if s.receives = true ∧ Config.stopBits ≤ run then
      let t := noteEdge s
      if t.stn = .halted then { t with ctl.quiet := some Config.quietMs }
      else if t.live then haltHeard t
      else t
    else s)

/-- QUIET_TIMER_EXPIRY: the test for leaving HALTED (R16). -/
def execQuietTimerExpiry (s : State) : Host.Outcome State Fault Refusal :=
  .next (if s.ctl.quiet.isSome then haltedExit { s with ctl.quiet := none } else s)

/-! ## RUN STATE -/

/-- A RUN STATE acts on the station state (R7, R8, R9, R16). -/
def runStateActs (run : Bool) (s : State) : State :=
  match s.stn with
  | .listen => listenTest s
  | .ready => if run && s.mayRun then enterRunning s else s
  | .running => if run then s else enterStopping s
  | .halted => haltedExit s
  | _ => s

/-- A RUN STATE is taken (R12): set speed (R77), last clear count, the entry clear count of a station that halted before it heard the
console, console heard, then the station state. -/
def takeRunState (m : RunStateMsg) (s : State) : State :=
  runStateActs m.run
    { s with
      spd.setSpeed := min m.setSpeed s.roleMax
      ctl.lastClear := some m.clear
      ctl.entryClear := if s.stn = .halted ∧ s.ctl.entryClear = none then some m.clear else s.ctl.entryClear
      ctl.consoleHeard := true
      link.consoleSilence := some s.conf.silenceLimit }

/-- RUN_STATE: a kind 8 frame; the accept table takes the console's alone (R12, R32, R33). -/
def execRunState (sender : Station) (payload : List Byte) (s : State) : Host.Outcome State Fault Refusal :=
  .next
    (receive 8 sender payload (fun _ t =>
      match parseRunState payload with
      | some m => takeRunState m t
      | none => t) s)

/-! ## Silence timers -/

/-- The silence of a watched frame, by station state (R11). -/
def silence (code : FaultCode) (detail : Nat) (s : State) : State :=
  match s.stn with
  | .ready => enterListen (recordFault code detail s)
  | .running => enterStopping (recordFault code detail s)
  | .stopping => recordFault code detail s
  | _ => s

/-- CONSOLE_SILENCE_TIMER_EXPIRY (R11, R36). -/
def execConsoleSilenceTimerExpiry (s : State) : Host.Outcome State Fault Refusal :=
  .next
    (if s.link.consoleSilence.isSome then
      silence .consoleSilent 7 { s with link.consoleSilence := none, ctl.consoleHeard := false }
    else s)

/-- The neighbour's silence at the block that owns its POSITION: the SUPPLY takes the HEAD's infeed speed as 0 (R132), a SETTER's error
run starts afresh (R68). -/
def neighbourLost (s : State) : State :=
  match s.role with
  | some .supply => { s with sup.vHead := 0 }
  | some .setter => { s with pos.errorRun := 0 }
  | _ => s

/-- NEIGHBOUR_SILENCE_TIMER_EXPIRY (R11, R36, R68, R132). -/
def execNeighbourSilenceTimerExpiry (s : State) : Host.Outcome State Fault Refusal :=
  .next
    (if s.link.neighbourSilence.isSome then
      neighbourLost
        (silence .neighbourSilent s.neighbour.toNat { s with link.neighbourSilence := none, ctl.neighbourHeard := false })
    else s)

end Sys2Proof.Machine
end

