-- ==== Sys2Proof/Machine/Dispatch.lean ====
section
/-! DEFINITION. The meaning of every command, one arm for each row of spec/opcode_table.json. -/

namespace Sys2Proof.Machine

def exec (i : Instr) (s : State) : Host.Outcome State Fault Refusal :=
  match i with
  | .powerOn => Sys2Proof.Machine.execPowerOn s
  | .configurationReadComplete record levels0 levels1 => Sys2Proof.Machine.execConfigurationReadComplete record levels0 levels1 s
  | .configurationTimerExpiry => Sys2Proof.Machine.execConfigurationTimerExpiry s
  | .configFaultRepeatTimerExpiry => Sys2Proof.Machine.execConfigFaultRepeatTimerExpiry s
  | .restart rise => Sys2Proof.Machine.execRestart rise s
  | .eStopBecomesActive samples => Sys2Proof.Machine.execEStopBecomesActive samples s
  | .eStopBecomesInactive samples => Sys2Proof.Machine.execEStopBecomesInactive samples s
  | .webBreakBecomesActive samples => Sys2Proof.Machine.execWebBreakBecomesActive samples s
  | .webBreakBecomesInactive samples => Sys2Proof.Machine.execWebBreakBecomesInactive samples s
  | .lineStopPatternEnd bits => Sys2Proof.Machine.execLineStopPatternEnd bits s
  | .stopHeard run => Sys2Proof.Machine.execStopHeard run s
  | .quietTimerExpiry => Sys2Proof.Machine.execQuietTimerExpiry s
  | .runState sender payload => Sys2Proof.Machine.execRunState sender payload s
  | .consoleSilenceTimerExpiry => Sys2Proof.Machine.execConsoleSilenceTimerExpiry s
  | .neighbourSilenceTimerExpiry => Sys2Proof.Machine.execNeighbourSilenceTimerExpiry s
  | .frameStart => Sys2Proof.Machine.execFrameStart s
  | .transmitStart => Sys2Proof.Machine.execTransmitStart s
  | .frameWithdrawn bit => Sys2Proof.Machine.execFrameWithdrawn bit s
  | .frameCancelled bit => Sys2Proof.Machine.execFrameCancelled bit s
  | .frameComplete => Sys2Proof.Machine.execFrameComplete s
  | .brokenFrame chars => Sys2Proof.Machine.execBrokenFrame chars s
  | .position sender payload => Sys2Proof.Machine.execPosition sender payload s
  | .ceiling sender payload => Sys2Proof.Machine.execCeiling sender payload s
  | .lapseTimerExpiry station => Sys2Proof.Machine.execLapseTimerExpiry station s
  | .panelPassStart sender payload => Sys2Proof.Machine.execPanelPassStart sender payload s
  | .panelPassEnd sender payload => Sys2Proof.Machine.execPanelPassEnd sender payload s
  | .seamAtHead sender payload => Sys2Proof.Machine.execSeamAtHead sender payload s
  | .seamAtSetter sender payload => Sys2Proof.Machine.execSeamAtSetter sender payload s
  | .seamSlot sender payload => Sys2Proof.Machine.execSeamSlot sender payload s
  | .panelOrder sender payload => Sys2Proof.Machine.execPanelOrder sender payload s
  | .orderCancel sender payload => Sys2Proof.Machine.execOrderCancel sender payload s
  | .patternBlock sender payload => Sys2Proof.Machine.execPatternBlock sender payload s
  | .patternCommit sender payload => Sys2Proof.Machine.execPatternCommit sender payload s
  | .patternClear sender payload => Sys2Proof.Machine.execPatternClear sender payload s
  | .rollLoad sender payload => Sys2Proof.Machine.execRollLoad sender payload s
  | .setpoint sender payload => Sys2Proof.Machine.execSetpoint sender payload s
  | .answerWait sender payload => Sys2Proof.Machine.execAnswerWait sender payload s
  | .answerBusy sender payload => Sys2Proof.Machine.execAnswerBusy sender payload s
  | .answerDone sender payload => Sys2Proof.Machine.execAnswerDone sender payload s
  | .answerRefused sender payload => Sys2Proof.Machine.execAnswerRefused sender payload s
  | .repeatTimerExpiry entry => Sys2Proof.Machine.execRepeatTimerExpiry entry s
  | .holdTimerExpiry requester id => Sys2Proof.Machine.execHoldTimerExpiry requester id s
  | .encoderCount channel line samples => Sys2Proof.Machine.execEncoderCount channel line samples s
  | .speedTimerExpiry => Sys2Proof.Machine.execSpeedTimerExpiry s
  | .keepAliveTimerExpiry => Sys2Proof.Machine.execKeepAliveTimerExpiry s
  | .rampTimerExpiry => Sys2Proof.Machine.execRampTimerExpiry s
  | .postingTimerExpiry => Sys2Proof.Machine.execPostingTimerExpiry s
  | .feedTimerExpiry => Sys2Proof.Machine.execFeedTimerExpiry s
  | .bladeHomeBecomesActive rise => Sys2Proof.Machine.execBladeHomeBecomesActive rise s
  | .bladeHomeTimerExpiry => Sys2Proof.Machine.execBladeHomeTimerExpiry s
  | .strokePulseEnd side => Sys2Proof.Machine.execStrokePulseEnd side s
  | .supplyTimerExpiry => Sys2Proof.Machine.execSupplyTimerExpiry s
  | .pressDone rise => Sys2Proof.Machine.execPressDone rise s
  | .pressTimerExpiry => Sys2Proof.Machine.execPressTimerExpiry s
  | .armReadyBecomesActive arm rise => Sys2Proof.Machine.execArmReadyBecomesActive arm rise s
  | .threadingTimerExpiry arm => Sys2Proof.Machine.execThreadingTimerExpiry arm s
  | .festoonReading burst => Sys2Proof.Machine.execFestoonReading burst s
  | .festoonHoldTimerExpiry => Sys2Proof.Machine.execFestoonHoldTimerExpiry s
  | .rollStateTimerExpiry => Sys2Proof.Machine.execRollStateTimerExpiry s
  | .zoneReport burst => Sys2Proof.Machine.execZoneReport burst s
  | .zoneHoldTimerExpiry zone => Sys2Proof.Machine.execZoneHoldTimerExpiry zone s
  | .sampleTimerExpiry => Sys2Proof.Machine.execSampleTimerExpiry s
  | .stalenessTimerExpiry channel => Sys2Proof.Machine.execStalenessTimerExpiry channel s
  | .sensorReportDropped burst => Sys2Proof.Machine.execSensorReportDropped burst s
  | .busIdle recessive => Sys2Proof.Machine.execBusIdle recessive s
  | .bothAcceptedLevelsChange channel samples => Sys2Proof.Machine.execBothAcceptedLevelsChange channel samples s
  | .pwmPeriodStart => Sys2Proof.Machine.execPwmPeriodStart s

end Sys2Proof.Machine
end

