-- ==== Sys2Proof/Machine/Step.lean ====
section
/-! DEFINITION. One step of the block: the command at the front of the queue, or, on an empty queue, an idle step (log 1). -/

namespace Sys2Proof.Machine

/-- An idle step: the tag character in flight ends, if one is being driven (R24, log 1). Nothing else happens. -/
def idle (s : State) : State := if s.link.tx = .sendingTag then { s with link.tx := .sendingBody } else s

/-- One step: exec of the command at the front of the queue on the state with the queue's rest; on an empty queue the block idles. -/
def step (s : State) : Host.Outcome State Fault Refusal :=
  match s.pending with
  | [] => .next (idle s)
  | c :: rest => exec c { s with pending := rest }

/-- The state with the command that a word spells put at the front of its queue; unchanged where the word spells none (log 24). -/
def State.withFetchWord (s : State) (nbits w : Nat) : State :=
  match decodeTableWord nbits w with
  | some c => { s with pending := c :: s.pending }
  | none => s

end Sys2Proof.Machine
end

