-- ==== Sys2Proof/Safety.lean ====
section
/-! DEFINITION. What the laws of the device say of a state (spec/00 to spec/11): the invariants the statements are about. -/

namespace Sys2Proof.Machine

/-- The entries of the outbound queue that hold a frame of a kind. -/
def Msg.countKind (m : Msg) (kind : Nat) : Nat := m.queue.countP fun e => e.frame.kind == kind

/-- Law 8 (R38, R39): at most 12 entries; of each superseding kind at most one, and none while one of the kind is held. -/
def Msg.queueLawful (m : Msg) : Prop :=
  m.queue.length ≤ Config.queueSize
    ∧ m.countKind 0 + m.heldPosition.toNat ≤ 1
    ∧ m.countKind 1 + m.heldCeiling.isSome.toNat ≤ 1
    ∧ m.countKind 4 + m.heldRollState.isSome.toNat ≤ 1

/-- A station that works has configuration quantities, and those it has are the ones of a valid record (R2, R3, R4). -/
def State.modeLawful (s : State) : Prop :=
  (s.live = true → s.cfg.isSome = true)
    ∧ ∀ c, s.cfg = some c → ∃ r : List Byte, r.length = 150 ∧ recordFailure r = none ∧ c = decodeRecord r

/-- Law 1 (R110, R111): at most 30 PANEL records, no two with one id; a NEXT item that follows a LAYING one starts where that ends. (That at
most one item is LAYING and at most one NEXT is the shape of the record.) -/
def State.itemsLawful (s : State) : Prop :=
  s.panels.length ≤ Config.panelPlaces
    ∧ (s.panels.map (·.id)).Nodup
    ∧ ∀ l n, s.lay.laying = some l → s.lay.next = some n → n.flatStart = l.flatEnd

/-- Law 2 (R96): each slot's in-use count is the number of PANEL records that name it, and a slot in use is READY. -/
def State.slotsLawful (s : State) : Prop :=
  (∀ p ∈ s.panels, p.slot < 16)
    ∧ ∀ n, n < 16 → (s.slot n).inUse = s.panels.countP (fun p => p.slot == n) ∧ (0 < (s.slot n).inUse → (s.slot n).state = .ready)

/-- Law 3 (R100, R103): at the HEAD the infeed limit is the lesser of the infeed max and the standing value of the SUPPLY's entry, and the
infeed reference does not exceed it. -/
def State.infeedLawful (s : State) : Prop :=
  s.isRole .head = true → s.lay.infeedLimit = infeedLimitNow s ∧ s.lay.infeedRef ≤ s.lay.infeedLimit

/-- Law 5 (R127): at most one arm is RUNNING; the press is on in splice state PRESSING alone. -/
def State.armsLawful (s : State) : Prop :=
  ¬(s.sup.armA.state = .running ∧ s.sup.armB.state = .running) ∧ (s.sup.pressFire = true → s.sup.splice = .pressing)

/-- Law 7 (R156): at most 24 spans, no two with one start, no two PANEL spans with one panel id. That they lie in increasing start is
`State.mapOrdered`. -/
def State.mapLawful (s : State) : Prop :=
  s.map.spans.length ≤ Config.mapPlaces
    ∧ s.map.spans.Pairwise fun x y => x.start ≠ y.start ∧ ∀ id, ¬(x.isPanel id = true ∧ y.isPanel id = true)

/-- Law 7 (R156): the spans lie in strictly increasing start, as R57 compares positions. -/
def State.mapOrdered (s : State) : Prop := s.map.spans.Pairwise fun x y => ahead y.start x.start = true

/-- Every span starts within 2^30 of a position, so that R57 compares any two of the starts as they lie on the web. -/
def State.spansNear (s : State) (b : Word) : Prop := ∀ x ∈ s.map.spans, (sdiff x.start b).natAbs < 2 ^ 30

/-- The requester and the code a delayed entry can have, by role (R46, R52): the watched neighbour's SEAM SLOT at the HEAD, the console's
ROLL LOAD at the SUPPLY. -/
def State.mayDelay (s : State) (d : Delayed) : Prop :=
  (s.role = some .head ∧ d.body.code = .seamSlot ∧ d.requester = s.neighbour)
    ∨ (s.role = some .supply ∧ d.body.code = .rollLoad ∧ d.requester = consoleStation)

/-- Law 9 (R49, R52): at most 4 pending requests, none above the attempt limit, none in a station that does not work, each in an entry of
its own of the four; at most one delayed entry, of its role's own kind. -/
def State.tablesLawful (s : State) : Prop :=
  s.msg.pendings.length ≤ Config.tableSize
    ∧ (s.live = false → s.msg.pendings = [])
    ∧ (∀ p ∈ s.msg.pendings, p.attempts ≤ s.conf.attemptLimit)
    ∧ (∀ p ∈ s.msg.pendings, p.entry < Config.tableSize)
    ∧ (s.msg.pendings.map (·.entry)).Nodup
    ∧ s.msg.delayed.length ≤ 1
    ∧ (∀ d ∈ s.msg.delayed, s.mayDelay d)

/-- A state in which every valve duty is 0 whatever the zones (R149). -/
def StationState.coldState : StationState → Bool
  | .config => true
  | .configFault => true
  | .halted => true
  | _ => false

/-- Law 10 (R149): every duty is 0 in CONFIG, CONFIG FAULT and HALTED, in a zone whose setpoint is 0 or whose sensor is lost, and after a
reading above the hard limit (the overtemperature mark) until HALTED is left; in HALTED every integral is 0 too. A duty is at most 1,023.
A station of another role keeps no zone record. -/
def State.heatLawful (s : State) : Prop :=
  (s.set.zones = [] ∨ s.role = some .setter)
    ∧ (s.set.overMark = true → s.stn = .halted ∧ s.role = some .setter)
    ∧ ∀ z ∈ s.set.zones,
      (z.setpoint = 0 → z.duty = 0) ∧ (z.cond = .lost → z.duty = 0) ∧ z.duty ≤ 1023
        ∧ (s.stn.coldState = true → z.duty = 0) ∧ (s.stn = .halted → z.integral = 0)

/-- Law 11 (R154) and R134: the own ceiling of a SETTER is the chest ceiling, and that of the SUPPLY its flat ceiling, each with its
reason. -/
def State.ceilingLawful (s : State) : Prop :=
  (s.isRole .setter = true → (s.spd.ownValue, s.spd.ownReason) = chestCeiling s)
    ∧ (s.isRole .supply = true → (s.spd.ownValue, s.spd.ownReason) = supplyCeiling s)

/-- The counts and speeds that the rules bound: pass count (R43), lost-notice count (R40), broken-frame count (R31), error run count (R67),
measured speed (R61), set speed in force (R77), festoon content (R130). -/
def State.countsLawful (s : State) : Prop :=
  s.msg.passCount ≤ 2 ∧ s.msg.lost ≤ 255 ∧ s.link.broken ≤ 255 ∧ s.pos.errorRun ≤ 2 ∧ s.pos.measured ≤ 65535
    ∧ s.spd.setSpeed ≤ s.roleMax ∧ s.sup.content ≤ 3276700

/-! ## What the statements say of frames and answers -/

/-- The commands whose own effect writes the quantities of `State.keepsWork`: power-on, the configuration and a restart; the ceiling table;
the ramp; counts, measured speed and feed; the unwind, the arms and the splice; the duties of a period. -/
def writesWork : Instr → Bool
  | .powerOn | .configurationReadComplete .. | .configurationTimerExpiry | .restart .. | .ceiling .. | .lapseTimerExpiry _
  | .rampTimerExpiry | .encoderCount .. | .bothAcceptedLevelsChange .. | .speedTimerExpiry | .feedTimerExpiry
  | .supplyTimerExpiry | .pressDone .. | .armReadyBecomesActive .. | .threadingTimerExpiry _ | .rollLoad .. | .answerDone ..
  | .answerRefused .. | .pwmPeriodStart => true
  | _ => false

/-- What a change of station state, a notice, a fault, a request or a fired watch leaves as it was: the configuration, the accept and ceiling
tables, the counts of both channels, measured speed and the infeed, the arms and the splice, the unwind reference, the output duties and
the commands still waiting. -/
def State.keepsWork (s t : State) : Prop :=
  t.cfg = s.cfg ∧ t.faultSender = s.faultSender ∧ t.link.accept = s.link.accept
    ∧ t.spd.table = s.spd.table ∧ t.spd.rampTimer = s.spd.rampTimer
    ∧ t.pos.ch0 = s.pos.ch0 ∧ t.pos.ch1 = s.pos.ch1 ∧ t.pos.measured = s.pos.measured ∧ t.pos.prev = s.pos.prev
    ∧ t.lay.infeedLimit = s.lay.infeedLimit ∧ t.lay.infeedRef = s.lay.infeedRef ∧ t.lay.trim = s.lay.trim
    ∧ t.sup.armA = s.sup.armA ∧ t.sup.armB = s.sup.armB ∧ t.sup.splice = s.sup.splice ∧ t.sup.fpos = s.sup.fpos
    ∧ t.sup.unwindRef = s.sup.unwindRef ∧ t.port.refDuty = s.port.refDuty ∧ t.port.valveDuty = s.port.valveDuty
    ∧ t.pending = s.pending

/-- A frame of a kind and sender reaches its owner with the latch of its start (R30 to R32, R64): its start was seen, its accept table entry
is not OFF, and its payload length is one allowed for the kind. -/
def State.hears (s : State) (kind : Nat) (sender : Station) (payload : List Byte) (l : Latch) : Prop :=
  s.frameLatch = some l ∧ s.accept (tagOf sender kind) ≠ .off ∧ lengthOk kind payload.length = true

/-- A REQUEST of a code is heard, is addressed to this station and has the length of its code (R45, steps 1 and 2). -/
def State.asked (s : State) (code : ReqCode) (sender : Station) (payload : List Byte) (r : RequestIn) : Prop :=
  (∃ l, s.hears 6 sender payload l) ∧ parseRequest code payload = some r ∧ r.target = stationByte s.conf.number

/-- A request finds no answered list entry, no delayed entry, the right role and an allowed requester, and no other delayed request of its
code: it reaches its serving block (R45, steps 3 to 8). -/
def State.serves (s : State) (code : ReqCode) (sender : Station) (r : RequestIn) : Prop :=
  s.msg.findAnswered sender r.id code = none ∧ s.msg.findDelayed sender r.id = none ∧ s.role = some code.role
    ∧ s.allowed code sender = true ∧ (code.delayable = true → s.msg.delays sender code = false)

/-- A copy of a final answer waits to be sent: in the queue, or, the queue full, marked unsent (R41). -/
def Msg.willSend (m : Msg) (a : Answered) : Prop :=
  m.copyWaits (.answer a.msg) = true ∨ UnsentRef.answer a.requester a.id ∈ m.unsent

/-- A final answer given now: the newest entry of the answered list, and waiting to be sent (R47, R48). -/
def Msg.gives (m : Msg) (a : Answered) : Prop := m.answered.getLast? = some a ∧ m.willSend a

/-- Of the Message Unit nothing has changed but the answered list, the unsent marks and frames added at the back of the queue. -/
def Msg.answersOnly (m m' : Msg) : Prop :=
  m' = { m with queue := m'.queue, answered := m'.answered, unsent := m'.unsent } ∧ m.queue <+: m'.queue

/-- Nothing is held for a free entry of the queue (R39, R41). -/
def Msg.holdsNothing (m : Msg) : Prop :=
  m.heldPosition = false ∧ m.heldCeiling = none ∧ m.heldRollState = none ∧ m.unsent = []

/-- The conditions for leaving HALTED, all at once (R16). -/
def State.released (s : State) : Prop :=
  s.stn = .halted ∧ (∃ a b, s.ctl.lastClear = some a ∧ s.ctl.entryClear = some b ∧ a ≠ b) ∧ s.ctl.quiet = none
    ∧ s.port.eStop = false ∧ s.port.webBreak = false

/-- What the expiry of a silence timer does to the station state and the fault record (R11), no input being active. -/
def State.silenced (s t : State) (code : FaultCode) (detail : Nat) : Prop :=
  (s.stn = .listen ∨ s.stn = .halted → t.stn = s.stn ∧ t.fault = s.fault ∧ t.msg = s.msg)
    ∧ (s.stn = .ready → t.stn = .listen)
    ∧ (s.stn = .running → t.stn = if s.atRest then .listen else .stopping)
    ∧ (s.stn = .stopping → t.stn = .stopping)
    ∧ (s.stn = .ready ∨ s.stn = .running ∨ s.stn = .stopping → s.msg.room = true → t.fault = some ⟨code, half16 detail, s.stn⟩)

/-! ## The choice of the next frame (R43) -/

/-- The oldest waiting notice (`notice` true), or the oldest waiting request or answer, is the entry at index `i`. -/
def Msg.oldestWaiting (m : Msg) (notice : Bool) (i : Nat) : Prop :=
  (∃ e, m.queue[i]? = some e ∧ e.isWaiting = true ∧ e.frame.isNotice = notice)
    ∧ ∀ j e, j < i → m.queue[j]? = some e → e.isWaiting = true → e.frame.isNotice ≠ notice

/-- No notice (`notice` true), or no request or answer, waits. -/
def Msg.noneWaits (m : Msg) (notice : Bool) : Prop := ∀ e ∈ m.queue, e.isWaiting = true → e.frame.isNotice ≠ notice

/-! ## The firing of watches (R62) -/

/-- `t` is reached from `s` by delivering `n` due watches, each of them removed as it is delivered, and none is due at the end. -/
def fires : Nat → State → State → Prop
  | 0, s, t => nextDue s = none ∧ t = s
  | n + 1, s, t => ∃ w, nextDue s = some w ∧ fires n (deliver w (dropWatch w s)) t

/-! ## The terms of the HEAD's own ceiling (R104, R105) -/

/-- A step of a PANEL that is LAYING or NEXT, by its geometry at the PANEL's grade. -/
def State.committedStep (s : State) (g : Geom) : Prop :=
  ∃ x, ((∃ l, s.lay.laying = some l ∧ l.item = .panel x) ∨ (∃ n, s.lay.next = some n ∧ n.item = .panel x))
    ∧ g ∈ (s.slot x.slot).geoms x.grade

/-- A term of the own ceiling with reason INFEED: the infeed limit, for no LAYING item, a GAP or a PLAIN step, or the infeed term of a
folded step that is not above its stroke term. -/
def State.infeedTerm (s : State) (v : Nat) : Prop :=
  (v = s.lay.infeedLimit
      ∧ (s.lay.laying = none ∨ (∃ l, s.lay.laying = some l ∧ l.item.isGap = true)
          ∨ (∃ n, s.lay.next = some n ∧ n.item.isGap = true) ∨ ∃ g, s.committedStep g ∧ g.k = 0))
    ∨ ∃ g, s.committedStep g ∧ g.k ≠ 0 ∧ s.lay.infeedLimit * g.p / g.f ≤ s.conf.strokeRateMax * g.p / (100 * g.spp)
        ∧ v = min (s.lay.infeedLimit * g.p / g.f) 65535

/-- A term of the own ceiling with reason STROKE: the stroke term of a folded step that is below its infeed term. -/
def State.strokeTerm (s : State) (v : Nat) : Prop :=
  ∃ g, s.committedStep g ∧ g.k ≠ 0 ∧ s.conf.strokeRateMax * g.p / (100 * g.spp) < s.lay.infeedLimit * g.p / g.f
    ∧ v = min (s.conf.strokeRateMax * g.p / (100 * g.spp)) 65535

/-! ## A seam against the committed set (R122) -/

/-- What a SEAM does to the LAYING item: an overlapped panel takes SEAM, an overlapped GAP is marked used, an item not overlapped, or
none, stays as it is. -/
def State.layingMarks (s : State) (m : SeamMsg) (t : State) : Prop :=
  (s.lay.laying = none → t.lay.laying = none)
    ∧ ∀ y, s.lay.laying = some y →
      (rangesOverlap m.pos (m.pos + m.length) y.flatStart y.flatEnd = false → t.lay.laying = some y)
      ∧ (rangesOverlap m.pos (m.pos + m.length) y.flatStart y.flatEnd = true →
          (∀ x, y.item = .panel x →
            t.lay.laying = some { y with item := .panel { x with flags := { x.flags with seam := true } } })
          ∧ (∀ g, y.item = .gap g → t.lay.laying = some { y with item := .gap { g with used := true } }))

/-- What a SEAM that overlaps no NEXT panel does to the LAYING and the NEXT item: an overlapped NEXT GAP is marked used, and a NEXT panel,
or none, stays as it is. -/
def State.seamMarks (s : State) (m : SeamMsg) (t : State) : Prop :=
  s.layingMarks m t
    ∧ (s.lay.next = none → t.lay.next = none)
    ∧ ∀ n, s.lay.next = some n →
      (∀ x, n.item = .panel x → t.lay.next = some n)
      ∧ (∀ g, n.item = .gap g → t.lay.next = some { n with item := .gap { g with
          used := g.used || rangesOverlap m.pos (m.pos + m.length) n.flatStart n.flatEnd } })

/-! ## What the role units do at the entry to HALTED, and the vent -/

/-- No watch fires at an entry to HALTED: none is due at the positions the role units leave there. They are the positions before, but for
the map position of a SETTER that is UNCAPTURED, which SUSPENDED lets go (log 28). A station that is in HALTED makes no entry. -/
def State.haltsQuietly (s : State) : Prop := s.stn = .halted ∨ nextDue (haltRole s) = none

/-- At the entry to HALTED: at the HEAD, where no watch is due, a LAYING panel takes HALT and nothing else of the queue changes (R125); at
the SUPPLY the emergency ramp starts from the unwind reference (R80) and the brake is on when that is 0, at the entry already (R142 by log
16); at a SETTER the registration is SUSPENDED (R67) and every span in the chest takes HALT (R161), after which the watches due at the map
position that SUSPENDED gives fire (R63 by log 28, in the order of log 12): with the map position not held before and none due, no other
span changes. -/
def State.roleHalts (s t : State) : Prop :=
  (s.role = some .head → nextDue s = none →
      (∀ l x, s.lay.laying = some l → l.item = .panel x → t.lay = { s.lay with
        laying := some { l with item := .panel { x with flags := { x.flags with halt := true } } } })
      ∧ ((∀ l x, s.lay.laying = some l → l.item ≠ .panel x) → t.lay = s.lay))
    ∧ (s.role = some .supply →
        t.spd.fine = 100 * s.sup.unwindRef
          ∧ t.sup = { s.sup with brake := s.sup.brake || decide (s.sup.unwindRef = 0), rollTimer := t.sup.rollTimer })
    ∧ (s.role = some .setter → t.pos.reg = .suspended ∧ t.pos.errorRun = 0)
    ∧ (s.role = some .setter → ∃ u : State, u.stn = .halted ∧ u.cfg = s.cfg
        ∧ u.pos = { s.pos with reg := .suspended, errorRun := 0, keepAlive := u.pos.keepAlive }
        ∧ u.set.zones = s.set.zones.map (fun z => { z with integral := 0, duty := 0 })
        ∧ u.map = { s.map with spans := s.map.spans.map fun sp =>
            if sp.phase = .approaching then sp else { sp with own := { sp.own with halt := true } } }
        ∧ ∀ (k : Nat) (v : State), fires k u v → k ≤ 65536 → t.map = v.map ∧ t.pos.watches = v.pos.watches)
    ∧ (s.role = some .setter → s.pos.reg ≠ .uncaptured → nextDue s = none →
        t.map.spans.length = s.map.spans.length
          ∧ ∀ (i : Nat) (sp : Span), s.map.spans[i]? = some sp →
              (sp.phase = .approaching → t.map.spans[i]? = some sp)
              ∧ (sp.phase ≠ .approaching → t.map.spans[i]? = some { sp with own := { sp.own with halt := true } }))

/-- Some zone in use has a reading in force above its setpoint plus the band (R151). -/
def State.overTheBand (s : State) : Prop :=
  ∃ z ∈ s.set.zones, 0 < z.setpoint ∧ ∃ r, z.reading = some r ∧ z.setpoint + s.conf.band < r

/-- The vent after the over-band test: on throughout HALTED; else on with a zone over its band, off with every zone in use at or below its
setpoint or without a reading, and between the two as it was (R151). -/
def State.ventFollows (before : Bool) (t : State) : Prop :=
  (t.stn = .halted → t.set.vent = true)
    ∧ (t.stn ≠ .halted →
        (t.overTheBand → t.set.vent = true)
        ∧ ((∀ z ∈ t.set.zones, 0 < z.setpoint → ∀ r, z.reading = some r → r ≤ z.setpoint) → t.set.vent = false)
        ∧ (¬t.overTheBand → (∃ z ∈ t.set.zones, 0 < z.setpoint ∧ ∃ r, z.reading = some r ∧ z.setpoint < r) → t.set.vent = before))

end Sys2Proof.Machine
end

