-- ==== Sys2Proof/Certificates/Slice0/Obligations.lean ====
section
/-! DEFINITION. The statements about the Nohzel 412: one `Obligations.<Name>` for each row of OBLIGATIONS.json. -/

open Sys2Proof Sys2Proof.Machine

/-! ## The step and the state after power-on -/

/-- One step runs the command at the front of the queue on the state with the queue's rest. -/
def Obligations.StepRunsTheFrontCommand : Prop :=
  ∀ (c : Instr) (rest : List Instr) (s : State), s.pending = c :: rest → step s = exec c { s with pending := rest }

/-- On an empty queue the block idles: the tag character in flight ends, and nothing else happens (the model's choice, log 1). -/
def Obligations.EmptyQueueIdles : Prop :=
  ∀ s : State, s.pending = [] →
    (s.link.tx = .sendingTag → step s = .next { s with link.tx := .sendingBody })
      ∧ (s.link.tx ≠ .sendingTag → step s = .next s)

/-- The state after power-on satisfies every law the invariants below keep. -/
def Obligations.ResetIsLawful : Prop :=
  State.reset.msg.queueLawful ∧ State.reset.modeLawful ∧ State.reset.itemsLawful ∧ State.reset.slotsLawful
    ∧ State.reset.infeedLawful ∧ State.reset.armsLawful ∧ State.reset.mapLawful ∧ State.reset.mapOrdered ∧ State.reset.tablesLawful
    ∧ State.reset.heatLawful ∧ State.reset.ceilingLawful ∧ State.reset.countsLawful

/-- POWER_ON puts the station in CONFIG with the configuration timer and no other timer running, an empty fault record, an inactive link,
every block at its power-on state, every filtered input level inactive and every output off. Where the spec gives a quantity no power-on
value (the bus condition, accepted encoder levels, the own ceiling, H, the arrival offset, the level of input 8, the direction of a cleared
step record, the records of zones the chest has not), the value is the model's choice (log 23). -/
def Obligations.PowerOnStartsConfig : Prop :=
  ∀ s : State, ∃ t, exec .powerOn s = .next t
    ∧ t.stn = .config ∧ t.cfg = none ∧ t.fault = none ∧ t.ctl.configTimer = some 50
    ∧ t.ctl.lastClear = none ∧ t.ctl.entryClear = none ∧ t.ctl.consoleHeard = false ∧ t.ctl.neighbourHeard = false
    ∧ t.link.tx = .waiting ∧ t.link.wire = [] ∧ (∀ tag, t.accept tag = .off) ∧ t.link.broken = 0
    ∧ t.link.consoleSilence = none ∧ t.link.neighbourSilence = none ∧ t.link.bus = .busy ∧ t.link.latch = none
    ∧ t.faultSender = none ∧ t.ctl.repeatTimer = none ∧ t.ctl.quiet = none
    ∧ t.msg = Msg.reset ∧ t.pos = Pos.reset
    ∧ t.spd = ⟨Vector.replicate 7 .neverHeard, 0, 0, 0, .notRunning, none, none, none⟩
    ∧ (∀ n, t.slot n = Slot.blank) ∧ t.lay = Laying.reset ∧ t.sup = Supply.reset ∧ t.set = Setting.reset ∧ t.map = WebMap.reset
    ∧ t.port.refDuty = Vector.replicate 3 0 ∧ t.port.valveDuty = Vector.replicate 4 0
    ∧ t.port.staleness = Vector.replicate 8 none ∧ t.port.report = none
    ∧ (∀ n, t.input n = false ∧ t.output n = false)
    ∧ t.pending = s.pending

/-! ## The laws of the device, kept by every step -/

/-- Law 8, its first half: the outbound queue stays within 12 entries and one frame of each superseding kind. -/
def Obligations.StepKeepsQueueLaw : Prop :=
  ∀ s s' : State, step s = .next s' → s.msg.queueLawful → s'.msg.queueLawful

/-- Law 1: the panel queue keeps its places, its ids and the place of its NEXT item. Law 2: each slot's in-use count is the number of
panels that name it, and a slot in use is READY. -/
def Obligations.StepKeepsPanelQueueAndSlots : Prop :=
  (∀ s s' : State, step s = .next s' → s.itemsLawful → s'.itemsLawful)
  ∧ (∀ s s' : State, step s = .next s' → s.slotsLawful → s'.slotsLawful)

/-- Law 3: the HEAD's infeed reference stays within its infeed limit. Law 11, and R134 at the SUPPLY: the own ceiling is the one the
chest, or the splice state, gives. R105: while the slots of the queue's panels are lawful, the HEAD's own ceiling is the least of the
terms of its LAYING and NEXT items. -/
def Obligations.StepKeepsSpeedLimitLaws : Prop :=
  (∀ s s' : State, step s = .next s' → s.infeedLawful → s'.infeedLawful)
  ∧ (∀ s s' : State, step s = .next s' → s.ceilingLawful → s'.ceilingLawful)
  ∧ (∀ s s' : State, step s = .next s' → s.slotsLawful →
     (s.isRole .head = true → (s.spd.ownValue, s.spd.ownReason) = headCeiling s) →
     s'.isRole .head = true → (s'.spd.ownValue, s'.spd.ownReason) = headCeiling s')

/-- Law 5, its lasting part: at most one arm RUNNING, the press on in PRESSING alone. Law 5, the firing: a step that turns the press on
leaves the station RUNNING, in splice state PRESSING, with measured speed 0. -/
def Obligations.StepKeepsSpliceLaw : Prop :=
  (∀ s s' : State, step s = .next s' → s.armsLawful → s'.armsLawful)
  ∧ (∀ s s' : State, step s = .next s' → s.sup.pressFire = false → s'.sup.pressFire = true →
     s'.stn = .running ∧ s'.sup.splice = .pressing ∧ s'.pos.measured = 0)

/-- Law 7: the web map keeps its places, its distinct starts and its distinct panel ids. Spans that all start within 2^30 of one position
keep their strictly increasing start: farther apart, the comparison of R57 is no order. -/
def Obligations.StepKeepsMapLaw : Prop :=
  (∀ s s' : State, step s = .next s' → s.mapLawful → s'.mapLawful)
  ∧ (∀ (s s' : State) (b : Word), step s = .next s' → s.mapLawful → s.spansNear b → s'.spansNear b → s.mapOrdered → s'.mapOrdered)

/-- Law 9, with the configuration it rests on: the tables of the Message Unit keep their places and attempts, each pending request in an
entry of its own (the entries' numbers are log 35, the model's reading), and a working station its valid record. The counts and speeds stay
within the bounds their rules give. -/
def Obligations.StepKeepsTablesAndCounts : Prop :=
  (∀ s s' : State, step s = .next s' → s.modeLawful → s.tablesLawful → s'.modeLawful ∧ s'.tablesLawful)
  ∧ (∀ s s' : State, step s = .next s' → s.countsLawful → s'.countsLawful)

/-- Law 10: every valve duty is 0 where the law says. -/
def Obligations.StepKeepsHeatLaw : Prop :=
  ∀ s s' : State, step s = .next s' → s.heatLawful → s'.heatLawful

/-- A command that is not itself about them leaves the configuration, the tables, the counts, the arms, the splice, the references and
the duties as they were, whatever station state, fault or notice it brings about. -/
def Obligations.OtherCommandsKeepTheWork : Prop :=
  ∀ (c : Instr) (s t : State), writesWork c = false → exec c s = .next t → s.keepsWork t

/-- Law 4: the effective target is 0 outside RUNNING and at the SUPPLY, and never above the set speed, the own ceiling, the outfeed max
or any line entry's standing value. In RUNNING, at the HEAD and a SETTER, it is one of these: the least of them. The HEAD's own ceiling
is the least of the outfeed max and of its INFEED and STROKE terms, INFEED before STROKE and either before OUTFEED MAX among equals. -/
def Obligations.TargetWithinEveryLimit : Prop :=
  (∀ s : State,
    (s.stn ≠ .running → effectiveTarget s = 0) ∧ (s.role = some .supply → effectiveTarget s = 0)
      ∧ effectiveTarget s ≤ s.spd.setSpeed ∧ effectiveTarget s ≤ s.spd.ownValue ∧ effectiveTarget s ≤ s.conf.outfeedMax
      ∧ ∀ m : Station, m ≠ consoleStation → s.otherMember m = true → (s.entry m).flat = false →
          effectiveTarget s ≤ (s.entry m).standing)
  ∧ (∀ s : State, s.stn = .running → s.role = some .head ∨ s.role = some .setter →
     effectiveTarget s = s.spd.setSpeed ∨ effectiveTarget s = s.spd.ownValue ∨ effectiveTarget s = s.conf.outfeedMax
       ∨ ∃ m : Station, m ≠ consoleStation ∧ s.otherMember m = true ∧ (s.entry m).flat = false
           ∧ effectiveTarget s = (s.entry m).standing)
  ∧ (∀ s : State,
     (headCeiling s).1 ≤ s.conf.outfeedMax
     ∧ (∀ v, s.infeedTerm v → (headCeiling s).1 ≤ v ∧ ((headCeiling s).1 = v → (headCeiling s).2 = .infeed))
     ∧ (∀ v, s.strokeTerm v → (headCeiling s).1 ≤ v ∧ ((headCeiling s).1 = v → (headCeiling s).2 ≠ .outfeedMax))
     ∧ (((headCeiling s).2 = .infeed ∧ s.infeedTerm (headCeiling s).1)
         ∨ ((headCeiling s).2 = .stroke ∧ s.strokeTerm (headCeiling s).1)
         ∨ ((headCeiling s).2 = .outfeedMax ∧ (headCeiling s).1 = s.conf.outfeedMax)))

/-- Law 8, its second half: the transmitter is never given a request or an answer while a notice that entered the queue earlier waits,
and the choice is among the waiting frames. The choice is the one R43's table gives for the oldest waiting notice N and the oldest waiting
request or answer Q: none with nothing waiting, and with anything waiting always one of the two. On an IDLE bus a WAITING transmitter
starts the chosen frame: its entry is in flight, its characters are those of the tag, the length, the payload as it is now, and the check.
With nothing waiting nothing starts. A POSITION is filled with the positions and speeds of that moment by role. -/
def Obligations.TheChosenFrameIsSent : Prop :=
  (∀ (m : Msg),
     (m.noneWaits true → m.noneWaits false → m.choose = none)
     ∧ (∀ n, m.oldestWaiting true n → m.noneWaits false → m.choose = some (n, false))
     ∧ (∀ q, m.noneWaits true → m.oldestWaiting false q → m.choose = some (q, false))
     ∧ (∀ n q, m.oldestWaiting true n → m.oldestWaiting false q →
         (n < q → m.choose = some (n, false))
         ∧ (q < n → m.passCount < 2 → m.choose = some (n, true))
         ∧ (q < n → 2 ≤ m.passCount → m.choose = some (q, false)))
     ∧ (∀ e ∈ m.queue, e.isWaiting = true → m.choose.isSome = true))
  ∧ (∀ (m : Msg) (i : Nat) (passing : Bool), m.choose = some (i, passing) →
     ∃ e, m.queue[i]? = some e ∧ e.isWaiting = true
       ∧ (e.frame.isNotice = false → ∀ j e', j < i → m.queue[j]? = some e' → ¬(e'.isWaiting = true ∧ e'.frame.isNotice = true))
       ∧ (passing = true → e.frame.isNotice = true ∧ m.passCount < 2
           ∧ ∃ j e', j < i ∧ m.queue[j]? = some e' ∧ e'.isWaiting = true ∧ e'.frame.isNotice = false))
  ∧ (∀ (s : State) (i : Nat) (passing : Bool) (n : Station) (e : QEntry),
     s.live = true ∨ (s.stn = .configFault ∧ s.faultSender.isSome = true) → s.link.tx = .waiting → s.link.bus = .idle →
     s.msg.choose = some (i, passing) → s.sender = some n → s.msg.queue[i]? = some e →
     exec .transmitStart s = .next { s with
       msg.queue := s.msg.queue.set i { e with flight := .inFlight passing false }
       link.tx := .sendingTag
       link.wire := frameChars (n.toNat * 16 + e.frame.kind) (payloadOf s e.frame)
       link.bus := .busy
       link.latch := some ⟨s.pos.ch0.lu, s.pos.ch1.lu, s.refPos, s.mapPos⟩ })
  ∧ (∀ s : State, s.msg.noneWaits true → s.msg.noneWaits false → exec .transmitStart s = .next s)
  ∧ (∀ (s : State) (r : Role) (ref second : Word) (speed : Nat), s.role = some r →
     (r = .supply → ref = s.pos.ch0.lu ∧ second = (if s.sup.festoon = .noReading then 0 else word32 s.sup.content)
       ∧ speed = s.sup.unwindRef) →
     (r = .head → ref = s.pos.ch1.lu ∧ second = s.pos.ch0.lu ∧ speed = s.spd.fine / 100) →
     (r = .setter → ref = (if s.pos.reg = .uncaptured then s.pos.held else s.pos.ch0.lu + s.pos.offset) ∧ second = 0
       ∧ speed = s.spd.fine / 100) →
     payloadOf s .position =
       [s.stn.code, roleCode r,
        ref.extractLsb' 0 8, ref.extractLsb' 8 8, ref.extractLsb' 16 8, ref.extractLsb' 24 8,
        second.extractLsb' 0 8, second.extractLsb' 8 8, second.extractLsb' 16 8, second.extractLsb' 24 8,
        (half16 speed).extractLsb' 0 8, (half16 speed).extractLsb' 8 8,
        (half16 s.pos.measured).extractLsb' 0 8, (half16 s.pos.measured).extractLsb' 8 8,
        BitVec.ofNat 8 s.link.broken, BitVec.ofNat 8 s.msg.lost])

/-! ## Station Control -/

/-- A valid record read in time: LISTEN, the accept table of R33, the bus BUSY, the encoder levels adopted, the timers running, each role's
own among them, and the first POSITION and CEILING handed, at the SUPPLY a ROLL STATE too (log 15, the model's choice). -/
def Obligations.ValidRecordEntersListen : Prop :=
  ∀ (s : State) (r : Vector Byte 150) (l0 l1 : Levels),
    s.stn = .config → s.ctl.configTimer.isSome = true → recordFailure r.toList = none → s.port.eStop = false → s.port.webBreak = false →
    ∃ t, exec (.configurationReadComplete r l0 l1) s = .next t
      ∧ t.stn = .listen ∧ t.cfg = some (decodeRecord r.toList) ∧ t.fault = s.fault ∧ t.ctl.configTimer = none
      ∧ (∀ tag, tag < 128 → t.accept tag = acceptOf (decodeRecord r.toList) tag) ∧ t.link.bus = .busy ∧ t.link.tx = .waiting
      ∧ t.pos.ch0 = ⟨0, l0.a, l0.b⟩ ∧ ((decodeRecord r.toList).role = .head → t.pos.ch1 = ⟨0, l1.a, l1.b⟩)
      ∧ t.pos.reg = .uncaptured ∧ t.pos.watches = []
      ∧ t.pos.speedTimer = some 10 ∧ t.pos.keepAlive = some 100 ∧ t.spd.rampTimer = some 10 ∧ t.spd.postTimer = some 100
      ∧ t.lay.feedTimer = (if t.role = some .head then some 10 else none)
      ∧ t.sup.supplyTimer = (if t.role = some .supply then some 10 else none)
      ∧ t.sup.rollTimer = (if t.role = some .supply then some 250 else none)
      ∧ t.map.sampleTimer = (if t.role = some .setter then some 100 else none)
      ∧ (∃ p, t.spd.lastPosted = some p ∧ p = (roleCeiling t).1)
      ∧ (∀ c, c < 8 → t.staleTimer c = some 500)
      ∧ t.msg.hasKind 0 = true ∧ t.msg.hasKind 1 = true ∧ (t.role = some .supply → t.msg.hasKind 4 = true)

/-- A record that cannot be read, or fails a check, sends the station to CONFIG FAULT with CONFIG BAD recorded. Once a second CONFIG
FAULT queues its FAULT notice again, unless one is still queued. -/
def Obligations.ConfigFaultIsEnteredAndRepeats : Prop :=
  (∀ s : State, s.stn = .config → s.ctl.configTimer.isSome = true →
     (∃ t, exec .configurationTimerExpiry s = .next t
       ∧ t.stn = .configFault ∧ t.fault = some ⟨.configBad, 0, .config⟩ ∧ t.faultSender = none
       ∧ t.msg = s.msg ∧ t.ctl.repeatTimer = none ∧ ∀ tag, t.accept tag = .off)
     ∧ ∀ (r : Vector Byte 150) (l0 l1 : Levels) (d : Nat), recordFailure r.toList = some d →
       ∃ t, exec (.configurationReadComplete r l0 l1) s = .next t
         ∧ t.stn = .configFault ∧ t.fault = some ⟨.configBad, half16 d, .config⟩ ∧ (∀ tag, t.accept tag = .off)
         ∧ ((byteAt r.toList 0).toNat ≤ 6 → t.faultSender = some (BitVec.ofNat 3 (byteAt r.toList 0).toNat)
             ∧ t.ctl.repeatTimer = some 1000
             ∧ (s.msg.room = true → t.msg = s.msg.place (.fault ⟨.configBad, half16 d, .config⟩)))
         ∧ (6 < (byteAt r.toList 0).toNat → t.faultSender = none ∧ t.ctl.repeatTimer = none ∧ t.msg = s.msg))
  ∧ (∀ (s : State) (r : FaultRecord), s.stn = .configFault → s.ctl.repeatTimer.isSome = true → s.fault = some r →
     (s.msg.hasKind 5 = true →
       exec .configFaultRepeatTimerExpiry s = .next { s with ctl.repeatTimer := some 1000 })
     ∧ (s.msg.hasKind 5 = false → s.msg.room = true →
       exec .configFaultRepeatTimerExpiry s = .next { s with ctl.repeatTimer := some 1000, msg := s.msg.place (.fault r) }))

/-- RESTART: every block is at its restart state, each timer that runs from there started with its length, and the station in LISTEN; the
quantities, the fault record, the accept table, the encoder levels and the filtered input levels stay, and a pattern in flight goes on. A
held E-stop halts the station again at once, recorded as E-STOP, and a web break held alone as WEB BREAK (that a held E-stop is tested first
is log 10, the model's choice; that the SUPPLY's brake is then on is log 16). At the SUPPLY a ROLL STATE is handed when an arm, the splice
state or the festoon condition has changed by the restart (log 15). The own ceiling is what an empty queue, an idle splice and a chest
without a zone in use give. A restart level that is already active, with no release since, does nothing; a release makes the level inactive
and does nothing else; in CONFIG and CONFIG FAULT the level alone is kept. Quantities no rule gives a restart value have that of power-on
(log 23). -/
def Obligations.RestartClearsWorkState : Prop :=
  (∀ (s : State) (released n : Nat), s.port.restartIn = true → released < 3 → exec (.restart ⟨released, n, []⟩) s = .next s)
  ∧ (∀ (s : State) (released n : Nat), 3 ≤ released → n < 3 →
     exec (.restart ⟨released, n, []⟩) s = .next { s with port.restartIn := false })
  ∧ (∀ (s : State) (released n : Nat), s.port.restartIn = false ∨ 3 ≤ released → 3 ≤ n → s.live = false →
     exec (.restart ⟨released, n, []⟩) s = .next { s with port.restartIn := true })
  ∧ ∀ (s : State) (released n : Nat), s.live = true → s.port.restartIn = false ∨ 3 ≤ released → 3 ≤ n →
    ∃ t, exec (.restart ⟨released, n, []⟩) s = .next t
      ∧ (∀ k, t.input k = if k = 8 then true else s.input k)
      ∧ t.port.refDuty = Vector.replicate 3 0 ∧ t.port.valveDuty = Vector.replicate 4 0
      ∧ t.port.staleness = Vector.replicate 8 (some 500) ∧ t.port.report = none
      ∧ t.pos.ch1 = ⟨0, s.pos.ch1.a, s.pos.ch1.b⟩ ∧ t.pos.measured = 0 ∧ t.pos.prev = 0 ∧ t.pos.offset = 0 ∧ t.pos.errorRun = 0
      ∧ t.pos.watches = [] ∧ t.pos.speedTimer = some 10 ∧ t.pos.keepAlive = some 100
      ∧ t.spd.rampTimer = some 10 ∧ t.spd.postTimer = some 100 ∧ t.spd.lastPosted = some t.spd.ownValue
      ∧ (s.role = some .head → t.spd.ownValue = 0 ∧ t.spd.ownReason = .infeed)
      ∧ (s.role = some .supply → t.spd.ownValue = s.conf.unwindMax ∧ t.spd.ownReason = .unwindMax)
      ∧ (s.role = some .setter → t.spd.ownValue = 0 ∧ t.spd.ownReason = .noZone)
      ∧ t.lay = { Laying.reset with feedTimer := if s.conf.role = .head then some 10 else none }
      ∧ t.lay.infeedLimit = 0 ∧ t.lay.infeedRef = 0 ∧ t.lay.evicted = none ∧ t.lay.inFlight = false ∧ t.lay.bladeTimer = none
      ∧ t.sup.festoon = .noReading ∧ t.sup.festoonHold = none ∧ t.sup.emptyMark = false ∧ t.sup.offsetValid = false
      ∧ t.sup.unwindRef = 0 ∧ t.sup.fineUnwind = 0 ∧ t.sup.vHead = 0 ∧ t.sup.outstanding = none ∧ t.sup.fpos = none
      ∧ t.sup.emergency = false ∧ t.sup.pressTimer = none
      ∧ t.sup.supplyTimer = (if s.conf.role = .supply then some 10 else none)
      ∧ (s.role = some .supply → t.sup.rollTimer = some 250)
      ∧ t.set.zones = (if s.conf.role = .setter then List.replicate s.conf.zoneCount ⟨0, none, .lost, 0, 0, none⟩ else [])
      ∧ t.set.overMark = false ∧ t.map.sampleTimer = (if s.conf.role = .setter then some 100 else none)
      ∧ t.msg.lost = 0 ∧ t.msg.passCount = 0 ∧ t.msg.unsent = []
      ∧ (s.role = some .supply → (s.sup.armA.state, s.sup.armB.state, s.sup.splice, s.sup.festoon) ≠ (.empty, .empty, .run, .noReading) →
          t.msg.hasKind 4 = true)
      ∧ t.cfg = s.cfg ∧ t.link.accept = s.link.accept ∧ t.link.broken = 0 ∧ t.link.consoleSilence = none
      ∧ t.link.neighbourSilence = none ∧ t.msg.pendings = [] ∧ t.msg.delayed = [] ∧ t.msg.answered = [] ∧ t.msg.nextId = 0
      ∧ t.pos.ch0 = ⟨0, s.pos.ch0.a, s.pos.ch0.b⟩ ∧ t.spd.table = Vector.replicate 7 .neverHeard ∧ t.spd.setSpeed = 0
      ∧ t.spd.fine = 0 ∧ (∀ k, t.slot k = Slot.blank) ∧ t.panels = [] ∧ t.lay.seams = [] ∧ t.map.spans = []
      ∧ t.sup.armA = Arm.blank ∧ t.sup.armB = Arm.blank ∧ t.sup.splice = .run ∧ t.sup.pressFire = false
      ∧ t.ctl.consoleHeard = false ∧ t.ctl.neighbourHeard = false ∧ t.ctl.lastClear = none ∧ t.ctl.entryClear = none
      ∧ (s.port.eStop = false → s.port.webBreak = false →
          t.stn = .listen ∧ t.fault = s.fault ∧ t.link.bus = s.link.bus
            ∧ (s.link.tx = .sendingStop → t.link.tx = .sendingStop) ∧ (s.link.tx ≠ .sendingStop → t.link.tx = .waiting)
            ∧ t.link.wire = [] ∧ t.link.latch = none ∧ t.pos.reg = .uncaptured ∧ t.pos.held = 0 ∧ t.ctl.quiet = none
            ∧ t.sup.brake = false ∧ t.set.vent = false
            ∧ t.msg.hasKind 0 = true ∧ t.msg.hasKind 1 = true ∧ t.msg.hasKind 5 = false ∧ ∀ k, t.output k = false)
      ∧ (s.port.eStop = true → t.stn = .halted ∧ t.fault = some ⟨.eStop, 0, .listen⟩ ∧ t.link.tx = .sendingStop)
      ∧ (s.port.eStop = false → s.port.webBreak = true →
          t.stn = .halted ∧ t.fault = some ⟨.webBreak, 0, .listen⟩ ∧ t.link.tx = .sendingStop)

/-- The E-stop or the web break input becomes active: HALTED with the pattern, the quiet timer and what the role units do at the entry, or,
already HALTED, a record and a FAULT alone; a level that is active already changes nothing. A stop heard: HALT HEARD and HALTED, without a
pattern of its own; in HALTED the quiet timer restarts; in CONFIG FAULT nothing. Of what the role units do, that a SUPPLY's brake is on from
the entry when its unwind reference is 0 is log 16 (the model's reading of R142), and that spans pass the chest at the halt of a SETTER
whose map position moves by it, as from UNCAPTURED, is log 28 (the model's reading of R63), fired as log 12 chooses. -/
def Obligations.StopsHalt : Prop :=
  (∀ (s : State) (n : Nat) (c : Instr),
     (c = .eStopBecomesActive n ∧ s.port.eStop = true) ∨ (c = .webBreakBecomesActive n ∧ s.port.webBreak = true) →
     exec c s = .next s)
  ∧ (∀ (s : State) (n : Nat) (c : Instr) (code : FaultCode),
     (c = .eStopBecomesActive n ∧ code = .eStop ∧ s.port.eStop = false)
       ∨ (c = .webBreakBecomesActive n ∧ code = .webBreak ∧ s.port.webBreak = false) → s.live = true → 3 ≤ n →
     ∃ t, exec c s = .next t
       ∧ (s.stn ≠ .halted → s.roleHalts t)
       ∧ t.stn = .halted ∧ (code = .eStop → t.port.eStop = true) ∧ (code = .webBreak → t.port.webBreak = true)
       ∧ (s.stn ≠ .halted →
           t.ctl.entryClear = s.ctl.lastClear ∧ t.ctl.quiet = some 500 ∧ t.link.tx = .sendingStop
             ∧ (s.role = some .setter → t.set.vent = true ∧ ∀ z ∈ t.set.zones, z.duty = 0 ∧ z.integral = 0)
             ∧ (s.haltsQuietly → s.msg.queue.length ≤ 6 → t.fault = some ⟨code, 0, s.stn⟩ ∧ t.msg.hasKind 5 = true))
       ∧ (s.stn = .halted →
           t.ctl = s.ctl ∧ t.link = s.link
             ∧ (s.msg.room = true → t.fault = some ⟨code, 0, .halted⟩ ∧ t.msg = s.msg.place (.fault ⟨code, 0, .halted⟩))))
  ∧ (∀ (s : State) (n : Nat), 40 ≤ n →
     (s.live = true → s.stn ≠ .halted → ∃ t, exec (.stopHeard n) s = .next t
       ∧ s.roleHalts t ∧ t.stn = .halted ∧ t.ctl.entryClear = s.ctl.lastClear ∧ t.ctl.quiet = some 500
       ∧ t.link.tx = s.link.tx ∧ t.link.bus = .busy
       ∧ (s.haltsQuietly → s.msg.queue.length ≤ 6 → t.fault = some ⟨.haltHeard, 0, s.stn⟩ ∧ t.msg.hasKind 5 = true))
     ∧ (s.stn = .halted → ∃ t, exec (.stopHeard n) s = .next t
       ∧ t = { s with ctl.quiet := some 500, link := t.link } ∧ t.link.bus = .busy ∧ t.link.tx = s.link.tx)
     ∧ (s.stn = .configFault → ∃ t, exec (.stopHeard n) s = .next t
       ∧ t = { s with link := t.link } ∧ t.link.bus = .busy ∧ t.link.tx = s.link.tx))

/-- The end of a HALTED state: when the three conditions hold together, READY, or LISTEN with a heard flag clear; the SUPPLY's brake goes
off but in PRESSING at rest, and a SETTER's vent is on exactly when a zone is over its band. A level that is inactive already changes
nothing. -/
def Obligations.HaltedIsLeftWhenReleased : Prop :=
  (∀ (s : State) (n : Nat) (c : Instr),
     (c = .eStopBecomesInactive n ∧ s.port.eStop = false) ∨ (c = .webBreakBecomesInactive n ∧ s.port.webBreak = false) →
     exec c s = .next s)
  ∧ ∀ (s u : State) (n : Nat) (c : Instr), s.live = true → 3 ≤ n →
    (c = .eStopBecomesInactive n ∧ s.port.eStop = true ∧ u = { s with port.eStop := false })
      ∨ (c = .webBreakBecomesInactive n ∧ s.port.webBreak = true ∧ u = { s with port.webBreak := false })
      ∨ (c = .quietTimerExpiry ∧ s.ctl.quiet.isSome = true ∧ u = { s with ctl.quiet := none }) →
    (¬u.released → exec c s = .next u)
      ∧ (u.released → ∃ t, exec c s = .next t
          ∧ t.stn = (if s.ctl.consoleHeard && s.ctl.neighbourHeard then .ready else .listen)
          ∧ t.ctl.quiet = none ∧ t.ctl.entryClear = none ∧ t.ctl.lastClear = s.ctl.lastClear ∧ t.fault = s.fault
          ∧ (s.role = some .setter → t.pos.reg = .uncaptured ∧ t.set.overMark = false
              ∧ t.set.zones = s.set.zones ∧ (t.set.vent = true ↔ s.overTheBand))
          ∧ (s.role = some .supply → t.spd.fine = 0
              ∧ (t.sup.brake = true ↔ s.sup.brake = true ∧ s.sup.splice = .pressing ∧ s.pos.measured = 0)))

/-- A RUN STATE of the console: set speed, last clear count, silence timer, and what it does to each station state. In HALTED a changed
clear count is heard and releases nothing while the quiet timer runs or a stop input is held active. -/
def Obligations.RunStateIsTaken : Prop :=
  ∀ (s : State) (p : List Byte) (l : Latch) (m : RunStateMsg),
    s.hears 8 consoleStation p l → parseRunState p = some m →
    ∃ t, exec (.runState consoleStation p) s = .next t
      ∧ t.spd.setSpeed = min m.setSpeed s.roleMax ∧ t.ctl.lastClear = some m.clear
      ∧ t.link.consoleSilence = some s.conf.silenceLimit
      ∧ (s.stn = .listen → t.ctl.consoleHeard = true ∧ t.stn = if s.ctl.neighbourHeard then .ready else .listen)
      ∧ (s.stn = .ready → t.ctl.consoleHeard = true ∧ t.stn = if m.run && s.mayRun then .running else .ready)
      ∧ (s.stn = .running → m.run = true → t.stn = .running)
      ∧ (s.stn = .running → m.run = false → s.atRest = false → t.stn = .stopping)
      ∧ (s.stn = .running → m.run = false → s.atRest = true → s.ctl.neighbourHeard = true → t.stn = .ready)
      ∧ (s.stn = .running → m.run = false → s.atRest = true → s.ctl.neighbourHeard = false →
          s.port.eStop = false → s.port.webBreak = false → t.stn = .listen)
      ∧ (s.stn = .stopping → t.stn = .stopping)
      ∧ (s.stn = .halted → s.ctl.entryClear = none → t.stn = .halted ∧ t.ctl.entryClear = some m.clear)
      ∧ (s.stn = .halted → s.ctl.entryClear = some m.clear → t.stn = .halted)
      ∧ (∀ b, s.stn = .halted → s.ctl.entryClear = some b →
          s.ctl.quiet.isSome = true ∨ s.port.eStop = true ∨ s.port.webBreak = true →
          t.stn = .halted ∧ t.ctl.entryClear = some b ∧ t.ctl.quiet = s.ctl.quiet ∧ t.ctl.consoleHeard = true)
      ∧ (∀ b, s.stn = .halted → s.ctl.entryClear = some b → b ≠ m.clear → s.ctl.quiet = none → s.port.eStop = false →
          s.port.webBreak = false → t.stn = if s.ctl.neighbourHeard then .ready else .listen)

/-- The expiry of the console's or the neighbour's silence timer, by station state; the neighbour's silence also reaches the block that
owns its POSITION. -/
def Obligations.SilenceStandsDown : Prop :=
  ∀ s : State, s.port.eStop = false → s.port.webBreak = false →
    (s.link.consoleSilence.isSome = true → ∃ t, exec .consoleSilenceTimerExpiry s = .next t
      ∧ t.link.consoleSilence = none ∧ t.ctl.consoleHeard = false ∧ s.silenced t .consoleSilent 7)
    ∧ (s.link.neighbourSilence.isSome = true → ∃ t, exec .neighbourSilenceTimerExpiry s = .next t
      ∧ t.link.neighbourSilence = none ∧ t.ctl.neighbourHeard = false ∧ s.silenced t .neighbourSilent s.neighbour.toNat
      ∧ (s.role = some .supply → t.sup.vHead = 0 ∧ t.sup.offset = s.sup.offset)
      ∧ (s.role = some .setter → t.pos.errorRun = 0 ∧ t.pos.offset = s.pos.offset))

/-! ## The line link -/

/-- After 12 recessive bit times the bus is IDLE, and after 64 dominant ones the pattern of this station ends. A dominant edge on an IDLE
bus makes it BUSY and latches the positions as they stand, in CONFIG FAULT too (log 5, the model's choice); on a BUSY bus it begins no
frame. -/
def Obligations.BusFollowsTheMedium : Prop :=
  (∀ (s : State) (n : Nat),
     (s.stn ≠ .config → 12 ≤ n → exec (.busIdle n) s = .next { s with link.bus := .idle })
       ∧ (s.link.tx = .sendingStop → 64 ≤ n → exec (.lineStopPatternEnd n) s = .next { s with link.tx := .waiting }))
  ∧ (∀ s : State, s.stn ≠ .config →
     (s.link.bus = .idle → exec .frameStart s
       = .next { s with link.bus := .busy, link.latch := some ⟨s.pos.ch0.lu, s.pos.ch1.lu, s.refPos, s.mapPos⟩ })
     ∧ (s.link.bus = .busy → exec .frameStart s = .next s))

/-- A character is 11 bits on the line: a start bit 0, its data least significant bit first, its mark bit and its stop bit. Sampled at those
bits it is the same character, and an idle line or a start bit read recessive is none. The characters of a frame go back to back, 11 bits
each, the tag with mark bit 1 and every other with mark bit 0. What a transmitter sends, every receiver that collects it finds good. A
REQUEST this station sends is read back whole: id, target, code and every parameter. -/
def Obligations.SentIsReadBack : Prop :=
  (∀ c : LinkChar,
     bitsOf c = [false, c.data.getLsbD 0, c.data.getLsbD 1, c.data.getLsbD 2, c.data.getLsbD 3, c.data.getLsbD 4, c.data.getLsbD 5,
       c.data.getLsbD 6, c.data.getLsbD 7, c.mark, c.stop]
     ∧ sampled (bitsOf c) = some c ∧ ∀ bits : List Bool, sampled bits = some c → bits = bitsOf c)
  ∧ (∀ (tag : Nat) (payload : List Byte) (s : State),
     ((frameChars tag payload).flatMap bitsOf).length = 11 * (payload.length + 4)
     ∧ (∀ (i : Nat) (c : LinkChar), (frameChars tag payload)[i]? = some c → c.stop = true ∧ c.mark = decide (i = 0))
     ∧ (s.link.tx = .sendingTag ∨ s.link.tx = .sendingBody → s.link.wire = frameChars tag payload →
         s.driven = (frameChars tag payload).flatMap bitsOf)
     ∧ (s.link.tx = .sendingStop → s.driven = List.replicate 64 false)
     ∧ (s.link.tx = .waiting → s.driven = []))
  ∧ (∀ (tag : Nat) (payload : List Byte), tag ≤ 127 → lengthOk (tag % 16) payload.length = true → goodChars (frameChars tag payload) = true)
  ∧ (∀ m : RequestMsg, parseRequest m.body.code m.bytes = some ⟨m.id, stationByte m.target, m.body⟩)

/-- A withdrawal in the tag character leaves every entry at its place with its failure count; the latch stays for the winner's frame. A
cancellation counts a failure of the frame; at three the frame is dropped, a held frame takes the freed entry, and LINK TRANSMIT is raised,
whose FAULT notice meets the queue after that (the order is log 33, the model's choice): with no entry free it is lost, and LINK OVERRUN
after it. A frame that replaced the cancelled one in its entry keeps failure count 0 (log 8, the model's reading), and a cancellation is
taken in SENDING TAG too (log 1, the model's choice). -/
def Obligations.FramesAreWithdrawnOrCancelled : Prop :=
  (∀ (s : State) (bit : Nat), s.link.tx = .sendingTag → bit < 11 →
     exec (.frameWithdrawn bit) s = .next { s with
       link.tx := .waiting, link.wire := [], msg.queue := s.msg.queue.map fun e => { e with flight := .waiting } })
  ∧ (∀ (s : State) (bit i : Nat) (e : QEntry) (passing replaced : Bool),
     s.link.tx = .sendingTag ∨ s.link.tx = .sendingBody → 11 ≤ bit → s.msg.flying = some i → s.msg.queue[i]? = some e →
     e.flight = .inFlight passing replaced →
     (replaced = true → e.failures = 0 → exec (.frameCancelled bit) s = .next { s with
       link.tx := .waiting, link.wire := [], link.latch := none, msg.queue := s.msg.queue.set i { e with flight := .waiting } })
     ∧ (replaced = false → e.failures + 1 < 3 → exec (.frameCancelled bit) s = .next { s with
       link.tx := .waiting, link.wire := [], link.latch := none
       msg.queue := s.msg.queue.set i { e with failures := e.failures + 1, flight := .waiting } })
     ∧ (replaced = false → 3 ≤ e.failures + 1 → s.msg.holdsNothing → ∃ t, exec (.frameCancelled bit) s = .next t
       ∧ t.link = { s.link with tx := .waiting, wire := [], latch := none }
       ∧ (s.live = false → t.fault = s.fault
           ∧ t.msg.queue = (s.msg.queue.map fun e => { e with flight := .waiting }).eraseIdx i)
       ∧ (s.live = true → s.msg.queue.length ≤ 12 → ∀ n, s.sender = some n →
           t.fault = some ⟨.linkTransmit, half16 (n.toNat * 16 + e.frame.kind), s.stn⟩
           ∧ t.msg.queue = (s.msg.queue.map fun e => { e with flight := .waiting }).eraseIdx i
               ++ [⟨.fault ⟨.linkTransmit, half16 (n.toNat * 16 + e.frame.kind), s.stn⟩, 0, .waiting⟩]))
     ∧ (replaced = false → 3 ≤ e.failures + 1 → ∃ t m, exec (.frameCancelled bit) s = .next t
       ∧ t.link = { s.link with tx := .waiting, wire := [], latch := none }
       ∧ m = ({ s.msg with
           queue := (s.msg.queue.map fun e => { e with flight := .waiting }).eraseIdx i
           passCount := if s.msg.queue.findIdx? (fun q => !q.frame.isNotice) = some i ∨ s.msg.queue.length = 1 then 0
             else s.msg.passCount } : Msg).refill
       ∧ (s.live = false → t.fault = s.fault ∧ t.msg = m)
       ∧ (s.live = true → m.queue.length < 12 → ∀ n, s.sender = some n →
           t.fault = some ⟨.linkTransmit, half16 (n.toNat * 16 + e.frame.kind), s.stn⟩
           ∧ t.msg = m.place (.fault ⟨.linkTransmit, half16 (n.toNat * 16 + e.frame.kind), s.stn⟩))
       ∧ (s.live = true → 12 ≤ m.queue.length → s.msg.lost ≤ 255 →
           t.fault = some ⟨.linkOverrun, 5, s.stn⟩ ∧ t.msg = { m with lost := min 255 (m.lost + 2) })))

/-- A completed frame frees its entry, or leaves it to the newer frame as the newest entry; a freed entry goes to a held frame. The pass
count rises when a notice passed the oldest request or answer, and returns to 0 when that one leaves (log 9, the model's reading) and when
the queue is emptied. A completion is taken in SENDING TAG too (log 1, the model's choice). -/
def Obligations.CompletionFreesTheEntry : Prop :=
  ∀ (s : State) (i : Nat) (e : QEntry) (passing replaced : Bool),
    s.link.tx = .sendingTag ∨ s.link.tx = .sendingBody → s.msg.flying = some i → s.msg.queue[i]? = some e →
    e.flight = .inFlight passing replaced →
    ∃ t, exec .frameComplete s = .next t
      ∧ t = { s with link.tx := .waiting, link.wire := [], link.latch := none, msg := t.msg }
      ∧ (replaced = false → t.msg = { s.msg with queue := s.msg.queue.eraseIdx i, passCount := t.msg.passCount }.refill)
      ∧ (replaced = false → s.msg.holdsNothing →
          t.msg = { s.msg with queue := s.msg.queue.eraseIdx i, passCount := t.msg.passCount })
      ∧ (replaced = true → t.msg = { s.msg with
          queue := s.msg.queue.eraseIdx i ++ [⟨e.frame, 0, .waiting⟩], passCount := t.msg.passCount })
      ∧ (replaced = false → s.msg.queue.length = 1 → t.msg.passCount = 0)
      ∧ (e.frame.isNotice = true → replaced = true ∨ 1 < s.msg.queue.length →
          t.msg.passCount = if passing then min 2 (s.msg.passCount + 1) else s.msg.passCount)
      ∧ (replaced = false → s.msg.queue.findIdx? (fun q => !q.frame.isNotice) = some i → t.msg.passCount = 0)

/-- A frame whose start was seen (log 5, the model's choice) and whose first character is no tag, or that is collected and fails a check, is
counted, up to 255, and reaches no block; one of a tag that is OFF only ends. A collected one whose characters pass every check only ends
too: that is the model's reading of a row that stands for frames that fail a check (log 34). -/
def Obligations.BrokenFramesAreCounted : Prop :=
  ∀ (s : State) (cs : List LinkChar) (l : Latch) (tag : LinkChar) (rest : List LinkChar),
    s.frameLatch = some l → s.link.broken ≤ 255 → cs = tag :: rest →
    (isTag tag = false ∨ (s.accept tag.data.toNat ≠ .off ∧ goodChars cs = false) →
      exec (.brokenFrame cs) s = .next { s with link.latch := none, link.broken := min 255 (s.link.broken + 1) })
    ∧ (isTag tag = true → (s.accept tag.data.toNat = .off ∨ goodChars cs = true) →
      exec (.brokenFrame cs) s = .next { s with link.latch := none })

/-! ## Notices, requests and answers -/

/-- A superseding notice replaces the one of its kind in place, or takes a free entry and discards what is held of its kind, or is held. A
lasting notice that finds no free entry is lost and counted, and raises LINK OVERRUN, whose own FAULT is lost and counted too. A request or
a final answer takes a free entry unless a copy of it waits, or else is marked unsent behind the marks there are; WAIT and BUSY take a free
entry (a copy waiting or not: log 37, the model's choice) or are not sent. What a copy is: the same frame, an answer with its request code
(log 29) and a request with its pending entry (log 41), the model's choice. A freed entry goes to one held frame: POSITION, CEILING, ROLL
STATE, then the record marked unsent earliest (that a waiting copy does not keep it from the entry is log 38, the model's choice). -/
def Obligations.NoticesAreQueuedHeldOrLost : Prop :=
  (∀ (m m' : Msg) (f : Frame), f.superseding = true → m' = m.supersede f →
     m' = { m with
       queue := m'.queue, heldPosition := m'.heldPosition, heldCeiling := m'.heldCeiling, heldRollState := m'.heldRollState }
     ∧ (m.hasKind f.kind = true → m'.queue.length = m.queue.length ∧ ∀ (i : Nat) (e : QEntry), m.queue[i]? = some e →
           (e.frame.kind ≠ f.kind → m'.queue[i]? = some e)
           ∧ (e.frame.kind = f.kind → e.flight = .waiting → m'.queue[i]? = some ⟨f, 0, .waiting⟩)
           ∧ (∀ p r, e.frame.kind = f.kind → e.flight = .inFlight p r → m'.queue[i]? = some ⟨f, 0, .inFlight p true⟩))
     ∧ (m.hasKind f.kind = false → m.queue.length < 12 → m'.queue = m.queue ++ [⟨f, 0, .waiting⟩])
     ∧ (m.hasKind f.kind = true ∨ m.queue.length < 12 →
         m'.heldPosition = (m.heldPosition && f.kind != 0)
         ∧ m'.heldCeiling = (if f.kind = 1 then none else m.heldCeiling)
         ∧ m'.heldRollState = (if f.kind = 4 then none else m.heldRollState))
     ∧ (m.hasKind f.kind = false → 12 ≤ m.queue.length → m'.queue = m.queue
         ∧ (f = .position → m'.heldPosition = true ∧ m'.heldCeiling = m.heldCeiling ∧ m'.heldRollState = m.heldRollState)
         ∧ (∀ c, f = .ceiling c → m'.heldCeiling = some c ∧ m'.heldPosition = m.heldPosition ∧ m'.heldRollState = m.heldRollState)
         ∧ (∀ r, f = .rollState r → m'.heldRollState = some r ∧ m'.heldPosition = m.heldPosition ∧ m'.heldCeiling = m.heldCeiling)))
  ∧ (∀ (f : Frame) (s : State),
     (s.msg.queue.length < 12 → postLasting f s = { s with msg.queue := s.msg.queue ++ [⟨f, 0, .waiting⟩] })
     ∧ (12 ≤ s.msg.queue.length → s.stn ≠ .configFault → s.msg.lost ≤ 255 →
       postLasting f s = { s with fault := some ⟨.linkOverrun, half16 f.kind, s.stn⟩, msg.lost := min 255 (s.msg.lost + 2) })
     ∧ (12 ≤ s.msg.queue.length → s.stn = .configFault → s.msg.lost ≤ 255 →
       postLasting f s = { s with msg.lost := min 255 (s.msg.lost + 1) }))
  ∧ (∀ (m : Msg) (f : Frame) (u : UnsentRef),
     ((∃ e ∈ m.queue, e.flight = .waiting ∧ e.frame = f) → m.handAsk f u = m)
     ∧ ((∀ e ∈ m.queue, e.flight = .waiting → e.frame ≠ f) →
         (m.queue.length < 12 → m.handAsk f u = { m with
           queue := m.queue ++ [⟨f, 0, .waiting⟩], unsent := m.unsent.filter fun x => decide (x ≠ u) })
         ∧ (12 ≤ m.queue.length → u ∈ m.unsent → m.handAsk f u = m)
         ∧ (12 ≤ m.queue.length → u ∉ m.unsent → m.handAsk f u = { m with unsent := m.unsent ++ [u] }))
     ∧ (∀ a : AnswerMsg,
         (m.queue.length < 12 → m.handInterim a = { m with queue := m.queue ++ [⟨.answer a, 0, .waiting⟩] })
         ∧ (12 ≤ m.queue.length → m.handInterim a = m)))
  ∧ (∀ m : Msg,
     (12 ≤ m.queue.length → m.refill = m)
     ∧ (m.queue.length < 12 →
         (m.heldPosition = true → m.refill = { m with
           heldPosition := false, queue := m.queue ++ [⟨.position, 0, .waiting⟩] })
         ∧ (∀ c, m.heldPosition = false → m.heldCeiling = some c → m.refill = { m with
             heldCeiling := none, queue := m.queue ++ [⟨.ceiling c, 0, .waiting⟩] })
         ∧ (∀ r, m.heldPosition = false → m.heldCeiling = none → m.heldRollState = some r → m.refill = { m with
             heldRollState := none, queue := m.queue ++ [⟨.rollState r, 0, .waiting⟩] })
         ∧ (m.heldPosition = false → m.heldCeiling = none → m.heldRollState = none →
             (m.unsent = [] → m.refill = m)
             ∧ (∀ entry rest p, m.unsent = .request entry :: rest → m.pendings.find? (fun x => x.entry == entry) = some p →
                 m.refill = { m with
                   unsent := rest, queue := m.queue ++ [⟨.request ⟨p.id, p.target, p.body, p.entry⟩, 0, .waiting⟩] })
             ∧ (∀ requester id rest a, m.unsent = .answer requester id :: rest →
                 m.answered.find? (fun x => x.requester == requester && x.id == id) = some a →
                 m.refill = { m with
                   unsent := rest
                   queue := m.queue ++ [⟨.answer ⟨a.id, a.requester, a.code, .final a.final⟩, 0, .waiting⟩] }))))

/-- A request that does not reach a serving block: one for another station is discarded, a finished one is answered from the answered list,
one of a code the role does not serve is WRONG ROLE, one of a requester not allowed is NOT ALLOWED. A request with a delayed entry: WAIT
while PENDING, the stored completion with the entry freed when COMPLETE, BUSY under another code; and BUSY for another id of the code and
requester of a delayed entry. WAIT and BUSY take a free entry though one like them still waits (log 37, the model's choice), and are not
sent with the queue full. -/
def Obligations.RequestsAreExamined : Prop :=
  (∀ (s : State) (c : Instr) (code : ReqCode) (sender : Station) (p : List Byte) (r : RequestIn),
     (c = .panelOrder sender p ∧ code = .panelOrder) ∨ (c = .setpoint sender p ∧ code = .setpoint)
       ∨ (c = .rollLoad sender p ∧ code = .rollLoad) ∨ (c = .seamSlot sender p ∧ code = .seamSlot)
       ∨ (c = .orderCancel sender p ∧ code = .orderCancel) ∨ (c = .patternBlock sender p ∧ code = .patternBlock)
       ∨ (c = .patternCommit sender p ∧ code = .patternCommit) ∨ (c = .patternClear sender p ∧ code = .patternClear) →
     (∃ l, s.hears 6 sender p l) → parseRequest code p = some r →
     (r.target ≠ stationByte s.conf.number → exec c s = .next { s with link.latch := none })
     ∧ (r.target = stationByte s.conf.number → ∀ a, s.msg.findAnswered sender r.id code = some a →
         ∃ t, exec c s = .next t ∧ t = { s with link.latch := none, msg := t.msg } ∧ s.msg.answersOnly t.msg ∧ t.msg.willSend a)
     ∧ (r.target = stationByte s.conf.number → s.msg.findAnswered sender r.id code = none → s.msg.findDelayed sender r.id = none →
         (s.role ≠ some code.role → ∃ t, exec c s = .next t ∧ t = { s with link.latch := none, msg := t.msg }
           ∧ s.msg.answersOnly t.msg ∧ t.msg.gives ⟨sender, r.id, code, .refused .wrongRole 0 0⟩)
         ∧ (s.role = some code.role → (code ≠ .seamSlot ∧ sender ≠ consoleStation) ∨ (code = .seamSlot ∧ sender ≠ s.neighbour) →
           ∃ t, exec c s = .next t ∧ t = { s with link.latch := none, msg := t.msg }
           ∧ s.msg.answersOnly t.msg ∧ t.msg.gives ⟨sender, r.id, code, .refused .notAllowed 0 0⟩)))
  ∧ (∀ (s : State) (c : Instr) (code : ReqCode) (sender : Station) (p : List Byte) (r : RequestIn) (d : Delayed),
     (c = .seamSlot sender p ∧ code = .seamSlot) ∨ (c = .rollLoad sender p ∧ code = .rollLoad) → s.asked code sender p r →
     s.msg.findAnswered sender r.id code = none → s.msg.findDelayed sender r.id = some d → s.msg.room = true →
     (d.body.code = code → d.result = none → exec c s = .next { s with
       link.latch := none, msg := s.msg.place (.answer ⟨r.id, sender, code, .wait⟩) })
     ∧ (d.body.code ≠ code → exec c s = .next { s with
       link.latch := none, msg := s.msg.place (.answer ⟨r.id, sender, code, .busy⟩) })
     ∧ (∀ f, d.body.code = code → d.result = some f → ∃ t, exec c s = .next t
       ∧ t = { s with link.latch := none, msg := t.msg } ∧ t.msg.gives ⟨sender, r.id, code, f⟩
       ∧ t.msg.delayed = s.msg.delayed.filter fun x => !(x.requester == sender && x.id == r.id)))
  ∧ (∀ (s : State) (c : Instr) (code : ReqCode) (sender : Station) (p : List Byte) (r : RequestIn) (d : Delayed),
     (c = .seamSlot sender p ∧ code = .seamSlot) ∨ (c = .rollLoad sender p ∧ code = .rollLoad) → s.asked code sender p r →
     s.msg.findAnswered sender r.id code = none → s.msg.findDelayed sender r.id = none → s.role = some code.role →
     (code = .seamSlot → sender = s.neighbour) → (code = .rollLoad → sender = consoleStation) →
     d ∈ s.msg.delayed → d.requester = sender → d.body.code = code →
     (s.msg.room = true → exec c s = .next { s with
       link.latch := none, msg := s.msg.place (.answer ⟨r.id, sender, code, .busy⟩) })
     ∧ (s.msg.room = false → exec c s = .next { s with link.latch := none }))

/-- An answer to a request of this station: WAIT sets attempts back to 1, BUSY changes nothing, and one without a pending entry or for
another station changes nothing. A final answer frees the pending entry and gives the Supply Unit its outcome: a feasible slot fills, a slot
too close asks again, one too far or a refusal leaves NO SLOT; outside REQUESTING, or for another request, it is set aside. Of two pending
entries of one id and target, an answer acts on the one made first (log 41, the model's choice). That too close is tested before too far
(log 31) and that a result is known by the entry of its request (log 20) is the model's reading. -/
def Obligations.AnswersAreTaken : Prop :=
  (∀ (s : State) (sender : Station) (p : List Byte) (l : Latch) (a : AnswerIn),
     s.hears 7 sender p l → parseAnswer p = some a → a.requester ≠ stationByte s.conf.number →
     ∀ c, c = .answerWait sender p ∨ c = .answerBusy sender p ∨ c = .answerDone sender p ∨ c = .answerRefused sender p →
       exec c s = .next { s with link.latch := none })
  ∧ (∀ (s : State) (sender : Station) (p : List Byte) (l : Latch) (a : AnswerIn),
     s.hears 7 sender p l → parseAnswer p = some a → a.requester = stationByte s.conf.number →
     (∀ q, a.code = 2 → s.msg.findPending a.id sender = some q → exec (.answerWait sender p) s = .next { s with
       link.latch := none
       msg.pendings := s.msg.pendings.map fun x => if x.entry = q.entry then { x with attempts := 1 } else x })
     ∧ (a.code = 3 → exec (.answerBusy sender p) s = .next { s with link.latch := none })
     ∧ (s.msg.findPending a.id sender = none →
       exec (.answerDone sender p) s = .next { s with link.latch := none }
       ∧ exec (.answerWait sender p) s = .next { s with link.latch := none }
       ∧ exec (.answerRefused sender p) s = .next { s with link.latch := none })
     ∧ (s.msg.findPending a.id sender = s.msg.pendings.find? fun x => x.id == a.id && x.target == sender))
  ∧ (∀ (s : State) (sender : Station) (p : List Byte) (l : Latch) (a : AnswerIn) (q : PendingReq),
     s.hears 7 sender p l → parseAnswer p = some a → a.requester = stationByte s.conf.number →
     s.msg.findPending a.id sender = some q →
     (a.code = 1 → ∃ t, exec (.answerDone sender p) s = .next t
       ∧ t.msg.pendings = s.msg.pendings.filter (fun x => x.entry != q.entry)
       ∧ (¬(s.sup.splice = .requesting ∧ s.sup.outstanding = some q.entry) → t.sup = s.sup)
       ∧ (s.sup.splice = .requesting → s.sup.outstanding = some q.entry →
           (sdiff a.value s.arrival < s.conf.minSpliceLead → t.sup = { s.sup with outstanding := none })
           ∧ ((s.conf.minSpliceLead : Int) ≤ sdiff a.value s.arrival →
               (s.sup.runningRemaining : Int) - s.conf.runoutReserve < sdiff a.value s.arrival →
               t.sup.splice = .noSlot ∧ t.sup.outstanding = none ∧ t.sup.fpos = s.sup.fpos)
           ∧ ((s.conf.minSpliceLead : Int) ≤ sdiff a.value s.arrival →
               sdiff a.value s.arrival ≤ (s.sup.runningRemaining : Int) - s.conf.runoutReserve →
               t.sup.splice = .filling ∧ t.sup.fpos = some a.value ∧ t.sup.outstanding = none)))
     ∧ (a.code = 4 → ∃ t, exec (.answerRefused sender p) s = .next t
       ∧ t.msg.pendings = s.msg.pendings.filter (fun x => x.entry != q.entry)
       ∧ (¬(s.sup.splice = .requesting ∧ s.sup.outstanding = some q.entry) → t.sup = s.sup)
       ∧ (s.sup.splice = .requesting → s.sup.outstanding = some q.entry → t.sup.splice = .noSlot ∧ t.sup.outstanding = none)))

/-- The repeat timer of a pending request: below the attempt limit it is sent again under its id; at the limit it is UNDELIVERED, and
REQUEST UNDELIVERED is raised. The expiry names its entry (log 35, the model's reading), and no other entry changes, be it of the same id
and target. The hold timer of a COMPLETE entry discards it; at the HEAD a discarded SEAM SLOT removes its GAP if that is still NEXT, and a
discarded ROLL LOAD changes nothing else. -/
def Obligations.RequestsAndAnswersExpire : Prop :=
  (∀ (s : State) (entry : Nat) (q : PendingReq), s.msg.pendings.find? (fun x => x.entry == entry && x.timer.isSome) = some q →
     (q.attempts < s.conf.attemptLimit → ∃ t, exec (.repeatTimerExpiry entry) s = .next t
       ∧ t = { s with msg := t.msg } ∧ t.msg.nextId = s.msg.nextId
       ∧ t.msg.pendings = s.msg.pendings.map (fun x =>
           if x.entry = entry then { x with attempts := x.attempts + 1, timer := some s.conf.repeatInterval } else x)
       ∧ (s.msg.copyWaits (.request ⟨q.id, q.target, q.body, entry⟩) = true → t.msg.queue = s.msg.queue)
       ∧ (s.msg.copyWaits (.request ⟨q.id, q.target, q.body, entry⟩) = false → s.msg.room = true →
           t.msg.queue = s.msg.queue ++ [⟨.request ⟨q.id, q.target, q.body, entry⟩, 0, .waiting⟩])
       ∧ (s.msg.copyWaits (.request ⟨q.id, q.target, q.body, entry⟩) = false → s.msg.room = false →
           t.msg.queue = s.msg.queue ∧ UnsentRef.request entry ∈ t.msg.unsent))
     ∧ (s.conf.attemptLimit ≤ q.attempts → ∃ t, exec (.repeatTimerExpiry entry) s = .next t
       ∧ t.msg.pendings = s.msg.pendings.filter (fun x => x.entry != entry)
       ∧ UnsentRef.request entry ∉ t.msg.unsent
       ∧ (s.sup.splice = .requesting → s.sup.outstanding = some entry → t.sup = { s.sup with outstanding := none })
       ∧ (s.live = true → s.msg.queue.length < 12 →
           t.fault = some ⟨.requestUndelivered, half16 (q.target.toNat * 256 + q.id.toNat), s.stn⟩)))
  ∧ (∀ (s : State) (requester : Station) (id : Byte) (d : Delayed),
     s.msg.findDelayed requester id = some d → d.hold.isSome = true → nextDue s = none →
     (d.body.code ≠ .seamSlot → exec (.holdTimerExpiry requester id) s = .next
         { s with msg.delayed := s.msg.delayed.filter fun x => !(x.requester == requester && x.id == id) })
     ∧ (d.body.code = .seamSlot → (∀ n, s.lay.next = some n → n.isPlanned requester id = false) →
         exec (.holdTimerExpiry requester id) s = .next
           { s with msg.delayed := s.msg.delayed.filter fun x => !(x.requester == requester && x.id == id) })
     ∧ (∀ len g used start, d.body.code = .seamSlot → s.lay.next = some ⟨.gap ⟨.planned requester id, len, used⟩, start⟩ →
         g = s.msg.delayed.filter (fun x => !(x.requester == requester && x.id == id)) → g = [] → s.lay.queued = [] →
         ∃ t, exec (.holdTimerExpiry requester id) s = .next t ∧ t.msg.delayed = [] ∧ t.lay.next = none
           ∧ t.lay = { s.lay with next := none } ∧ ∀ w ∈ t.pos.watches, w.event ≠ .itemStart))

/-! ## Positions, registration and measured speed -/

/-- One accepted edge of a channel is one count in the direction of the quadrature order, and moves the fine position by the channel's scale
modulo 2^42; the other channel stays. A forward count followed by a reverse one restores the channel. When both accepted levels change at
one sample the new state is adopted and no count taken. A position that has changed delivers the watches it has reached, each removed as it
is delivered, the one furthest past its target first, over all positions and blocks, until none is due, 65,536 at most (this order among
blocks and the bound are log 12, the model's choice; that a target exactly 2^31 off is not reached is log 46, the model's reading); a change
of the reference position's cadence bit then hands a POSITION. A position that has not changed delivers, hands and meters nothing. The
SUPPLY meters its RUNNING arm by the move of the supply position, clamped to the loaded length, before the watches and the cadence (log 42,
the model's choice); reaching 0 is ROLL RUNOUT with the arm's roll id, which halts. -/
def Obligations.EdgesAreCountedAndMetered : Prop :=
  ((∀ (s : State) (line : EncLine) (n : Nat), s.conf.deglitch ≤ n →
     (s.live = true → ∃ t, exec (.encoderCount .ch0 line n) s = .next t ∧ t.pos.ch1 = s.pos.ch1
       ∧ t.pos.ch0.a = (if line = .a then !s.pos.ch0.a else s.pos.ch0.a)
       ∧ t.pos.ch0.b = (if line = .b then !s.pos.ch0.b else s.pos.ch0.b)
       ∧ (line = .a → s.pos.ch0.a = s.pos.ch0.b → t.pos.ch0.fine = s.pos.ch0.fine + BitVec.ofNat 42 s.conf.scale0)
       ∧ (line = .a → s.pos.ch0.a ≠ s.pos.ch0.b → t.pos.ch0.fine = s.pos.ch0.fine - BitVec.ofNat 42 s.conf.scale0)
       ∧ (line = .b → s.pos.ch0.a ≠ s.pos.ch0.b → t.pos.ch0.fine = s.pos.ch0.fine + BitVec.ofNat 42 s.conf.scale0)
       ∧ (line = .b → s.pos.ch0.a = s.pos.ch0.b → t.pos.ch0.fine = s.pos.ch0.fine - BitVec.ofNat 42 s.conf.scale0))
     ∧ (s.isRole .head = true → ∃ t, exec (.encoderCount .ch1 line n) s = .next t ∧ t.pos.ch0 = s.pos.ch0
       ∧ t.pos.ch1 = s.pos.ch1.count line s.conf.scale1))
   ∧ ∀ (c : Channel) (line : EncLine) (scale : Nat), (c.count line scale).count line scale = c)
  ∧ (∀ (s : State) (n : Nat), s.conf.deglitch ≤ n →
     (s.live = true → exec (.bothAcceptedLevelsChange .ch0 n) s = .next { s with
       pos.ch0 := ⟨s.pos.ch0.fine, !s.pos.ch0.a, !s.pos.ch0.b⟩ })
     ∧ (s.isRole .head = true → exec (.bothAcceptedLevelsChange .ch1 n) s = .next { s with
       pos.ch1 := ⟨s.pos.ch1.fine, !s.pos.ch1.a, !s.pos.ch1.b⟩ }))
  ∧ (∀ s : State,
     (nextDue s = none ↔ ∀ w ∈ s.pos.watches, sdiff (s.posOf w.pos) w.target < 0)
     ∧ ∀ w, nextDue s = some w → w ∈ s.pos.watches ∧ 0 ≤ sdiff (s.posOf w.pos) w.target
         ∧ ∀ v ∈ s.pos.watches, sdiff (s.posOf v.pos) v.target ≤ sdiff (s.posOf w.pos) w.target)
  ∧ (∀ (s u t : State) (ch : EncChannel) (line : EncLine) (n k : Nat), s.conf.deglitch ≤ n →
     (s.live = true ∧ s.role ≠ some .supply ∧ ch = .ch0) ∨ (s.isRole .head = true ∧ ch = .ch1) → u = takeCount ch line s →
     (u.luOf ch = s.luOf ch → exec (.encoderCount ch line n) s = .next u)
     ∧ (u.luOf ch ≠ s.luOf ch → fires k u t → k ≤ 65536 → exec (.encoderCount ch line n) s = .next
         (if s.refPos.getLsbD s.conf.cadenceBit = t.refPos.getLsbD s.conf.cadenceBit then t
          else { t with pos.keepAlive := some 100, msg := t.msg.supersede .position })))
  ∧ (∀ (s : State) (line : EncLine) (n : Nat) (d : Int) (rem : Nat) (arm : ArmName),
     s.isRole .supply = true → s.conf.deglitch ≤ n → (s.sup.arm arm).state = .running → (s.sup.arm (otherOf arm)).state ≠ .running →
     d = sdiff (s.pos.ch0.count line s.conf.scale0).lu s.pos.ch0.lu →
     rem = (clampInt 0 (s.sup.arm arm).loaded (((s.sup.arm arm).remaining : Int) - d)).toNat →
     ∃ t, exec (.encoderCount .ch0 line n) s = .next t
       ∧ (d ≠ 0 → t.sup.arm arm = { s.sup.arm arm with remaining := rem }) ∧ (d = 0 → t.sup.arm arm = s.sup.arm arm)
       ∧ t.sup.arm (otherOf arm) = s.sup.arm (otherOf arm)
       ∧ (d ≠ 0 → 0 < (s.sup.arm arm).remaining → rem = 0 →
           t.stn = .halted ∧ t.ctl.entryClear = s.ctl.lastClear ∧ (s.stn ≠ .halted → t.link.tx = .sendingStop)
           ∧ (∀ id, nextDue (takeCount .ch0 line s) = none → s.msg.queue.length ≤ 6 → (s.sup.arm arm).roll = some id →
               t.fault = some ⟨.rollRunout, id, s.stn⟩))
       ∧ (0 < rem → t.stn = s.stn)
       ∧ (d ≠ 0 → 0 < rem → nextDue (takeCount .ch0 line s) = none →
           t.fault = s.fault
           ∧ (s.pos.ch0.lu.getLsbD s.conf.cadenceBit = t.pos.ch0.lu.getLsbD s.conf.cadenceBit →
               t.msg = s.msg ∧ t.pos.keepAlive = s.pos.keepAlive)
           ∧ (s.pos.ch0.lu.getLsbD s.conf.cadenceBit ≠ t.pos.ch0.lu.getLsbD s.conf.cadenceBit →
               t.msg = s.msg.supersede .position ∧ t.pos.keepAlive = some 100)))

/-- Each expiry of the speed timer measures ten times the travel since the last, 0 for a reverse move and at most 65,535; the spans in
the chest take it up, and at the SUPPLY an unwind come to rest in PRESSING is braked and, RUNNING, pressed at that expiry (log 17, the
model's choice). -/
def Obligations.SpeedTimerMeasures : Prop :=
  ∀ (s : State) (v : Nat), s.pos.speedTimer.isSome = true → v = (clampInt 0 65535 (10 * sdiff s.pos.ch0.lu s.pos.prev)).toNat →
    ∃ t, exec .speedTimerExpiry s = .next t
      ∧ t = { s with pos := t.pos, map.spans := t.map.spans, sup := t.sup }
      ∧ t.pos = { s.pos with measured := v, prev := s.pos.ch0.lu, speedTimer := some 10 }
      ∧ t.map.spans.length = s.map.spans.length
      ∧ (∀ (i : Nat) (sp : Span), s.map.spans[i]? = some sp →
          (sp.phase = .approaching → t.map.spans[i]? = some sp)
          ∧ (∀ p tl st st', sp.phase = .inChest p tl st →
              st' = (if v = 0 ∧ (s.stn = .ready ∨ s.stn = .running ∨ s.stn = .stopping) then min 1000000 (st + 10) else st) →
              t.map.spans[i]? = some { sp with phase := .inChest (max p v) tl st' }))
      ∧ (¬(s.isRole .supply = true ∧ s.pos.measured ≠ 0 ∧ v = 0 ∧ s.sup.splice = .pressing) → t.sup = s.sup)
      ∧ (s.isRole .supply = true → s.pos.measured ≠ 0 → v = 0 → s.sup.splice = .pressing →
          t.sup.brake = true
          ∧ (s.stn = .running → s.sup.pressFire = false → t.sup.pressFire = true ∧ t.sup.pressTimer = some s.conf.pressTimeout)
          ∧ (s.stn ≠ .running → t.sup.pressFire = s.sup.pressFire ∧ t.sup.pressTimer = s.sup.pressTimer))

/-- The keep-alive, posting and roll state timers hand a POSITION, a CEILING of the own ceiling, and a ROLL STATE, and start again. A
change of the own ceiling is posted at once when it falls below the last posted value P or rises above P + ⌊P/32⌋, and else left to the
posting timer. -/
def Obligations.NoticesArePosted : Prop :=
  (∀ s : State, s.live = true →
     (s.pos.keepAlive.isSome = true → exec .keepAliveTimerExpiry s = .next { s with
       pos.keepAlive := some 100, msg := s.msg.supersede .position })
     ∧ (s.spd.postTimer.isSome = true → exec .postingTimerExpiry s = .next { s with
       spd.lastPosted := some s.spd.ownValue, spd.postTimer := some 100
       msg := s.msg.supersede (.ceiling ⟨s.spd.ownValue, decide (s.role = some .supply),
         (if s.stn = .running then s.spd.ownReason else .notRunning)⟩) })
     ∧ (s.sup.rollTimer.isSome = true → s.role = some .supply → exec .rollStateTimerExpiry s = .next { s with
       sup.rollTimer := some 250
       msg := s.msg.supersede (.rollState ⟨s.sup.running, s.sup.runningRemaining,
         (if s.sup.festoon = .noReading then 0 else s.sup.content), s.sup.splice,
         (if s.sup.running = some .b then s.sup.armA.state else s.sup.armB.state)⟩) }))
  ∧ (∀ (s : State) (p : Nat), s.spd.lastPosted = some p →
     let new := (roleCeiling s).1
     (new ≠ s.spd.ownValue → new < p ∨ p + p / 32 < new →
       (reformOwn s).spd.ownValue = new ∧ (reformOwn s).spd.lastPosted = some new ∧ (reformOwn s).spd.postTimer = some 100
         ∧ (reformOwn s).msg = s.msg.supersede (.ceiling ⟨new, decide (s.role = some .supply),
             if s.stn = .running then (roleCeiling s).2 else .notRunning⟩))
     ∧ (new = s.spd.ownValue ∨ (p ≤ new ∧ new ≤ p + p / 32) →
       reformOwn s = { s with spd.ownValue := new, spd.ownReason := (roleCeiling s).2 }))

/-- The watched neighbour's POSITION sets the neighbour heard flag and restarts its timer; at the HEAD it changes no position, at the SUPPLY
it gives H, the HEAD's speed and the arrival offset from the latched supply position, in LOST with a free value in place of C (log 19, the
model's reading). A SETTER registers to its source's POSITION: UNCAPTURED it captures and then drops every APPROACHING span beyond the
window, with its watch, TRACKING it slews by at most 50 lu and counts errors above 2,000 lu, the third of which halts as REGISTRATION LOST
with its magnitude, up to 65,535, as the detail, SUSPENDED it changes nothing. -/
def Obligations.NeighbourPositionIsTaken : Prop :=
  (∀ (s : State) (p : List Byte) (l : Latch) (m : PositionMsg),
     s.hears 0 s.neighbour p l → parsePosition p = some m → s.role = some .head ∨ s.role = some .supply →
     ∃ t, exec (.position s.neighbour p) s = .next t
       ∧ t.ctl.neighbourHeard = true ∧ t.link.neighbourSilence = some s.conf.silenceLimit
       ∧ t.stn = (if s.stn = .listen ∧ s.ctl.consoleHeard = true then .ready else s.stn)
       ∧ t.pos = { s.pos with keepAlive := t.pos.keepAlive } ∧ t.lay = s.lay ∧ t.spd = s.spd
       ∧ (s.role = some .head → t.sup = s.sup)
       ∧ (s.role = some .supply → t.sup = { s.sup with
           headFlat := m.second, vHead := m.measured, offsetValid := true, offset := t.sup.offset }
           ∧ (s.sup.festoon ≠ .lost → l.ch0 + t.sup.offset
               = m.second + word32 s.conf.pathHead + (if s.sup.festoon = .noReading then 0 else word32 s.sup.content))
           ∧ (s.sup.festoon = .lost → t.freeCount = s.freeCount + 1
               ∧ l.ch0 + t.sup.offset = m.second + word32 s.conf.pathHead + Config.freeWord s.freeCount)))
  ∧ (∀ (s : State) (p : List Byte) (l : Latch) (m : PositionMsg) (e : Int),
     s.hears 0 s.neighbour p l → parsePosition p = some m → s.isRole .setter = true →
     e = sdiff (m.ref - word32 s.conf.pathSource) l.map →
     ∃ t, exec (.position s.neighbour p) s = .next t
       ∧ t.ctl.neighbourHeard = true ∧ t.link.neighbourSilence = some s.conf.silenceLimit ∧ t.pos.ch0 = s.pos.ch0
       ∧ (s.pos.reg = .uncaptured → t.pos.reg = .tracking ∧ t.pos.errorRun = 0
           ∧ l.ch0 + t.pos.offset = m.ref - word32 s.conf.pathSource
           ∧ (∀ sp ∈ t.map.spans, sp.phase = .approaching →
               s.conf.windowAhead = 0 ∨ sdiff sp.start t.mapPos ≤ s.conf.windowAhead)
           ∧ ((∀ w ∈ s.pos.watches, w.pos = .map ∧ sdiff t.mapPos w.target < 0) →
               t.map.spans = s.map.spans.filter (fun sp => decide (sp.phase ≠ .approaching)
                 || decide (s.conf.windowAhead = 0) || decide (sdiff sp.start t.mapPos ≤ s.conf.windowAhead))
               ∧ t.pos.watches = s.pos.watches.filter (fun w => !(s.map.spans.any fun sp =>
                   decide (w.event = .spanEntry sp.start) && decide (sp.phase = .approaching)
                     && !(decide (s.conf.windowAhead = 0) || decide (sdiff sp.start t.mapPos ≤ s.conf.windowAhead))))))
       ∧ (s.pos.reg = .suspended → t.pos.reg = .suspended ∧ t.pos.offset = s.pos.offset ∧ t.pos.errorRun = s.pos.errorRun)
       ∧ (s.pos.reg = .tracking →
           (e.natAbs ≤ 50 → t.pos.offset = s.pos.offset + BitVec.ofInt 32 e)
           ∧ (50 < e → t.pos.offset = s.pos.offset + 50#32) ∧ (e < -50 → t.pos.offset = s.pos.offset - 50#32)
           ∧ (e.natAbs ≤ 2000 → t.pos.reg = .tracking ∧ t.pos.errorRun = 0)
           ∧ (2000 < e.natAbs → s.pos.errorRun + 1 < 3 → t.pos.reg = .tracking ∧ t.pos.errorRun = s.pos.errorRun + 1)
           ∧ (2000 < e.natAbs → s.stn ≠ .halted → 3 ≤ s.pos.errorRun + 1 →
               t.stn = .halted ∧ t.pos.reg = .suspended ∧ t.pos.errorRun = 0 ∧ t.link.tx = .sendingStop
               ∧ (nextDue { s with pos.offset := t.pos.offset } = none → s.msg.queue.length ≤ 6 →
                   t.fault = some ⟨.registrationLost, half16 (min e.natAbs 65535), s.stn⟩
                   ∧ ⟨.fault ⟨.registrationLost, half16 (min e.natAbs 65535), s.stn⟩, 0, .waiting⟩ ∈ t.msg.queue))))

/-! ## Ceilings and speeds -/

/-- A CEILING makes its sender's entry CURRENT with a full lapse time, the expiry of that time makes it LAPSED with its contents kept; at
the HEAD the SUPPLY's entry sets the infeed limit and clamps the infeed reference. The station state and the fault record stay. -/
def Obligations.CeilingEntriesFollowNotices : Prop :=
  ∀ (s : State), s.infeedLawful →
    (∀ (sender : Station) (p : List Byte) (l : Latch) (m : CeilingMsg), sender ≠ consoleStation →
      s.hears 1 sender p l → parseCeiling p = some m →
      ∃ t, exec (.ceiling sender p) s = .next t
        ∧ t.entry sender = .current m s.conf.ceilingHold ∧ (∀ n, n ≠ sender → t.entry n = s.entry n)
        ∧ t.stn = s.stn ∧ t.fault = s.fault ∧ t.pos = s.pos
        ∧ (s.isRole .head = true → t.lay = { s.lay with
            infeedLimit := min s.conf.infeedMax (t.entry s.neighbour).standing
            infeedRef := min s.lay.infeedRef (min s.conf.infeedMax (t.entry s.neighbour).standing) })
        ∧ (s.isRole .head = false → t = { s with link.latch := none, spd.table := t.spd.table }))
    ∧ (∀ (sender : Station) (m : CeilingMsg) (k : Nat), s.entry sender = .current m k →
      ∃ t, exec (.lapseTimerExpiry sender) s = .next t
        ∧ t.entry sender = .lapsed m ∧ (∀ n, n ≠ sender → t.entry n = s.entry n)
        ∧ t.stn = s.stn ∧ t.fault = s.fault ∧ t.pos = s.pos
        ∧ (s.isRole .head = true → t.lay = { s.lay with
            infeedLimit := min s.conf.infeedMax (t.entry s.neighbour).standing
            infeedRef := min s.lay.infeedRef (min s.conf.infeedMax (t.entry s.neighbour).standing) })
        ∧ (s.isRole .head = false → t = { s with spd.table := t.spd.table }))

/-- One step of the ramp: toward 100 times the target by accel, decel or, HALTED, emergency decel, without overshoot; STOPPING ends when it
reaches 0; at the SUPPLY the ramp acts in HALTED alone, and the brake comes on with the unwind reference at 0. A pulse-width output takes
the duty last handed at the start of the next period: by role, the speeds as fractions of their full scales rounded to the nearest count,
and at a SETTER the zones' duties. The eight digital outputs carry by role the brake, the clutches and the press, the stroke pulses, or the
vent; an output the role does not use, and every output in CONFIG and CONFIG FAULT, is off. The eight digital inputs have filtered levels:
three agreeing samples change one, whether or not the role uses it, inputs 3 to 7 from the end of CONFIG and input 8 always; a change that
no block acts on moves the level alone. E-stop and web break are active with the pin high, every other input with the pin low, and the
filtered level of a pin takes the value that three readings in a row give. It comes with a command of an input that becomes active, before
what that command does (log 11, the model's reading). -/
def Obligations.RampAndDuties : Prop :=
  (∀ (s : State) (goal fine : Nat), s.spd.rampTimer.isSome = true → goal = 100 * effectiveTarget s →
     fine = (if s.spd.fine < goal then min goal (s.spd.fine + s.conf.accel)
       else if goal < s.spd.fine then max goal (s.spd.fine - (if s.stn = .halted then s.conf.emergencyDecel else s.conf.decel))
       else s.spd.fine) →
     (s.role ≠ some .supply → s.stn ≠ .stopping ∨ fine ≠ 0 →
       exec .rampTimerExpiry s = .next { s with spd.rampTimer := some 10, spd.fine := fine })
     ∧ (s.role ≠ some .supply → s.stn = .stopping → fine = 0 → s.port.eStop = false → s.port.webBreak = false →
       ∃ t, exec .rampTimerExpiry s = .next t ∧ t.spd.fine = 0
         ∧ t.stn = if s.ctl.consoleHeard && s.ctl.neighbourHeard then .ready else .listen)
     ∧ (s.role = some .supply → s.stn = .halted →
       exec .rampTimerExpiry s = .next { s with
         spd.rampTimer := some 10, spd.fine := fine, sup.unwindRef := fine / 100
         sup.brake := s.sup.brake || decide (fine / 100 = 0) })
     ∧ (s.role = some .supply → s.stn ≠ .halted → exec .rampTimerExpiry s = .next { s with spd.rampTimer := some 10 }))
  ∧ (∀ s : State, ∃ t, exec .pwmPeriodStart s = .next t
     ∧ t = { s with port.refDuty := t.port.refDuty, port.valveDuty := t.port.valveDuty }
     ∧ t.port.refDuty[2]? = some 0
     ∧ (s.live = false → t.port.refDuty = Vector.replicate 3 0 ∧ t.port.valveDuty = Vector.replicate 4 0)
     ∧ (s.isRole .head = true →
         t.port.refDuty[0]? = some (min 1023 ((2 * 1023 * (s.spd.fine / 100) + s.conf.outfeedMax) / (2 * s.conf.outfeedMax)))
         ∧ t.port.refDuty[1]? = some (min 1023 ((2 * 1023 * s.lay.infeedRef + s.conf.infeedMax) / (2 * s.conf.infeedMax))))
     ∧ (s.isRole .setter = true →
         t.port.refDuty[0]? = some (min 1023 ((2 * 1023 * (s.spd.fine / 100) + s.conf.outfeedMax) / (2 * s.conf.outfeedMax)))
         ∧ t.port.refDuty[1]? = some 0
         ∧ ∀ (i : Nat) (z : Zone), i < 4 → s.set.zones[i]? = some z → t.port.valveDuty[i]? = some z.duty)
     ∧ (s.isRole .supply = true →
         t.port.refDuty[0]? = some (min 1023 ((2 * 1023 * s.sup.unwindRef + s.conf.unwindMax) / (2 * s.conf.unwindMax)))
         ∧ t.port.refDuty[1]? = some 0)
     ∧ (s.isRole .setter = false → t.port.valveDuty = Vector.replicate 4 0))
  ∧ (∀ s : State,
     (s.isRole .supply = true → s.output 1 = s.sup.brake ∧ s.output 2 = decide (s.sup.armA.state = .running)
       ∧ s.output 3 = decide (s.sup.armB.state = .running) ∧ s.output 4 = s.sup.pressFire)
     ∧ (s.isRole .head = true → s.output 1 = s.lay.pulseLeft.isSome ∧ s.output 2 = s.lay.pulseRight.isSome
         ∧ s.output 3 = false ∧ s.output 4 = false)
     ∧ (s.isRole .setter = true → s.output 1 = s.set.vent ∧ s.output 2 = false ∧ s.output 3 = false ∧ s.output 4 = false)
     ∧ (∀ n, 5 ≤ n → s.output n = false)
     ∧ (s.live = false → ∀ n, s.output n = false))
  ∧ (∀ (s u : State) (r : PinRun), u = samplePins [r] s →
     u = { s with port := u.port }
     ∧ u.port = { s.port with
         input3 := u.port.input3, input4 := u.port.input4, input5 := u.port.input5, input6 := u.port.input6
         input7 := u.port.input7, restartIn := u.port.restartIn }
     ∧ (r.samples < 3 → u = s)
     ∧ (s.live = false → r.input ≠ 8 → u = s)
     ∧ (3 ≤ r.samples → r.input = 8 → runActive r = false → u = { s with port.restartIn := false })
     ∧ (3 ≤ r.samples → s.live = true → 3 ≤ r.input → r.input ≤ 7 → runActive r = false →
         ∀ k, u.input k = if k = r.input then false else s.input k)
     ∧ (3 ≤ r.samples → s.live = true → runActive r = true →
         (s.role = some .supply ∧ 6 ≤ r.input ∧ r.input ≤ 7) ∨ (s.role = some .head ∧ 4 ≤ r.input ∧ r.input ≤ 7)
           ∨ (s.role = some .setter ∧ 3 ≤ r.input ∧ r.input ≤ 7) →
         ∀ k, u.input k = if k = r.input then true else s.input k)
     ∧ (runActive r = true → r.input = 8 ∨ (s.role = some .supply ∧ 3 ≤ r.input ∧ r.input ≤ 5) ∨ (s.role = some .head ∧ r.input = 3) →
         u = s)
     ∧ (r.input ≤ 2 ∨ 9 ≤ r.input → u = s))
  ∧ (∀ (s u : State) (released n : Nat) (r : PinRun) (rs : List PinRun) (c : Rise → Instr),
     c = .restart ∨ c = .bladeHomeBecomesActive ∨ c = .pressDone ∨ (∃ arm, c = .armReadyBecomesActive arm) → u = samplePins [r] s →
     exec (c ⟨released, n, r :: rs⟩) s = exec (c ⟨released, n, rs⟩) u)
  ∧ ((∀ (s : State) (n : Nat), (n = 1 ∨ n = 2 → s.pin n = s.input n) ∧ (3 ≤ n → s.pin n = !s.input n))
     ∧ (∀ r : PinRun, (r.input = 1 ∨ r.input = 2 → runActive r = r.high) ∧ (3 ≤ r.input → runActive r = !r.high))
     ∧ ∀ (s t : State) (c : Instr) (n k j : Nat), s.live = true ∨ n = 8 →
         (n = 1 ∧ (c = .eStopBecomesActive k ∨ c = .eStopBecomesInactive k))
           ∨ (n = 2 ∧ (c = .webBreakBecomesActive k ∨ c = .webBreakBecomesInactive k))
           ∨ (n = 3 ∧ s.role = some .head ∧ c = .bladeHomeBecomesActive ⟨j, k, []⟩)
           ∨ (s.role = some .supply ∧ ((n = 3 ∧ c = .armReadyBecomesActive .a ⟨j, k, []⟩)
               ∨ (n = 4 ∧ c = .armReadyBecomesActive .b ⟨j, k, []⟩) ∨ (n = 5 ∧ c = .pressDone ⟨j, k, []⟩)))
           ∨ (n = 8 ∧ c = .restart ⟨j, k, []⟩) →
         exec c s = .next t → t.pin n = filterReadings (s.pin n) (pinReadings c n))

/-! ## The Pattern Store -/

/-- PATTERN BLOCK: refused IN USE, then BAD STEP, without a write; else its records are written and marked and the slot is LOADING. -/
def Obligations.PatternBlockWritesSteps : Prop :=
  ∀ (s : State) (sender : Station) (p : List Byte) (r : RequestIn) (pat first : Byte) (r1 : StepRec) (r2 : Option StepRec) (n : Nat),
    s.asked .patternBlock sender p r → s.serves .patternBlock sender r → r.body = .patternBlock pat first r1 r2 → n = pat.toNat % 16 →
    ∃ t, exec (.patternBlock sender p) s = .next t
      ∧ t = { s with link.latch := none, slots := t.slots, msg := t.msg } ∧ s.msg.answersOnly t.msg
      ∧ (∀ k, k ≠ n → t.slot k = s.slot k)
      ∧ ((s.slot n).state = .ready → 0 < (s.slot n).inUse →
          t.slot n = s.slot n ∧ t.msg.gives ⟨sender, r.id, .patternBlock, .refused .inUse 0 0⟩)
      ∧ (¬((s.slot n).state = .ready ∧ 0 < (s.slot n).inUse) → 47 < first.toNat ∨ (r2.isSome = true ∧ first.toNat = 47) →
          t.slot n = s.slot n ∧ t.msg.gives ⟨sender, r.id, .patternBlock, .refused .badStep 0 0⟩)
      ∧ (¬((s.slot n).state = .ready ∧ 0 < (s.slot n).inUse) → first.toNat + (if r2.isSome then 1 else 0) ≤ 47 →
          t.slot n = { s.slot n with state := .loading, places := (t.slot n).places }
          ∧ (t.slot n).places[first.toNat]? = some ⟨true, r1⟩
          ∧ (∀ x, r2 = some x → (t.slot n).places[first.toNat + 1]? = some ⟨true, x⟩)
          ∧ (∀ i, i ≠ first.toNat → (r2.isSome = true → i ≠ first.toNat + 1) → (t.slot n).places[i]? = (s.slot n).places[i]?)
          ∧ t.msg.gives ⟨sender, r.id, .patternBlock, .done 0⟩)

/-- PATTERN COMMIT: refused IN USE, or PATTERN INVALID with the first failure, leaving the slot; else READY with the count, the exact
lengths at each grade and the derived step table. The checks of a commit, in order: count and written places, field ranges, pitches at every
grade, fold within pitch, lengths. The step reported is the first that fails, in the lengths the one at which a sum of any grade first
exceeds its limit (log 13, the model's reading of R93 by R90's "Within a check the steps are taken from place 0 upward, and within one step
the grades from 0 upward"); a pattern that passes the other checks and stays within its lengths passes. The ranges: increment −500 to 500,
repeats not 0, FLAT of 100 to 50,000 lu without depth, KNIFE, with a direction, and BOX of 100 to 5,000 lu with a depth of 100 to 4,000;
every grade's pitch in the range of the fold, even for BOX; k × d at most 7 × p at every grade. -/
def Obligations.PatternCommitIsChecked : Prop :=
  (∀ (s : State) (sender : Station) (p : List Byte) (r : RequestIn) (pat count : Byte) (n : Nat) (rs : List StepRec),
     s.asked .patternCommit sender p r → s.serves .patternCommit sender r → r.body = .patternCommit pat count → n = pat.toNat % 16 →
     rs = ((s.slot n).places.toList.take count.toNat).map (·.record) →
     ∃ t, exec (.patternCommit sender p) s = .next t
       ∧ t = { s with link.latch := none, slots := t.slots, msg := t.msg } ∧ s.msg.answersOnly t.msg
       ∧ (∀ k, k ≠ n → t.slot k = s.slot k)
       ∧ ((s.slot n).state = .ready → 0 < (s.slot n).inUse →
           t.slot n = s.slot n ∧ t.msg.gives ⟨sender, r.id, .patternCommit, .refused .inUse 0 0⟩)
       ∧ (¬((s.slot n).state = .ready ∧ 0 < (s.slot n).inUse) → ∀ i cause, (s.slot n).failure count.toNat = some (i, cause) →
           t.slot n = s.slot n
           ∧ t.msg.gives ⟨sender, r.id, .patternCommit, .refused .patternInvalid (BitVec.ofNat 8 i) (BitVec.ofNat 8 cause)⟩)
       ∧ (¬((s.slot n).state = .ready ∧ 0 < (s.slot n).inUse) → (s.slot n).failure count.toNat = none →
           (t.slot n).state = .ready ∧ (t.slot n).count = count.toNat ∧ (t.slot n).places = (s.slot n).places
           ∧ (t.slot n).inUse = (s.slot n).inUse
           ∧ (∀ g, g < 8 →
               (t.slot n).lp[g]? = some (rs.map fun x => x.repeats.toNat * (x.pitchAt g).toNat).sum
               ∧ (t.slot n).lf[g]? = some (rs.map fun x =>
                   x.repeats.toNat * ((x.pitchAt g).toNat + x.theFold.factor * x.depth.toNat)).sum
               ∧ (t.slot n).geoms g = rs.map fun x =>
                   ⟨(x.pitchAt g).toNat, x.theFold.factor, x.theFold.strokes, (x.pitchAt g).toNat + x.theFold.factor * x.depth.toNat⟩)
           ∧ t.msg.gives ⟨sender, r.id, .patternCommit, .done 0⟩))
  ∧ (∀ (sl : Slot) (count : Nat) (rs : List StepRec), rs = (sl.places.toList.take count).map (·.record) →
     (count = 0 ∨ 48 < count → sl.failure count = some (255, 1))
     ∧ (1 ≤ count → count ≤ 48 →
         (∀ i, sl.failure count = some (i, 1) ↔
           (i < count ∧ (∃ x, sl.places[i]? = some x ∧ x.written = false)
             ∧ ∀ j, j < i → ∀ x, sl.places[j]? = some x → x.written = true))
         ∧ ((∀ j, j < count → ∀ x, sl.places[j]? = some x → x.written = true) →
             (∀ i, sl.failure count = some (i, 2) ↔ rs.findIdx? (fun r => !r.fieldsOk) = some i)
             ∧ (rs.all StepRec.fieldsOk = true →
                 (∀ i, sl.failure count = some (i, 3) ↔ rs.findIdx? (fun r => !r.pitchesOk) = some i)
                 ∧ (rs.all StepRec.pitchesOk = true →
                     (∀ i, sl.failure count = some (i, 4) ↔ rs.findIdx? (fun r => !r.fits) = some i)
                     ∧ (rs.all StepRec.fits = true →
                         (sl.failure count = none ↔ ∀ g, g < 8 → pleatedLength rs g ≤ 1000000 ∧ flatLength rs g ≤ 4000000)
                         ∧ (∀ i, sl.failure count = some (i, 5) ↔
                             i < count
                             ∧ (∃ g, g < 8 ∧ (1000000 < pleatedLength (rs.take (i + 1)) g ∨ 4000000 < flatLength (rs.take (i + 1)) g))
                             ∧ ∀ g, g < 8 → pleatedLength (rs.take i) g ≤ 1000000 ∧ flatLength (rs.take i) g ≤ 4000000)
                         ∧ (sl.failure count = none ∨ ∃ i, sl.failure count = some (i, 5))))))))
  ∧ (∀ r : StepRec,
     (r.fieldsOk = true ↔
       -500 ≤ r.increment.toInt ∧ r.increment.toInt ≤ 500 ∧ r.repeats ≠ 0
       ∧ ((r.fold = 0 ∧ 100 ≤ r.pitch.toNat ∧ r.pitch.toNat ≤ 50000 ∧ r.depth = 0)
         ∨ (((r.fold = 1 ∧ (r.direction = 1 ∨ r.direction = 2)) ∨ r.fold = 2)
             ∧ 100 ≤ r.pitch.toNat ∧ r.pitch.toNat ≤ 5000 ∧ 100 ≤ r.depth.toNat ∧ r.depth.toNat ≤ 4000)))
     ∧ (∀ g, r.pitchAt g = (r.pitch.toNat : Int) + g * r.increment.toInt)
     ∧ (r.fold = 0 → r.theFold.factor = 0 ∧ r.theFold.strokes = 0
         ∧ (r.pitchesOk = true ↔ ∀ g, g < 8 → 100 ≤ r.pitchAt g ∧ r.pitchAt g ≤ 50000)
         ∧ (r.pitchesOk = true → r.fits = true))
     ∧ (r.fold = 1 → r.theFold.factor = 2 ∧ r.theFold.strokes = 1
         ∧ (r.pitchesOk = true ↔ ∀ g, g < 8 → 100 ≤ r.pitchAt g ∧ r.pitchAt g ≤ 5000)
         ∧ (r.fits = true ↔ ∀ g, g < 8 → 2 * (r.depth.toNat : Int) ≤ 7 * r.pitchAt g))
     ∧ (r.fold = 2 → r.theFold.factor = 4 ∧ r.theFold.strokes = 2
         ∧ (r.pitchesOk = true ↔ ∀ g, g < 8 → 100 ≤ r.pitchAt g ∧ r.pitchAt g ≤ 5000 ∧ r.pitchAt g % 2 = 0)
         ∧ (r.fits = true ↔ ∀ g, g < 8 → 4 * (r.depth.toNat : Int) ≤ 7 * r.pitchAt g)))

/-- PATTERN CLEAR: a slot not in use returns to its state after a reset, from any state, and the answer is DONE; a slot in use is left as
it was, refused IN USE. That a cleared step record holds direction code 0 is the model's choice (log 23). -/
def Obligations.PatternClearEmptiesTheSlot : Prop :=
  ∀ (s : State) (sender : Station) (p : List Byte) (r : RequestIn) (pat : Byte) (n : Nat),
    s.asked .patternClear sender p r → s.serves .patternClear sender r → r.body = .patternClear pat → n = pat.toNat % 16 →
    ∃ t, exec (.patternClear sender p) s = .next t
      ∧ t = { s with link.latch := none, slots := t.slots, msg := t.msg } ∧ s.msg.answersOnly t.msg
      ∧ (∀ k, k ≠ n → t.slot k = s.slot k)
      ∧ ((s.slot n).inUse = 0 →
          (t.slot n).state = .empty ∧ (t.slot n).count = 0 ∧ (t.slot n).inUse = 0
          ∧ (∀ i, i < 48 → (t.slot n).places[i]? = some ⟨false, ⟨0, 0, 0, 0, 0, 0⟩⟩)
          ∧ (t.slot n).lp = List.replicate 8 0 ∧ (t.slot n).lf = List.replicate 8 0 ∧ (t.slot n).derived = []
          ∧ t.msg.gives ⟨sender, r.id, .patternClear, .done 0⟩)
      ∧ (0 < (s.slot n).inUse → t.slot n = s.slot n ∧ t.msg.gives ⟨sender, r.id, .patternClear, .refused .inUse 0 0⟩)

/-! ## The Laying Unit -/

/-- PANEL ORDER: the four tests in their order, a refusal changing nothing; an order that passes appends its panels at the back of the
queue in increasing id order and raises the slot's in-use count. -/
def Obligations.PanelOrderAppendsPanels : Prop :=
  ∀ (s : State) (sender : Station) (p : List Byte) (r : RequestIn) (first : Half) (count pat grade : Byte) (n : Nat) (refusal : Prop),
    s.asked .panelOrder sender p r → s.serves .panelOrder sender r → r.body = .panelOrder first count pat grade → n = pat.toNat % 16 →
    refusal = ((s.slot n).state ≠ .ready ∨ 7 < grade.toNat ∨ count.toNat = 0 ∨ 8 < count.toNat ∨ 30 < s.panels.length + count.toNat
      ∨ first.toNat = 0 ∨ 65535 < first.toNat + count.toNat - 1
      ∨ ∃ x ∈ s.panels, first.toNat ≤ x.id ∧ x.id ≤ first.toNat + count.toNat - 1) →
    (refusal → ∃ t why, exec (.panelOrder sender p) s = .next t
      ∧ t = { s with link.latch := none, msg := t.msg } ∧ s.msg.answersOnly t.msg
      ∧ t.msg.gives ⟨sender, r.id, .panelOrder, .refused why 0 0⟩
      ∧ why = (if (s.slot n).state ≠ .ready then .noPattern else if 7 < grade.toNat then .badGrade
          else if count.toNat = 0 ∨ 8 < count.toNat ∨ 30 < s.panels.length + count.toNat then .queueFull else .duplicate))
    ∧ (¬refusal → nextDue s = none → ahead (plannedStart s) s.pos.ch0.lu = true → ∃ t, exec (.panelOrder sender p) s = .next t
      ∧ t.panels = s.panels ++ (List.range count.toNat).map (fun k =>
          ⟨first.toNat + k, n, grade.toNat, (s.slot n).lp.getD grade.toNat 0, (s.slot n).lf.getD grade.toNat 0, PanelFlags.none⟩)
      ∧ (t.slot n).inUse = (s.slot n).inUse + count.toNat ∧ (∀ k, k ≠ n → t.slot k = s.slot k)
      ∧ t.lay.laying = s.lay.laying ∧ (s.lay.next.isSome = true → t.lay.next = s.lay.next) ∧ t.lay.next.isSome = true
      ∧ t.stn = s.stn ∧ t.pos.ch0 = s.pos.ch0 ∧ t.msg.gives ⟨sender, r.id, .panelOrder, .done 0⟩)

/-- ORDER CANCEL removes the QUEUED panels of its range, and no committed one, lowers each slot's in-use count by its panels removed, and
answers DONE with their number; a count outside 1 to 32 removes none. -/
def Obligations.OrderCancelRemovesQueuedPanels : Prop :=
  ∀ (s : State) (sender : Station) (p : List Byte) (r : RequestIn) (first : Half) (count : Byte) (hit : Panel → Bool),
    s.asked .orderCancel sender p r → s.serves .orderCancel sender r → r.body = .orderCancel first count →
    (∀ x, hit x = true ↔
      1 ≤ count.toNat ∧ count.toNat ≤ 32 ∧ first.toNat ≤ x.id ∧ x.id ≤ first.toNat + count.toNat - 1) →
    ∃ t, exec (.orderCancel sender p) s = .next t
      ∧ t = { s with link.latch := none, lay.queued := t.lay.queued, slots := t.slots, msg := t.msg } ∧ s.msg.answersOnly t.msg
      ∧ t.lay.queued = s.lay.queued.filter (fun x => !hit x)
      ∧ (∀ n, n < 16 → t.slot n = { s.slot n with inUse := (s.slot n).inUse - s.lay.queued.countP fun x => hit x && x.slot == n })
      ∧ t.msg.gives ⟨sender, r.id, .orderCancel, .done (word32 (s.lay.queued.countP hit))⟩

/-- SEAM SLOT: with no NEXT item a PLANNED GAP of the seam length plus twice the margin is committed where the committed set ends, marked
used exactly when a seam or the evicted extent overlaps it, and answered DONE with its start plus the margin; with a NEXT item it is
delayed and answered WAIT. -/
def Obligations.SeamSlotIsPlacedOrDelayed : Prop :=
  ∀ (s : State) (sender : Station) (p : List Byte) (r : RequestIn) (length margin start : Word),
    s.asked .seamSlot sender p r → s.serves .seamSlot sender r → r.body = .seamSlot length margin →
    (∀ l, s.lay.laying = some l → start = l.flatStart + word32 l.item.flatLen) →
    (s.lay.laying = none → start = s.pos.ch0.lu + word32 s.conf.commitLead) →
    (s.lay.next = none → nextDue s = none → ahead start s.pos.ch0.lu = true → ∃ t used, exec (.seamSlot sender p) s = .next t
      ∧ (used = true ↔ overlapping s start (start + word32 (length.toNat + 2 * margin.toNat)) ≠ [])
      ∧ t.lay = { s.lay with next := some ⟨.gap ⟨.planned sender r.id, length.toNat + 2 * margin.toNat, used⟩, start⟩ }
      ∧ t.pos = { s.pos with watches := s.pos.watches ++ [⟨.flat, start, .itemStart⟩] }
      ∧ (t.spd.ownValue, t.spd.ownReason) = headCeiling t ∧ t.stn = s.stn ∧ t.slots = s.slots
      ∧ t.msg.gives ⟨sender, r.id, .seamSlot, .done (start + margin)⟩)
    ∧ (∀ n, s.lay.next = some n → s.msg.room = true → exec (.seamSlot sender p) s = .next { s with
        link.latch := none
        msg.delayed := s.msg.delayed ++ [⟨sender, r.id, .seamSlot length margin, none, none⟩]
        msg.queue := s.msg.queue ++ [⟨.answer ⟨r.id, sender, .seamSlot, .wait⟩, 0, .waiting⟩] })

/-- A SEAM of the SUPPLY ahead of the flat position enters the seam list with its two watches; an overlapped LAYING panel takes SEAM, an
overlapped GAP is marked used, and with no NEXT panel overlapped nothing else of the queue changes. A NEXT panel it overlaps returns to the
front of the QUEUED panels, its slot still in use, and an EMERGENCY GAP up to the clear point furthest ahead is committed in its place. From
a full seam list the oldest entry leaves first: it is reported unplaced, and its range up to its clear point is merged into the evicted
extent, whose end is watched. A seam's arrival captures the pleated position; at its end it leaves the list and its SEAM notice gives the
captured position and the pleated length since, for a seam not captured a free position (log 22); at the evicted extent's end the extent is
empty. Whatever is due once the seam has entered, its own arrival and end included when they are reached already, fires before the committed
set is tested (in the order of log 12); then the marks are made, or, a NEXT panel overlapped, the panel is returned and the commit rule
runs, whatever requests are delayed. -/
def Obligations.SeamEntersTheHead : Prop :=
  (∀ (s : State) (p : List Byte) (l : Latch) (m : SeamMsg),
     s.isRole .head = true → s.hears 3 s.neighbour p l → parseSeam p = some m → nextDue s = none →
     ahead m.pos s.pos.ch0.lu = true → ahead (m.pos + m.length) s.pos.ch0.lu = true →
     (∀ n x, s.lay.next = some n → n.item = .panel x → rangesOverlap m.pos (m.pos + m.length) n.flatStart n.flatEnd = false) →
     (s.lay.seams.length < 4 → ∃ t, exec (.seamAtHead s.neighbour p) s = .next t
       ∧ t = { s with link.latch := none, lay := t.lay, pos := t.pos }
       ∧ t.lay = { s.lay with seams := t.lay.seams, laying := t.lay.laying, next := t.lay.next }
       ∧ t.lay.seams = s.lay.seams ++ [⟨m.pos, m.length, m.emergency, m.margin, none⟩]
       ∧ t.pos = { s.pos with watches :=
           s.pos.watches ++ [⟨.flat, m.pos, .seamArrival⟩, ⟨.flat, m.pos + m.length, .seamEnd⟩] }
       ∧ s.seamMarks m t)
     ∧ (∀ (e : SeamEntry) (rest : List SeamEntry) (q : FlatRange), s.lay.seams = e :: rest → rest.length = 3 →
         (s.lay.evicted = none → q = ⟨e.a, e.a + e.length + e.margin⟩) →
         (∀ r, s.lay.evicted = some r → q =
           ⟨if ahead r.start e.a then e.a else r.start,
            if ahead (e.a + e.length + e.margin) r.stop then e.a + e.length + e.margin else r.stop⟩) →
         ahead q.stop s.pos.ch0.lu = true →
         ∃ t, exec (.seamAtHead s.neighbour p) s = .next t
           ∧ t.lay = { s.lay with
               seams := rest ++ [⟨m.pos, m.length, m.emergency, m.margin, none⟩]
               evicted := some q, laying := t.lay.laying, next := t.lay.next }
           ∧ s.seamMarks m t
           ∧ (∃ ws, t.pos = { s.pos with watches :=
                 ws ++ [⟨.flat, q.stop, .evictedEnd⟩, ⟨.flat, m.pos, .seamArrival⟩, ⟨.flat, m.pos + m.length, .seamEnd⟩] }
               ∧ (∀ w ∈ ws, w.event ≠ .evictedEnd) ∧ ws.Sublist s.pos.watches
               ∧ (∀ w ∈ s.pos.watches, w.event ≠ .seamArrival → w.event ≠ .seamEnd → w.event ≠ .evictedEnd → w ∈ ws)
               ∧ ws.count ⟨.flat, e.a + e.length, .seamEnd⟩ = s.pos.watches.count ⟨.flat, e.a + e.length, .seamEnd⟩ - 1
               ∧ (e.captured = none →
                   ws.count ⟨.flat, e.a, .seamArrival⟩ = s.pos.watches.count ⟨.flat, e.a, .seamArrival⟩ - 1))
           ∧ t.slots = s.slots ∧ t.stn = s.stn
           ∧ (s.msg.room = true → t.fault = s.fault ∧ t.msg = s.msg.place (.seam ⟨0, 0, e.emergency, true, 0⟩))))
  ∧ (∀ (s : State) (p : List Byte) (l : Latch) (m : SeamMsg) (n : NextItem) (x : Panel) (y : LayingItem),
    s.isRole .head = true → s.hears 3 s.neighbour p l → parseSeam p = some m → nextDue s = none → s.lay.seams.length < 4 →
    ahead m.pos s.pos.ch0.lu = true → ahead (m.pos + m.length) s.pos.ch0.lu = true →
    s.lay.laying = some y → s.lay.next = some n → n.item = .panel x → n.flatStart = y.flatEnd →
    ahead n.flatStart s.pos.ch0.lu = true → s.msg.delayed = [] →
    rangesOverlap m.pos (m.pos + m.length) n.flatStart n.flatEnd = true →
    ∃ t len, exec (.seamAtHead s.neighbour p) s = .next t
      ∧ t.lay.next = some ⟨.gap ⟨.emergency, len, true⟩, n.flatStart⟩ ∧ t.lay.queued = x :: s.lay.queued
      ∧ t.lay.seams = s.lay.seams ++ [⟨m.pos, m.length, m.emergency, m.margin, none⟩]
      ∧ t.lay = { s.lay with
          next := t.lay.next, queued := t.lay.queued, seams := t.lay.seams, laying := t.lay.laying }
      ∧ s.layingMarks m t
      ∧ t.slots = s.slots ∧ t.stn = s.stn ∧ t.fault = s.fault
      ∧ (s.lay.seams = [] → s.lay.evicted = none → len = (m.pos + m.length + m.margin - n.flatStart).toNat)
      ∧ (∀ c cs, overlapping { s with lay.seams := t.lay.seams } n.flatStart n.flatEnd = c :: cs →
          len = (furthest c cs - n.flatStart).toNat))
  ∧ (∀ (s u : State) (p : List Byte) (l : Latch) (m : SeamMsg),
     s.isRole .head = true → s.hears 3 s.neighbour p l → parseSeam p = some m →
     u = enterSeam ⟨m.pos, m.length, m.emergency, m.margin, none⟩ { s with link.latch := none } →
     (s.lay.seams.length < 4 → u = { s with
       link.latch := none
       lay.seams := s.lay.seams ++ [⟨m.pos, m.length, m.emergency, m.margin, none⟩]
       pos.watches := s.pos.watches ++ [⟨.flat, m.pos, .seamArrival⟩, ⟨.flat, m.pos + m.length, .seamEnd⟩] })
     ∧ ∀ (k : Nat) (v : State), fires k u v → k ≤ 65536 →
       ((∀ n x, v.lay.next = some n → n.item = .panel x → rangesOverlap m.pos (m.pos + m.length) n.flatStart n.flatEnd = false) →
         ∃ t, exec (.seamAtHead s.neighbour p) s = .next t
           ∧ t = { v with lay.laying := t.lay.laying, lay.next := t.lay.next } ∧ v.seamMarks m t)
       ∧ (∀ n x, v.lay.next = some n → n.item = .panel x → rangesOverlap m.pos (m.pos + m.length) n.flatStart n.flatEnd = true →
         ∃ w, v.layingMarks m w
           ∧ w = { v with
               lay.laying := w.lay.laying, lay.next := none, lay.queued := x :: v.lay.queued
               pos.watches := v.pos.watches.filter fun y => decide (y.event ≠ .itemStart)
               spd := w.spd, msg := w.msg }
           ∧ w.spd = { v.spd with
               ownValue := (headCeiling w).1, ownReason := (headCeiling w).2
               lastPosted := w.spd.lastPosted, postTimer := w.spd.postTimer }
           ∧ ∀ (j : Nat) (t : State), fires j (commitRule w) t → j ≤ 65536 → exec (.seamAtHead s.neighbour p) s = .next t))
  ∧ (∀ (s : State) (a : Word),
     (∀ i e, s.lay.seams.findIdx? (fun x => x.a == a && x.captured.isNone) = some i → s.lay.seams[i]? = some e →
       deliver ⟨.flat, a, .seamArrival⟩ s
         = { s with lay.seams := s.lay.seams.set i { e with captured := some s.pos.ch1.lu } })
     ∧ (∀ i e, s.lay.seams.findIdx? (fun x => x.a + x.length == a) = some i → s.lay.seams[i]? = some e →
         s.msg.room = true → ∃ pos len : Word,
           deliver ⟨.flat, a, .seamEnd⟩ s = { s with
             lay.seams := s.lay.seams.eraseIdx i
             msg := s.msg.place (.seam ⟨pos, len, e.emergency, false, 0⟩)
             pos.watches := (deliver ⟨.flat, a, .seamEnd⟩ s).pos.watches
             freeCount := if e.captured.isSome then s.freeCount else s.freeCount + 1 }
           ∧ (e.captured.isSome = true → (deliver ⟨.flat, a, .seamEnd⟩ s).pos.watches = s.pos.watches)
           ∧ (∀ c, e.captured = some c → pos = c)
           ∧ len = (if sdiff s.pos.ch1.lu pos < 0 then 0 else s.pos.ch1.lu - pos))
     ∧ deliver ⟨.flat, a, .evictedEnd⟩ s = { s with lay.evicted := none })

/-- The commit rule: nothing while a NEXT item exists; else a PENDING SEAM SLOT first, as a PLANNED GAP, marked used exactly when a seam
or the evicted extent overlaps it; else the first QUEUED panel at the planned start, or, a seam or the evicted extent overlapping it, an
EMERGENCY GAP up to the clear point furthest ahead. The clear point of a seam of the list is its end plus its margin, that of the evicted
extent its end. -/
def Obligations.CommitRuleChoosesTheNextItem : Prop :=
  ∀ (s : State) (start : Word),
    (∀ l, s.lay.laying = some l → start = l.flatStart + word32 l.item.flatLen) →
    (s.lay.laying = none → start = s.pos.ch0.lu + word32 s.conf.commitLead) →
    (s.lay.next.isSome = true → commitRule s = s)
    ∧ (∀ r id length margin h, s.lay.next = none → s.msg.delayed = [⟨r, id, .seamSlot length margin, none, h⟩] →
        ∃ used, (commitRule s).lay.next = some ⟨.gap ⟨.planned r id, length.toNat + 2 * margin.toNat, used⟩, start⟩
          ∧ (used = true ↔ overlapping s start (start + word32 (length.toNat + 2 * margin.toNat)) ≠ [])
          ∧ (commitRule s).msg.delayed
              = [⟨r, id, .seamSlot length margin, some (.done (start + margin)), some s.conf.answerHold⟩]
          ∧ (commitRule s).lay.queued = s.lay.queued)
    ∧ (s.lay.next = none → s.msg.delayed = [] → s.lay.queued = [] → commitRule s = s)
    ∧ (∀ x rest, s.lay.next = none → s.msg.delayed = [] → s.lay.queued = x :: rest →
        overlapping s start (start + word32 x.lf) = [] →
        (commitRule s).lay = { s.lay with next := some ⟨.panel x, start⟩, queued := rest }
          ∧ (commitRule s).pos.watches = s.pos.watches ++ [⟨.flat, start, .itemStart⟩])
    ∧ (∀ x rest c cs, s.lay.next = none → s.msg.delayed = [] → s.lay.queued = x :: rest →
        overlapping s start (start + word32 x.lf) = c :: cs →
        (commitRule s).lay
          = { s.lay with next := some ⟨.gap ⟨.emergency, (furthest c cs - start).toNat, true⟩, start⟩ })
    ∧ (∀ a b c, c ∈ overlapping s a b ↔
        (∃ e ∈ s.lay.seams, rangesOverlap e.a (e.a + e.length) a b = true ∧ c = e.a + e.length + e.margin)
          ∨ ∃ r, s.lay.evicted = some r ∧ rangesOverlap r.start r.stop a b = true ∧ c = r.stop)

/-- A NEXT item whose flat start is reached becomes LAYING at the pleated position of that moment with its counters at 0, HALT set on a
panel while HALTED, the mark at its start, its end and its first stroke point or step end watched and its PANEL PASS START queued, with the
pleated length modulo 2^32 for a GAP that is longer (log 45, the model's choice). The LAYING item ends when its flat extent is fed: a panel
cut short in a FOLDED step takes PLEAT, its PANEL PASS END is queued, its slot's in-use count falls by one, and the take-up error is 0
through the RUNOUT. The END's outcome and verdict bytes are those of none (log 30, the model's reading). -/
def Obligations.ItemsStartAndEnd : Prop :=
  (∀ (s : State) (n : NextItem) (w : Word), s.lay.next = some n → s.lay.laying = none →
     ∃ l, (deliver ⟨.flat, w, .itemStart⟩ s).lay.laying = some l
       ∧ l = ⟨l.item, n.flatStart, s.pos.ch1.lu, 0, 0, 0, false, false⟩
       ∧ (s.stn ≠ .halted → l.item = n.item)
       ∧ (∀ x, s.stn = .halted → n.item = .panel x → l.item = .panel { x with flags := { x.flags with halt := true } })
       ∧ (∀ g, n.item = .gap g → l.item = .gap g)
       ∧ (deliver ⟨.flat, w, .itemStart⟩ s).lay.mark = some n.flatStart ∧ (deliver ⟨.flat, w, .itemStart⟩ s).lay.error = 0
       ∧ ⟨.flat, n.flatStart + word32 n.item.flatLen, .itemEnd⟩ ∈ (deliver ⟨.flat, w, .itemStart⟩ s).pos.watches
       ∧ (∀ x g r, n.item = .panel x → ((s.slot x.slot).geoms x.grade)[0]? = some g → r = (s.slot x.slot).record 0 →
           ⟨.pleated, s.pos.ch1.lu
               + word32 (if g.k = 0 then r.repeats.toNat * g.p else if g.spp = 2 then g.p / 2 else g.p), .cascade⟩
             ∈ (deliver ⟨.flat, w, .itemStart⟩ s).pos.watches)
       ∧ (s.msg.queue.length ≤ 10 →
           ⟨.passStart
             { isGap := l.item.isGap, id := half16 l.item.id, start := s.pos.ch1.lu, length := word32 l.item.pleatedLen
               slot := match l.item with
                 | .panel x => BitVec.ofNat 8 x.slot
                 | .gap _ => 0
               grade := match l.item with
                 | .panel x => BitVec.ofNat 8 x.grade
                 | .gap _ => 0
               flags := l.item.flags }, 0, .waiting⟩ ∈ (deliver ⟨.flat, w, .itemStart⟩ s).msg.queue))
  ∧ (∀ (s : State) (l : LayingItem) (w : Word), s.lay.laying = some l →
     (deliver ⟨.flat, w, .itemEnd⟩ s).lay.laying = none ∧ (deliver ⟨.flat, w, .itemEnd⟩ s).lay.error = 0
     ∧ (∀ x ∈ (deliver ⟨.flat, w, .itemEnd⟩ s).pos.watches, x.event ≠ .cascade)
     ∧ (∀ x, l.item = .panel x → x.slot < 16 →
         ((deliver ⟨.flat, w, .itemEnd⟩ s).slot x.slot).inUse = (s.slot x.slot).inUse - 1
         ∧ (s.msg.room = true → ⟨.passEnd ⟨false, half16 x.id,
             { x.flags.ofPanel with pleat := x.flags.pleat || (match stepInForce s with
               | some (g, _) => decide (g.k ≠ 0)
               | none => false) }, .none, .none⟩, 0, .waiting⟩ ∈ (deliver ⟨.flat, w, .itemEnd⟩ s).msg.queue))
     ∧ (∀ g, l.item = .gap g → s.msg.room = true →
         (deliver ⟨.flat, w, .itemEnd⟩ s).slots = s.slots
         ∧ ⟨.passEnd ⟨true, 0, { PanelFlags.none with used := g.used, emergency := g.origin.isEmergency }, .none, .none⟩, 0, .waiting⟩
           ∈ (deliver ⟨.flat, w, .itemEnd⟩ s).msg.queue))

/-- A stroke point: X advances by F / spp and E is formed anew; outside HALTED, with no stroke in flight, a stroke is given on the output
the point names, its pulse begun anew while an earlier one there still runs (log 44, the model's choice); with one in flight PLEAT is set
and none is given; in HALTED none is given. The counters move on in every case. An error above the slip limit sets the slip mark and PLEAT
and raises PLEAT SLIP, once a panel; an overrun sets the overrun mark and raises STROKE OVERRUN, once a panel. The end of a PLAIN step
advances X by its length and the step counter, and gives no stroke. The watch of the next stroke point or step end is set, none when the
step counter has reached the step count. -/
def Obligations.StrokePointsAreTaken : Prop :=
  (∀ (s t : State) (l : LayingItem) (x : Panel) (g : Geom) (r : StepRec) (mark w : Word),
    s.lay.laying = some l → l.item = .panel x → stepInForce s = some (g, r) → g.k ≠ 0 → s.lay.mark = some mark →
    t = deliver ⟨.pleated, w, .cascade⟩ s →
    t.lay.mark = some (mark + word32 (g.f / g.spp)) ∧ t.lay.error = sdiff s.pos.ch0.lu (mark + word32 (g.f / g.spp))
    ∧ (∃ l', t.lay.laying = some l' ∧ l'.flatStart = l.flatStart ∧ l'.pleatedStart = l.pleatedStart
        ∧ (l.stroke + 1 < g.spp → l'.stroke = l.stroke + 1 ∧ l'.pleat = l.pleat ∧ l'.step = l.step)
        ∧ (g.spp ≤ l.stroke + 1 → l.pleat + 1 < r.repeats.toNat → l'.stroke = 0 ∧ l'.pleat = l.pleat + 1 ∧ l'.step = l.step)
        ∧ (g.spp ≤ l.stroke + 1 → r.repeats.toNat ≤ l.pleat + 1 → l'.stroke = 0 ∧ l'.pleat = 0 ∧ l'.step = l.step + 1)
        ∧ (s.stn ≠ .halted → s.lay.inFlight = true → ∃ y, l'.item = .panel y ∧ y.flags.pleat = true)
        ∧ (∀ slip late : Bool,
            slip = (!l.slipMark && decide (s.conf.slipLimit < (sdiff s.pos.ch0.lu (mark + word32 (g.f / g.spp))).natAbs)) →
            late = (decide (s.stn ≠ .halted) && s.lay.inFlight) →
            l'.item = .panel { x with flags := { x.flags with pleat := x.flags.pleat || slip || late } }
            ∧ l'.slipMark = (l.slipMark || slip) ∧ l'.overrunMark = (l.overrunMark || late)
            ∧ t.stn = s.stn
            ∧ (s.live = true → s.msg.queue.length ≤ 10 →
                (late = true → l.overrunMark = false → t.fault = some ⟨.strokeOverrun, half16 x.id, s.stn⟩)
                ∧ (slip = true → late = false ∨ l.overrunMark = true → t.fault = some ⟨.pleatSlip, half16 x.id, s.stn⟩)
                ∧ (slip = false → late = false ∨ l.overrunMark = true → t.fault = s.fault ∧ t.msg = s.msg)
                ∧ (slip = true → ⟨.fault ⟨.pleatSlip, half16 x.id, s.stn⟩, 0, .waiting⟩ ∈ t.msg.queue)
                ∧ (late = true → l.overrunMark = false →
                    ⟨.fault ⟨.strokeOverrun, half16 x.id, s.stn⟩, 0, .waiting⟩ ∈ t.msg.queue))))
    ∧ (s.stn = .halted → t.lay.inFlight = s.lay.inFlight ∧ t.lay.pulseLeft = s.lay.pulseLeft ∧ t.lay.pulseRight = s.lay.pulseRight)
    ∧ (s.lay.inFlight = true →
        t.lay.inFlight = true ∧ t.lay.bladeTimer = s.lay.bladeTimer ∧ t.lay.pulseLeft = s.lay.pulseLeft
          ∧ t.lay.pulseRight = s.lay.pulseRight)
    ∧ (s.stn ≠ .halted → s.lay.inFlight = false →
        t.lay.inFlight = true ∧ t.lay.bladeTimer = some s.conf.bladeTimeout
        ∧ (g.spp = 2 → l.stroke = 0 → t.lay.pulseLeft = some 5 ∧ t.lay.pulseRight = s.lay.pulseRight)
        ∧ (g.spp = 2 → l.stroke ≠ 0 → t.lay.pulseRight = some 5 ∧ t.lay.pulseLeft = s.lay.pulseLeft)
        ∧ (g.spp ≠ 2 → r.direction = 1 → t.lay.pulseLeft = some 5 ∧ t.lay.pulseRight = s.lay.pulseRight)
        ∧ (g.spp ≠ 2 → r.direction = 2 → t.lay.pulseRight = some 5 ∧ t.lay.pulseLeft = s.lay.pulseLeft)))
  ∧ (∀ (s : State) (l : LayingItem) (x : Panel) (g : Geom) (r : StepRec) (w : Word),
     s.lay.laying = some l → l.item = .panel x → stepInForce s = some (g, r) → g.k = 0 →
     deliver ⟨.pleated, w, .cascade⟩ s = { s with
       lay.mark := s.lay.mark.map (· + word32 (r.repeats.toNat * g.p))
       lay.laying := some { l with pleat := 0, step := l.step + 1 }
       pos.watches := (deliver ⟨.pleated, w, .cascade⟩ s).pos.watches })
  ∧ (∀ (s t : State) (l l' : LayingItem) (x : Panel) (g : Geom) (r : StepRec) (w : Word),
     s.lay.laying = some l → l.item = .panel x → stepInForce s = some (g, r) → t = deliver ⟨.pleated, w, .cascade⟩ s →
     t.lay.laying = some l' →
     (stepInForce t = none → t.pos.watches = s.pos.watches)
     ∧ (∀ (g' : Geom) (r' : StepRec) (base point : Nat), stepInForce t = some (g', r') →
         base = ((List.range l'.step).map fun j =>
           ((s.slot x.slot).record j).repeats.toNat * (((s.slot x.slot).geoms x.grade).getD j ⟨0, 0, 0, 0⟩).p).sum →
         point = (if g'.k = 0 then r'.repeats.toNat * g'.p
           else if g'.spp = 2 ∧ l'.stroke = 0 then l'.pleat * g'.p + g'.p / 2 else (l'.pleat + 1) * g'.p) →
         t.pos.watches = s.pos.watches ++ [⟨.pleated, l.pleatedStart + word32 (base + point), .cascade⟩]))

/-- Each expiry of the feed timer forms the infeed reference: the commanded speed times the feed ratio of the step in force, rounded,
plus the trim, within the infeed limit. -/
def Obligations.FeedTimerFormsTheInfeed : Prop :=
  ∀ (s : State) (vIn : Nat) (trim : Int), s.lay.feedTimer.isSome = true →
    (∀ g r, stepInForce s = some (g, r) → g.k ≠ 0 →
      vIn = (s.spd.fine / 100 * g.f + g.p / 2) / g.p
        ∧ trim = clampInt (-((vIn / 50 : Nat) : Int)) ((vIn / 50 : Nat) : Int) ((-s.lay.error).tdiv 16)) →
    ((∀ g r, stepInForce s = some (g, r) → g.k = 0) → vIn = s.spd.fine / 100 ∧ trim = 0) →
    exec .feedTimerExpiry s = .next { s with
      lay.feedTimer := some 10, lay.trim := trim, lay.infeedRef := (clampInt 0 s.lay.infeedLimit (vIn + trim)).toNat }

/-- The blade home input ends a stroke in flight, once each time it becomes active; its release makes the level inactive alone. The blade
home timer with a stroke still in flight is BLADE JAM, which halts; a stroke pulse ends on its own output. -/
def Obligations.BladeAndPulsesEnd : Prop :=
  ∀ s : State,
    (∀ released n, s.isRole .head = true → s.port.input3 = false ∨ 3 ≤ released → 3 ≤ n →
      exec (.bladeHomeBecomesActive ⟨released, n, []⟩) s = .next { s with
        port.input3 := true, lay.inFlight := false, lay.bladeTimer := none })
    ∧ (∀ released n, s.port.input3 = true → released < 3 → exec (.bladeHomeBecomesActive ⟨released, n, []⟩) s = .next s)
    ∧ (∀ released n, s.isRole .head = true → 3 ≤ released → n < 3 →
        exec (.bladeHomeBecomesActive ⟨released, n, []⟩) s = .next { s with port.input3 := false })
    ∧ (s.lay.bladeTimer.isSome = true → s.lay.inFlight = false → exec .bladeHomeTimerExpiry s = .next { s with lay.bladeTimer := none })
    ∧ (s.lay.bladeTimer.isSome = true → s.lay.inFlight = true → s.live = true → ∃ t, exec .bladeHomeTimerExpiry s = .next t
      ∧ t.stn = .halted ∧ t.lay.bladeTimer = none ∧ t.lay.inFlight = true ∧ t.ctl.entryClear = s.ctl.lastClear
      ∧ (s.stn ≠ .halted → t.link.tx = .sendingStop ∧ t.ctl.quiet = some 500) ∧ (s.stn = .halted → t.link = s.link)
      ∧ (s.haltsQuietly → s.msg.queue.length ≤ 6 → t.fault = some ⟨.bladeJam, half16 s.layingId, s.stn⟩))
    ∧ exec (.strokePulseEnd .left) s = .next { s with lay.pulseLeft := none }
    ∧ exec (.strokePulseEnd .right) s = .next { s with lay.pulseRight := none }

/-! ## The Supply Unit -/

/-- ROLL LOAD: an arm that is RUNNING, LOADING or LOADED refuses ARM BUSY, a length of 0 or above 60,000 is BAD LENGTH, and else the arm
is LOADING with the roll and its threading timer while the request is delayed and answered WAIT. A LOADING arm becomes LOADED when its
ready input becomes active, RUNNING at once with no arm RUNNING, and its ROLL LOAD is DONE; when its threading timer expires first it is
EMPTY and the ROLL LOAD is NOT THREADED. -/
def Obligations.RollsAreLoaded : Prop :=
  (∀ (s : State) (sender : Station) (p : List Byte) (r : RequestIn) (armByte : Byte) (roll length : Half) (n : ArmName),
     s.live = true → s.asked .rollLoad sender p r → s.serves .rollLoad sender r → r.body = .rollLoad armByte roll length →
     n = (if armByte.getLsbD 0 then .b else .a) →
     ((s.sup.arm n).state = .running ∨ (s.sup.arm n).state = .loading ∨ (s.sup.arm n).state = .loaded →
       ∃ t, exec (.rollLoad sender p) s = .next t ∧ t = { s with link.latch := none, msg := t.msg } ∧ s.msg.answersOnly t.msg
         ∧ t.msg.gives ⟨sender, r.id, .rollLoad, .refused .armBusy 0 0⟩)
     ∧ ((s.sup.arm n).state = .empty ∨ (s.sup.arm n).state = .expired → length.toNat = 0 ∨ 60000 < length.toNat →
       ∃ t, exec (.rollLoad sender p) s = .next t ∧ t = { s with link.latch := none, msg := t.msg } ∧ s.msg.answersOnly t.msg
         ∧ t.msg.gives ⟨sender, r.id, .rollLoad, .refused .badLength 0 0⟩)
     ∧ ((s.sup.arm n).state = .empty ∨ (s.sup.arm n).state = .expired → 1 ≤ length.toNat → length.toNat ≤ 60000 →
       ∃ t, exec (.rollLoad sender p) s = .next t ∧ t = { s with link.latch := none, msg := t.msg, sup := t.sup }
         ∧ (t.sup.arm n).state = .loading ∧ (t.sup.arm n).roll = some roll ∧ (t.sup.arm n).loaded = length.toNat * 10000
         ∧ (t.sup.arm n).threading = some 60000 ∧ t.sup.arm (otherOf n) = s.sup.arm (otherOf n)
         ∧ t.sup.splice = s.sup.splice ∧ t.sup.rollTimer = some 250
         ∧ t.msg.delayed = s.msg.delayed ++ [⟨sender, r.id, .rollLoad armByte roll length, none, none⟩]
         ∧ (t.msg.hasKind 4 = true ∨ t.msg.heldRollState.isSome = true)
         ∧ (s.msg.room = true → t.msg.copyWaits (.answer ⟨r.id, sender, .rollLoad, .wait⟩) = true)))
  ∧ (∀ (s : State) (n : ArmName) (released samples : Nat) (d : Delayed),
     (s.input (if n = .a then 3 else 4) = true → released < 3 → exec (.armReadyBecomesActive n ⟨released, samples, []⟩) s = .next s)
     ∧ (s.isRole .supply = true → 3 ≤ released → samples < 3 → exec (.armReadyBecomesActive n ⟨released, samples, []⟩) s
         = .next { s with
           port.input3 := if n = .a then false else s.port.input3, port.input4 := if n = .a then s.port.input4 else false })
     ∧ (s.isRole .supply = true → (s.sup.arm n).state = .loading → s.msg.delayed = [d] → d.result = none → d.body.code = .rollLoad →
     (s.input (if n = .a then 3 else 4) = false ∨ 3 ≤ released → 3 ≤ samples →
       ∃ t, exec (.armReadyBecomesActive n ⟨released, samples, []⟩) s = .next t
       ∧ t = { s with sup := t.sup, msg := t.msg, port := t.port }
       ∧ (∀ k, t.input k = (s.input k || decide (k = if n = .a then 3 else 4)))
       ∧ (t.sup.arm n).remaining = (s.sup.arm n).loaded ∧ (t.sup.arm n).roll = (s.sup.arm n).roll ∧ (t.sup.arm n).threading = none
       ∧ (s.sup.running = none → (t.sup.arm n).state = .running ∧ t.sup.clutch n = true)
       ∧ (s.sup.running ≠ none → (t.sup.arm n).state = .loaded ∧ t.sup.clutch n = false)
       ∧ t.sup.arm (otherOf n) = s.sup.arm (otherOf n)
       ∧ t.msg.delayed = [{ d with result := some (.done 0), hold := some s.conf.answerHold }])
     ∧ ((s.sup.arm n).threading.isSome = true → ∃ t, exec (.threadingTimerExpiry n) s = .next t
       ∧ t = { s with sup := t.sup, msg := t.msg }
       ∧ (t.sup.arm n).state = .empty ∧ (t.sup.arm n).roll = none ∧ (t.sup.arm n).threading = none
       ∧ t.sup.arm (otherOf n) = s.sup.arm (otherOf n)
       ∧ t.msg.delayed = [{ d with result := some (.refused .notThreaded 0 0), hold := some s.conf.answerHold }])))

/-- A festoon report: a sound one sets C to 100 lu a millimetre and the condition GOOD, and below the empty limit raises FESTOON EMPTY once,
which halts; a faulty one turns GOOD to HOLDING. Either restarts the channel's staleness timer. A FESTOON_READING at a station that is not
the SUPPLY, or one that completes no festoon report, moves the receiver alone and delivers nothing (log 26, the model's reading). The
festoon hold timer: the condition is LOST, C is kept (log 19, the model's reading), FESTOON SENSOR LOST is recorded, and RUNNING becomes
STOPPING. -/
def Obligations.FestoonIsFollowed : Prop :=
  (∀ (s : State) (burst : SensorBurst) (r : SensorReport) (c : Nat), s.isRole .supply = true →
     s.heardReport burst = some r → r.channel = 0 → c = (clampInt 0 3276700 (reportValue r * 100)).toNat →
     ∃ t, exec (.festoonReading burst) s = .next t ∧ t.staleTimer 0 = some 500 ∧ t.port.report = none
       ∧ t.sup.armA = s.sup.armA ∧ t.sup.armB = s.sup.armB
       ∧ t.sup.splice = s.sup.splice
       ∧ (r.status = 0 → t.sup.content = c ∧ t.sup.festoon = .good ∧ t.sup.festoonHold = none
           ∧ (s.conf.emptyLimit ≤ c → t.sup.emptyMark = false ∧ t.stn = s.stn ∧ t.fault = s.fault)
           ∧ ((c : Int) < s.conf.emptyLimit → s.stn = .listen ∨ s.stn = .ready ∨ s.sup.emptyMark = true →
               t.sup.emptyMark = s.sup.emptyMark ∧ t.stn = s.stn ∧ t.fault = s.fault)
           ∧ ((c : Int) < s.conf.emptyLimit → s.stn = .running ∨ s.stn = .stopping ∨ s.stn = .halted → s.sup.emptyMark = false →
               t.sup.emptyMark = true ∧ t.stn = .halted ∧ t.ctl.entryClear = s.ctl.lastClear
               ∧ (s.haltsQuietly → s.msg.queue.length ≤ 6 →
                   t.fault = some ⟨.festoonEmpty, half16 (clampInt 0 65535 (reportValue r)).toNat, s.stn⟩)))
       ∧ (r.status ≠ 0 → t.stn = s.stn ∧ t.sup.content = s.sup.content ∧ t.sup.emptyMark = s.sup.emptyMark
           ∧ (s.sup.festoon = .good → t.sup.festoon = .holding ∧ t.sup.festoonHold = some 500)
           ∧ (s.sup.festoon ≠ .good → t.sup = s.sup)))
  ∧ (∀ (s : State) (burst : SensorBurst), s.isRole .supply = false ∨ s.heardReport burst = none →
     exec (.festoonReading burst) s = .next (hearSensor burst s))
  ∧ (∀ s : State, s.live = true → s.sup.festoonHold.isSome = true → s.port.eStop = false → s.port.webBreak = false →
     ∃ t, exec .festoonHoldTimerExpiry s = .next t
       ∧ t.sup.festoon = .lost ∧ t.sup.festoonHold = none ∧ t.sup.content = s.sup.content
       ∧ (s.msg.queue.length ≤ 10 → t.fault = some ⟨.festoonSensorLost, 0, s.stn⟩)
       ∧ (s.stn ≠ .running → t.stn = s.stn)
       ∧ (s.stn = .running → t.stn = if s.atRest then (if s.ctl.consoleHeard && s.ctl.neighbourHeard then .ready else .listen)
           else .stopping))

/-- The unwind reference formed at each expiry of the supply timer: the HEAD's infeed speed plus the festoon correction, within the
unwind max; in PRESSING a fine reference falling by the splice stop decel; in HALTED none. In PRESSING with the measured speed at 0 each
expiry of the supply timer puts the brake on and, RUNNING, fires an unfired press (log 17, the model's choice of the event); outside
RUNNING, or with the press fired already, the press stays as it is. -/
def Obligations.SupplyTimerFormsTheUnwind : Prop :=
  (∀ (s : State) (corr : Int), s.sup.supplyTimer.isSome = true →
     ∃ t, exec .supplyTimerExpiry s = .next t
       ∧ t.sup.supplyTimer = some 10 ∧ t.sup.content = s.sup.content ∧ t.sup.offset = s.sup.offset
       ∧ (s.stn = .halted → t.sup.unwindRef = s.sup.unwindRef ∧ t.sup.splice = s.sup.splice ∧ t.stn = .halted)
       ∧ (s.stn = .listen → t.sup.splice = s.sup.splice)
       ∧ (s.stn ≠ .halted → t.sup.splice ≠ .pressing →
           corr = (if s.sup.festoon = .noReading ∨ s.sup.festoon = .lost then 0
             else clampInt (-1000) (if s.stn = .running then 1000 else 0)
               (((if t.sup.splice = .filling ∨ t.sup.splice = .armed then s.conf.fillTarget else s.conf.runTarget : Nat)
                 - (s.sup.content : Int)).tdiv 100)) →
           t.sup.unwindRef = (clampInt 0 s.conf.unwindMax (s.sup.vHead + corr)).toNat)
       ∧ (s.stn ≠ .halted → t.sup.splice = .pressing → ∀ fine,
           fine = (if s.sup.splice = .pressing then s.sup.fineUnwind else 100 * s.sup.unwindRef) - s.conf.spliceDecel →
           t.sup.fineUnwind = fine ∧ t.sup.unwindRef = fine / 100))
  ∧ (∀ s : State, s.sup.supplyTimer.isSome = true → s.stn = .running → s.sup.splice = .pressing → s.pos.measured = 0 →
     s.sup.pressFire = false → exec .supplyTimerExpiry s = .next { s with
       sup.supplyTimer := some 10, sup.brake := true, sup.pressFire := true, sup.pressTimer := some s.conf.pressTimeout
       sup.fineUnwind := s.sup.fineUnwind - s.conf.spliceDecel, sup.unwindRef := (s.sup.fineUnwind - s.conf.spliceDecel) / 100 })
  ∧ (∀ s : State, s.sup.supplyTimer.isSome = true → s.sup.splice = .pressing → s.pos.measured = 0 →
     s.stn ≠ .running ∨ s.sup.pressFire = true →
     ∃ t, exec .supplyTimerExpiry s = .next t ∧ t.sup.brake = true ∧ t.sup.splice = .pressing
       ∧ t.sup.pressFire = s.sup.pressFire ∧ t.sup.pressTimer = s.sup.pressTimer)

/-- The splice sequence as the supply timer evaluates it in READY, RUNNING and STOPPING: an emergency presses from every state before
PRESSING, in RUN after the threshold test, which sends its SEAM SLOT in the same evaluation (that elsewhere the emergency comes first is log
18, the model's choice); else RUN asks for a slot at the threshold with a spare loaded, and without one stays RUN and raises NO SPARE ROLL
with the roll id once a roll, by the arm's mark, REQUESTING asks again, FILLING arms, the stop trigger presses and ACCELERATING ends within
a hundredth of the capacity of the run target, with the tests of RUN from the next evaluation on (log 48, the model's choice). In LOST and
NO READING no content is used, so FILLING does not arm and ACCELERATING goes on (log 19, the model's choice). -/
def Obligations.SpliceSequenceIsEvaluated : Prop :=
  ∀ (s : State) (n : ArmName) (rem : Nat) (spare emergency : Bool) (stop : Nat),
    s.sup.supplyTimer.isSome = true → s.role = some .supply → s.stn = .ready ∨ s.stn = .running ∨ s.stn = .stopping →
    s.sup.running = some n → rem = (s.sup.arm n).remaining → spare = decide ((s.sup.arm (otherOf n)).state = .loaded) →
    emergency = (spare && decide (rem ≤ s.conf.runoutReserve)) →
    stop = (5 * s.pos.measured * s.pos.measured + s.conf.spliceDecel - 1) / s.conf.spliceDecel →
    ∃ t, exec .supplyTimerExpiry s = .next t
      ∧ (emergency = true → s.sup.splice ≠ .pressing → s.sup.splice ≠ .accelerating →
          t.sup.splice = .pressing ∧ t.sup.emergency = true ∧ t.sup.fpos = none
          ∧ (s.sup.splice = .run → rem ≤ s.conf.requestThreshold → s.msg.pendings.length < 4 →
              t.msg.nextId = s.msg.nextId + 1
              ∧ t.msg.pendings = s.msg.pendings ++ [⟨s.msg.freeEntry, s.msg.nextId, s.neighbour,
                  .seamSlot (word32 s.conf.seamLength) (word32 s.conf.slotMargin), 1, .supplyUnit, some s.conf.repeatInterval⟩])
          ∧ (s.sup.splice ≠ .run ∨ s.conf.requestThreshold < rem →
              t.msg.nextId = s.msg.nextId ∧ t.msg.pendings = s.msg.pendings))
      ∧ (emergency = false → s.sup.splice = .run → s.conf.requestThreshold < rem → t.sup.splice = .run)
      ∧ (emergency = false → s.sup.splice = .run → rem ≤ s.conf.requestThreshold → spare = false →
          t.sup.splice = .run ∧ (t.sup.arm n).noSpare = true
          ∧ (∀ id, (s.sup.arm n).noSpare = false → (s.sup.arm n).roll = some id → s.msg.room = true →
              ⟨.fault ⟨.noSpareRoll, id, s.stn⟩, 0, .waiting⟩ ∈ t.msg.queue
              ∧ (s.stn ≠ .stopping → t.msg = s.msg.place (.fault ⟨.noSpareRoll, id, s.stn⟩))
              ∧ (s.stn ≠ .stopping ∨ (s.port.eStop = false ∧ s.port.webBreak = false) →
                  t.fault = some ⟨.noSpareRoll, id, s.stn⟩))
          ∧ ((s.sup.arm n).noSpare = true →
              (s.stn ≠ .stopping → t.msg = s.msg)
              ∧ (s.stn ≠ .stopping ∨ (s.port.eStop = false ∧ s.port.webBreak = false) → t.fault = s.fault)))
      ∧ ((emergency = false ∧ s.sup.splice = .run ∧ rem ≤ s.conf.requestThreshold ∧ spare = true)
            ∨ (emergency = false ∧ s.sup.splice = .requesting ∧ s.sup.outstanding = none) →
          t.sup.splice = .requesting
          ∧ (s.msg.pendings.length < 4 → t.sup.outstanding = some s.msg.freeEntry ∧ t.msg.nextId = s.msg.nextId + 1
              ∧ t.msg.pendings = s.msg.pendings ++ [⟨s.msg.freeEntry, s.msg.nextId, s.neighbour,
                  .seamSlot (word32 s.conf.seamLength) (word32 s.conf.slotMargin), 1, .supplyUnit, some s.conf.repeatInterval⟩]))
      ∧ (emergency = false → s.sup.splice = .noSlot → t.sup.splice = .noSlot)
      ∧ (∀ f, emergency = false → s.sup.splice = .filling ∨ s.sup.splice = .armed → s.sup.fpos = some f →
          (sdiff f s.arrival ≤ stop → t.sup.splice = .pressing ∧ t.sup.emergency = false ∧ t.sup.fpos = some f)
          ∧ (stop < sdiff f s.arrival → t.sup.splice =
              if s.sup.splice = .armed ∨ ((s.sup.festoon = .good ∨ s.sup.festoon = .holding)
                ∧ s.conf.fillTarget ≤ s.sup.content + s.conf.festoonCapacity / 100) then .armed else .filling))
      ∧ (s.sup.splice = .accelerating → t.sup.splice =
          if (s.sup.festoon = .good ∨ s.sup.festoon = .holding)
            ∧ ((s.sup.content : Int) - s.conf.runTarget).natAbs ≤ s.conf.festoonCapacity / 100 then .run else .accelerating)

/-- The press done input, becoming active, of a fired press completes the splice: the SEAM is queued, planned when E lies within the slot
margin of Fpos and no emergency, the arms change over, the press goes off and the state is ACCELERATING at the unwind max. Fpos and the
emergency mark are cleared there (log 47, the model's choice). The press timer first: the press goes off, the splice stays PRESSING, and
PRESS TIMEOUT halts. -/
def Obligations.PressEndsOrTimesOut : Prop :=
  (∀ (s : State) (released samples : Nat),
     (s.port.input5 = true → released < 3 → exec (.pressDone ⟨released, samples, []⟩) s = .next s)
     ∧ (s.isRole .supply = true → 3 ≤ released → samples < 3 →
         exec (.pressDone ⟨released, samples, []⟩) s = .next { s with port.input5 := false })
     ∧ (s.isRole .supply = true → s.port.input5 = false ∨ 3 ≤ released → 3 ≤ samples → s.sup.pressFire = false →
         exec (.pressDone ⟨released, samples, []⟩) s = .next { s with port.input5 := true }))
  ∧ (∀ (s : State) (released samples : Nat) (n : ArmName), s.isRole .supply = true →
     s.port.input5 = false ∨ 3 ≤ released → 3 ≤ samples → s.sup.pressFire = true →
     s.sup.running = some n → ∃ t, exec (.pressDone ⟨released, samples, []⟩) s = .next t
       ∧ t.port = { s.port with input5 := true }
       ∧ t.stn = s.stn ∧ t.sup.splice = .accelerating ∧ t.sup.pressFire = false ∧ t.sup.pressTimer = none
       ∧ t.sup.fpos = none ∧ t.sup.emergency = false ∧ t.sup.outstanding = none
       ∧ t.sup.brake = (s.sup.brake && decide (s.stn = .halted))
       ∧ t.sup.arm n = { s.sup.arm n with state := .expired }
       ∧ t.sup.arm (otherOf n) = { s.sup.arm (otherOf n) with
           state := .running, noSpare := false, remaining := (s.sup.arm (otherOf n)).loaded }
       ∧ t.spd.ownValue = s.conf.unwindMax ∧ t.spd.ownReason = .unwindMax
       ∧ (s.msg.room = true → ∃ planned : Bool,
           ⟨.seam ⟨s.arrival, word32 s.conf.seamLength, !planned, false, word32 s.conf.slotMargin⟩, 0, .waiting⟩ ∈ t.msg.queue
           ∧ (planned = true ↔ s.sup.emergency = false
               ∧ ∃ f, s.sup.fpos = some f ∧ (sdiff s.arrival f).natAbs ≤ s.conf.slotMargin)))
  ∧ (∀ s : State, s.live = true → s.sup.pressTimer.isSome = true → ∃ t, exec .pressTimerExpiry s = .next t
     ∧ t.stn = .halted ∧ t.sup.pressFire = false ∧ t.sup.pressTimer = none ∧ t.sup.splice = s.sup.splice
     ∧ t.ctl.entryClear = s.ctl.lastClear ∧ (s.stn ≠ .halted → t.link.tx = .sendingStop ∧ t.ctl.quiet = some 500)
     ∧ (s.haltsQuietly → s.msg.queue.length ≤ 6 → ∃ d, t.fault = some ⟨.pressTimeout, half16 d, s.stn⟩
         ∧ (s.sup.running = some .a → d = s.sup.armB.rollId) ∧ (s.sup.running = some .b → d = s.sup.armA.rollId)))

/-! ## The Setting Unit -/

/-- SETPOINT: a zone the chest has not is BAD ZONE; else the temperature clamped to 0 and the hard limit less 100 is stored, a zone
turned off shuts, the vent follows a changed setpoint, and the answer is DONE with the setpoint in force. -/
def Obligations.SetpointIsClampedAndStored : Prop :=
  ∀ (s : State) (sender : Station) (p : List Byte) (r : RequestIn) (zone : Byte) (temp : Half) (v : Int),
    s.asked .setpoint sender p r → s.serves .setpoint sender r → r.body = .setpoint zone temp →
    v = clampInt 0 (s.conf.hardLimit - 100) temp.toInt →
    (s.set.zones.length ≤ zone.toNat → ∃ t, exec (.setpoint sender p) s = .next t
      ∧ t = { s with link.latch := none, msg := t.msg } ∧ s.msg.answersOnly t.msg
      ∧ t.msg.gives ⟨sender, r.id, .setpoint, .refused .badZone 0 0⟩)
    ∧ (∀ z, s.set.zones[zone.toNat]? = some z → ∃ t z', exec (.setpoint sender p) s = .next t
      ∧ t.set.zones = s.set.zones.set zone.toNat z' ∧ z' = { z with setpoint := v, integral := z'.integral, duty := z'.duty }
      ∧ (v = 0 → z.setpoint ≠ 0 → z'.integral = 0 ∧ z'.duty = 0)
      ∧ (v ≠ 0 ∨ z.setpoint = 0 → z'.integral = z.integral ∧ z'.duty = z.duty)
      ∧ t.stn = s.stn ∧ t.set.overMark = s.set.overMark ∧ t.fault = s.fault
      ∧ (z.setpoint ≠ v → (t.spd.ownValue, t.spd.ownReason) = chestCeiling t ∧ t.ventFollows s.set.vent)
      ∧ (z.setpoint = v → t.set.vent = s.set.vent)
      ∧ t.msg.gives ⟨sender, r.id, .setpoint, .done (BitVec.ofInt 32 v)⟩)

/-- A good report on a zone's channel: the reading and GOOD; above the hard limit every zone shuts and, its mark clear, OVERTEMP halts,
recorded with the zone index as its detail; else a zone in use makes a control step outside HALTED. A faulty report turns a GOOD zone to
HOLDING for 2,000 ms and else changes no zone; the end of that time loses the sensor: no reading, duty and integral 0, SENSOR LOST recorded,
the station state as it was. The vent follows the over-band test at each of them. -/
def Obligations.ZonesFollowTheirSensors : Prop :=
  (∀ (s : State) (burst : SensorBurst) (r : SensorReport) (i : Nat) (z : Zone) (v e : Int),
     s.isRole .setter = true → s.heardReport burst = some r → r.channel.toNat = i → i < 8 → s.set.zones[i]? = some z →
     r.status = 0 → v = reportValue r → -500 ≤ v → v ≤ 2500 → e = z.setpoint - v →
     ∃ t z', exec (.zoneReport burst) s = .next t
       ∧ t.port.report = none ∧ t.ventFollows s.set.vent ∧ t.set.zones[i]? = some z' ∧ t.staleTimer i = some 500
       ∧ t.set.zones.length = s.set.zones.length
       ∧ z'.reading = some v ∧ z'.cond = .good ∧ z'.hold = none ∧ z'.setpoint = z.setpoint
       ∧ (s.conf.hardLimit < v → (∀ y ∈ t.set.zones, y.duty = 0 ∧ y.integral = 0) ∧ t.set.overMark = true
           ∧ (s.set.overMark = false → t.stn = .halted ∧ t.set.vent = true ∧ t.ctl.entryClear = s.ctl.lastClear
               ∧ (s.haltsQuietly → s.msg.queue.length ≤ 6 →
                   t.fault = some ⟨.overtemp, half16 i, s.stn⟩ ∧ ⟨.fault ⟨.overtemp, half16 i, s.stn⟩, 0, .waiting⟩ ∈ t.msg.queue))
           ∧ (s.set.overMark = true → t.stn = s.stn ∧ t.fault = s.fault))
       ∧ (v ≤ s.conf.hardLimit → t.stn = s.stn ∧ t.fault = s.fault ∧ t.set.overMark = s.set.overMark
           ∧ (∀ k, k ≠ i → t.set.zones[k]? = s.set.zones[k]?)
           ∧ (s.stn = .halted ∨ z.setpoint ≤ 0 → z'.integral = z.integral ∧ z'.duty = z.duty)
           ∧ (s.stn ≠ .halted → 0 < z.setpoint →
               z'.integral = (if (z.duty = 1023 ∧ 0 < e) ∨ (z.duty = 0 ∧ e < 0) then z.integral
                 else clampInt (-(s.conf.integralLimit : Int)) s.conf.integralLimit (z.integral + e))
               ∧ z'.duty = (clampInt 0 1023 ((s.conf.kp * e + s.conf.ki * z'.integral).tdiv 64)).toNat))
       ∧ (t.spd.ownValue, t.spd.ownReason) = chestCeiling t)
  ∧ (∀ (s : State) (i : Nat) (z : Zone), s.isRole .setter = true → i < 8 → s.set.zones[i]? = some z →
     (∀ (burst : SensorBurst) (r : SensorReport), s.heardReport burst = some r → r.channel.toNat = i →
       r.status ≠ 0 ∨ reportValue r < -500 ∨ 2500 < reportValue r →
       ∃ t, exec (.zoneReport burst) s = .next t
         ∧ t.ventFollows s.set.vent ∧ t.stn = s.stn ∧ t.fault = s.fault ∧ t.staleTimer i = some 500
         ∧ t.set.zones = s.set.zones.set i (if z.cond = .good then { z with cond := .holding, hold := some 2000 } else z))
     ∧ (z.hold.isSome = true → ∃ t, exec (.zoneHoldTimerExpiry i) s = .next t ∧ t.ventFollows s.set.vent ∧ t.stn = s.stn
       ∧ t.set.zones = s.set.zones.set i { z with reading := none, cond := .lost, integral := 0, duty := 0, hold := none }
       ∧ (s.msg.room = true → t.fault = some ⟨.sensorLost, half16 i, s.stn⟩)
       ∧ (t.spd.ownValue, t.spd.ownReason) = chestCeiling t
       ∧ (0 < z.setpoint → t.spd.ownValue = 0 ∧ t.spd.ownReason = .sensorLost)))

/-- The dwell requirement of a temperature from the eight points of the dwell table. -/
def Obligations.DwellRequirementInterpolates : Prop :=
  ∀ (s : State) (pts : Nat → DwellPoint) (T : Int), s.conf.dwell = (List.range 8).map pts → dwellValid s.conf.dwell = true →
    (T < (pts 0).temp → dwellRequirement s T = none)
    ∧ ((pts 7).temp ≤ T → dwellRequirement s T = some (pts 7).dwell)
    ∧ (∀ i, i < 7 → (pts i).temp ≤ T → T < (pts (i + 1)).temp → ∃ D, dwellRequirement s T = some D
        ∧ (D : Int) = (pts i).dwell
            - (((pts i).dwell : Int) - (pts (i + 1)).dwell) * (T - (pts i).temp) / ((pts (i + 1)).temp - (pts i).temp)
        ∧ (pts (i + 1)).dwell ≤ D ∧ D ≤ (pts i).dwell ∧ 1 ≤ D)

/-- A sensor channel that has become stale turns a GOOD festoon, or a GOOD zone, to HOLDING and its timer stays stopped; a report that is
dropped delivers nothing and restarts no timer. The receiver counts characters from the first after 300 µs of idle line, in one command or
over several: the fourth completes the report, which is dropped with a stop bit low or a channel above 7; an idle line before that drops
it, and characters that belong to no report are discarded. Outside LISTEN to HALTED it does not run. -/
def Obligations.StaleChannelsAndDroppedReports : Prop :=
  (∀ s : State,
    (∀ c, c < 8 → (s.staleTimer c).isSome = true → ∃ t, exec (.stalenessTimerExpiry c) s = .next t
      ∧ t.staleTimer c = none ∧ (∀ k, k ≠ c → t.staleTimer k = s.staleTimer k) ∧ t.stn = s.stn ∧ t.fault = s.fault
      ∧ (s.isRole .supply = true → c = 0 → s.sup.festoon = .good → t.sup.festoon = .holding ∧ t.sup.festoonHold = some 500)
      ∧ (s.isRole .supply = true → c = 0 → s.sup.festoon ≠ .good → t.sup = s.sup)
      ∧ (s.isRole .supply = true → c ≠ 0 → t.sup = s.sup)
      ∧ (∀ z, s.isRole .setter = true → s.set.zones[c]? = some z →
          t.set.zones = s.set.zones.set c (if z.cond = .good then { z with cond := .holding, hold := some 2000 } else z))
      ∧ (s.isRole .head = true → t = { s with port.staleness := t.port.staleness }))
    ∧ (∀ burst, exec (.sensorReportDropped burst) s = .next { s with port.report := (hearSensor burst s).port.report }))
  ∧ (∀ (s : State) (idle : Nat) (cs : List SensorChar),
     (s.live = false → s.heardReport ⟨idle, cs⟩ = none ∧ hearSensor ⟨idle, cs⟩ s = s)
     ∧ (∀ held, s.live = true → held = (if 300 ≤ idle then some [] else s.port.report) →
         hearSensor ⟨idle, cs⟩ s = { s with port.report := (hearSensor ⟨idle, cs⟩ s).port.report }
         ∧ (held = none → s.heardReport ⟨idle, cs⟩ = none ∧ (hearSensor ⟨idle, cs⟩ s).port.report = none)
         ∧ (∀ old, held = some old →
             ((old ++ cs).length < 4 → s.heardReport ⟨idle, cs⟩ = none ∧ (hearSensor ⟨idle, cs⟩ s).port.report = some (old ++ cs))
             ∧ (∀ c lo hi st rest, old ++ cs = c :: lo :: hi :: st :: rest →
                 (hearSensor ⟨idle, cs⟩ s).port.report = none
                 ∧ s.heardReport ⟨idle, cs⟩
                     = if c.stop && lo.stop && hi.stop && st.stop && decide (c.data.toNat ≤ 7) then
                         some ⟨c.data, lo.data, hi.data, st.data⟩ else none))))

/-! ## The Map Unit -/

/-- A PANEL PASS START that passes the five tests becomes an APPROACHING span at its place in increasing start, with its watch, which fires
at once if the map position has reached it, while UNCAPTURED too (log 32, the model's reading of R62 and R63), and not when the two lie
exactly 2^31 apart (log 46, the model's reading of R57 against R62); one that fails one of the first four is dropped without a fault; with
the map full it is dropped and MAP OVERFLOW raised. A PANEL of id 0 is taken like any other (log 43, the model's choice). A PANEL PASS END
merges its flags into the span of its panel, or into the first GAP span without an END, and marks the END seen; without a span it has no
effect. -/
def Obligations.PassNoticesAreMapped : Prop :=
  (∀ (s : State) (p : List Byte) (l : Latch) (m : PassStartIn) (k : SpanKind),
     s.hears 2 s.neighbour p l → parsePassStart p = some m → m.spanKind = some k →
     (ahead (m.start + m.length + word32 s.conf.chestLength) s.mapPos = false
         ∨ (s.conf.windowAhead ≠ 0 ∧ (s.conf.windowAhead : Int) < sdiff m.start s.mapPos)
         ∨ (m.kind = 0 ∧ ∃ x ∈ s.map.spans, x.isPanel m.id = true) ∨ (∃ x ∈ s.map.spans, x.start = m.start) →
       exec (.panelPassStart s.neighbour p) s = .next { s with link.latch := none })
     ∧ (ahead (m.start + m.length + word32 s.conf.chestLength) s.mapPos = true →
       s.conf.windowAhead = 0 ∨ sdiff m.start s.mapPos ≤ s.conf.windowAhead →
       (m.kind = 0 → ∀ x ∈ s.map.spans, x.isPanel m.id = false) → (∀ x ∈ s.map.spans, x.start ≠ m.start) →
       (s.map.spans.length < 24 → nextDue s = none → ∃ t sp u,
         u = { s with link.latch := none, map.spans := u.map.spans, pos := u.pos }
         ∧ exec (.panelPassStart s.neighbour p) s = .next t
         ∧ (sdiff s.mapPos m.start < 0 → t = u)
         ∧ (0 ≤ sdiff s.mapPos m.start → t = deliver ⟨.map, m.start, .spanEntry m.start⟩ { u with pos := s.pos })
         ∧ (∃ l1 l2, s.map.spans = l1 ++ l2 ∧ u.map.spans = l1 ++ sp :: l2
             ∧ (∀ x ∈ l1, ahead x.start sp.start = false) ∧ ∀ x l3, l2 = x :: l3 → ahead x.start sp.start = true)
         ∧ u.pos = { s.pos with watches := s.pos.watches ++ [⟨.map, m.start, .spanEntry m.start⟩] }
         ∧ u.map.spans.Perm (sp :: s.map.spans) ∧ sp.start = m.start ∧ sp.length = m.length ∧ sp.phase = .approaching
         ∧ sp.endSeen = false ∧ sp.received = m.flags.ofPanel
         ∧ (m.kind = 0 → sp.kind = .panel m.id m.slot m.grade ∧ sp.own = { PanelFlags.none with
             seam := s.map.spans.any fun x => x.isSeam && rangesOverlap x.start x.coverStop m.start (m.start + m.length) })
         ∧ (m.kind = 1 → sp.own = PanelFlags.none ∧ sp.kind = .gap m.flags.emergency (m.flags.used
             || s.map.spans.any fun x => x.isSeam && rangesOverlap x.start x.coverStop m.start (m.start + m.length))))
       ∧ (24 ≤ s.map.spans.length → ∃ t, exec (.panelPassStart s.neighbour p) s = .next t ∧ t.map = s.map ∧ t.pos = s.pos
         ∧ t.stn = s.stn
         ∧ (s.live = true → s.msg.room = true → t.fault = some ⟨.mapOverflow, half16 (if m.kind = 0 then m.id.toNat else 0), s.stn⟩))))
  ∧ (∀ (s : State) (p : List Byte) (l : Latch) (m : PassEndIn) (hit : Span → Bool),
     s.hears 2 s.neighbour p l → parsePassEnd p = some m → m.kind = 0 ∨ m.kind = 1 →
     (∀ x, hit x = if m.kind = 0 then x.isPanel m.id else x.isGap && !x.endSeen) →
     (s.map.spans.any hit = false → exec (.panelPassEnd s.neighbour p) s = .next { s with link.latch := none })
     ∧ (∀ i x, s.map.spans.findIdx? hit = some i → s.map.spans[i]? = some x → ∃ k,
         exec (.panelPassEnd s.neighbour p) s = .next { s with
           link.latch := none
           map.spans := s.map.spans.set i { x with received := x.received.or m.flags.ofPanel, endSeen := true, kind := k } }
         ∧ (m.kind = 0 → k = x.kind) ∧ (∀ e u, x.kind = .gap e u → k = .gap e (u || m.flags.used))))

/-- A SEAM from the source at a SETTER is forwarded at once when it is unplaced, gone, beyond the window, at a taken start or without a
place in the map, the first of these that holds deciding (log 40, the model's choice); else it is mapped at its place in increasing start,
and every span it overlaps takes SEAM or is marked used. A seam whose start the map position has reached enters the chest at once, while
UNCAPTURED too (log 32, the model's reading of R62 and R63), and not when the two lie exactly 2^31 apart (log 46, the model's reading of R57
against R62). -/
def Obligations.SeamsAreMappedOrForwarded : Prop :=
  ∀ (s : State) (p : List Byte) (l : Latch) (m : SeamMsg) (gone window : Bool),
    s.isRole .setter = true → s.hears 3 s.neighbour p l → parseSeam p = some m → s.msg.queue.length ≤ 10 → nextDue s = none →
    gone = !ahead (m.pos + m.length + word32 s.conf.chestLength) s.mapPos →
    window = (decide (s.conf.windowAhead = 0) || decide (sdiff m.pos s.mapPos ≤ s.conf.windowAhead)) →
    (m.unplaced = true ∨ gone = true ∨ window = false →
      exec (.seamAtSetter s.neighbour p) s = .next { s with
        link.latch := none
        msg.queue := s.msg.queue ++ [⟨.seam ⟨m.pos, m.length, m.emergency, m.unplaced, 0⟩, 0, .waiting⟩] })
    ∧ (m.unplaced = false → gone = false → window = true → (∃ x ∈ s.map.spans, x.start = m.pos) →
      exec (.seamAtSetter s.neighbour p) s = .next { s with
        link.latch := none, msg.queue := s.msg.queue ++ [⟨.seam ⟨m.pos, m.length, m.emergency, true, 0⟩, 0, .waiting⟩] })
    ∧ (m.unplaced = false → gone = false → window = true → (∀ x ∈ s.map.spans, x.start ≠ m.pos) → 24 ≤ s.map.spans.length →
      ∃ t, exec (.seamAtSetter s.neighbour p) s = .next t ∧ t.map = s.map ∧ t.fault = some ⟨.mapOverflow, 0, s.stn⟩
        ∧ ⟨.seam ⟨m.pos, m.length, m.emergency, true, 0⟩, 0, .waiting⟩ ∈ t.msg.queue)
    ∧ (m.unplaced = false → gone = false → window = true → (∀ x ∈ s.map.spans, x.start ≠ m.pos) → s.map.spans.length < 24 →
      ∃ t sp u, u = { s with link.latch := none, map.spans := u.map.spans, pos := u.pos }
        ∧ exec (.seamAtSetter s.neighbour p) s = .next t
        ∧ (sdiff s.mapPos m.pos < 0 → t = u)
        ∧ (0 ≤ sdiff s.mapPos m.pos → t = deliver ⟨.map, m.pos, .spanEntry m.pos⟩ { u with pos := s.pos })
        ∧ u.pos = { s.pos with watches := s.pos.watches ++ [⟨.map, m.pos, .spanEntry m.pos⟩] }
        ∧ sp = ⟨.seam m.emergency, m.pos, m.length, PanelFlags.none, PanelFlags.none, false, .approaching⟩
        ∧ u.map.spans.Perm (sp :: s.map.spans.map fun x =>
            if rangesOverlap x.start x.coverStop m.pos sp.coverStop then x.takeSeam else x)
        ∧ (∃ l1 l2, u.map.spans = l1 ++ sp :: l2
            ∧ (∀ x ∈ l1, ahead x.start sp.start = false) ∧ ∀ x l3, l2 = x :: l3 → ahead x.start sp.start = true))

/-- Each expiry of the sample timer takes the lesser of T_low and T_cold in every span in the chest, COLD when T_cold has no value. A span
whose start M reaches is IN CHEST with the speed and the coldest temperature of that moment, takes HALT while HALTED, has its leaving point
watched, and is announced downstream unless this is the line end or the span a SEAM. A span whose leaving point M reaches leaves the map
with NO END if no END was seen: a PANEL with its verdict, a GAP with its used flag, a SEAM as a SEAM notice. The verdict of a panel: OVERSET
above the standstill limit, UNDERSET when too cold or the shortest dwell is below the requirement, else SET; reported behind HALT, SEAM,
PLEAT and NO END. That a panel whose v_peak is 0 is not UNDERSET by its dwell is the model's reading of R163's "the speed term of the test
below is taken as met" (log 39). -/
def Obligations.SpansPassTheChest : Prop :=
  (∀ s : State, s.map.sampleTimer.isSome = true → ∃ t, exec .sampleTimerExpiry s = .next t
     ∧ t = { s with map := t.map } ∧ t.map.sampleTimer = some 100 ∧ t.map.spans.length = s.map.spans.length
     ∧ ∀ (i : Nat) (sp : Span), s.map.spans[i]? = some sp →
         (sp.phase = .approaching → t.map.spans[i]? = some sp)
         ∧ (∀ v tl st, sp.phase = .inChest v tl st → ∃ tl', t.map.spans[i]? = some { sp with phase := .inChest v tl' st }
             ∧ (∀ a b, tl = some a → coldest s = some b → tl' = some (min a b)) ∧ (tl = none ∨ coldest s = none → tl' = none)))
  ∧ (∀ (s : State) (i : Nat) (sp sp' : Span),
     s.map.spans.findIdx? (fun x => x.start == sp.start && decide (x.phase = .approaching)) = some i → s.map.spans[i]? = some sp →
     sp' = { sp with
       phase := .inChest s.pos.measured (coldest s) 0, own := { sp.own with halt := sp.own.halt || decide (s.stn = .halted) } } →
     let t := deliver ⟨.map, sp.start, .spanEntry sp.start⟩ s
     t.map.spans = s.map.spans.set i sp'
     ∧ t.pos.watches = s.pos.watches
         ++ [⟨.map, sp.start + sp.length + word32 s.conf.chestLength, .spanLeave sp.start⟩]
     ∧ (s.conf.lineEnd = true ∨ sp.isSeam = true → t.msg = s.msg)
     ∧ (∀ id slot grade, sp.kind = .panel id slot grade → s.conf.lineEnd = false → s.msg.room = true →
         t.msg = s.msg.place (.passStart ⟨false, id, slot, grade, sp.start, sp.length, sp'.received.or sp'.own⟩))
     ∧ (∀ e u, sp.kind = .gap e u → s.conf.lineEnd = false → s.msg.room = true →
         t.msg = s.msg.place (.passStart ⟨true, 0, 0, 0, sp.start, sp.length,
           { sp'.received.or sp'.own with used := u, emergency := e }⟩)))
  ∧ (∀ (s : State) (i : Nat) (sp sp' : Span) (v : Nat) (tl : Option Int) (st : Nat) (w : Word),
     s.map.spans.findIdx? (fun x => x.start == sp.start && decide (x.phase ≠ .approaching)) = some i → s.map.spans[i]? = some sp →
     sp.phase = .inChest v tl st → sp' = { sp with own := { sp.own with noEnd := sp.own.noEnd || !sp.endSeen } } → s.msg.room = true →
     let t := deliver ⟨.map, w, .spanLeave sp.start⟩ s
     t.map.spans = s.map.spans.eraseIdx i
     ∧ (∀ id slot grade, sp.kind = .panel id slot grade → t.msg = s.msg.place (.passEnd ⟨false, id, sp'.received.or sp'.own,
         verdictOf s v tl st, reportedOf (sp'.received.or sp'.own) (verdictOf s v tl st)⟩))
     ∧ (∀ e u, sp.kind = .gap e u → t.msg = s.msg.place (.passEnd ⟨true, 0,
         { sp'.received.or sp'.own with used := u, emergency := e }, .none, .none⟩))
     ∧ (∀ e, sp.kind = .seam e → t.msg = s.msg.place (.seam ⟨sp.start, sp.length, e, false, 0⟩)))
  ∧ (∀ (s : State) (v : Nat) (tl : Option Int) (st : Nat) (f : PanelFlags) (o : Verdict),
     (s.conf.standstillLimit < st → verdictOf s v tl st = .overset)
     ∧ (st ≤ s.conf.standstillLimit →
         (tl = none ∨ (∃ t, tl = some t ∧ dwellRequirement s t = none)
             ∨ (∃ t d, tl = some t ∧ dwellRequirement s t = some d ∧ v ≠ 0 ∧ s.conf.chestLength / v < d) →
           verdictOf s v tl st = .underset)
         ∧ (∀ t d, tl = some t → dwellRequirement s t = some d → v = 0 ∨ d ≤ s.conf.chestLength / v → verdictOf s v tl st = .set))
     ∧ (f.halt = true → reportedOf f o = .halt)
     ∧ (f.halt = false → f.seam = true → reportedOf f o = .seam)
     ∧ (f.halt = false → f.seam = false → f.pleat = true → reportedOf f o = .pleat)
     ∧ (f.halt = false → f.seam = false → f.pleat = false → f.noEnd = true → reportedOf f o = .noEnd)
     ∧ (f.halt = false → f.seam = false → f.pleat = false → f.noEnd = false →
         (reportedOf f o).code = match o with
           | .none => 0
           | .set => 7
           | .underset => 6
           | .overset => 5))
end

