-- ==== Sys2Proof/Laws/State.lean ====
section
/-! SUPPORT. One lemma for each field that a named update of State leaves alone, and for the field it writes, true by rfl; then what the
shared tests of the pins can answer. -/

namespace Sys2Proof.Machine

@[simp] theorem supersede_stn (f : Frame) (s : State) : (supersede f s).stn = s.stn := rfl
@[simp] theorem supersede_cfg (f : Frame) (s : State) : (supersede f s).cfg = s.cfg := rfl
@[simp] theorem supersede_faultSender (f : Frame) (s : State) : (supersede f s).faultSender = s.faultSender := rfl
@[simp] theorem supersede_fault (f : Frame) (s : State) : (supersede f s).fault = s.fault := rfl
@[simp] theorem supersede_ctl (f : Frame) (s : State) : (supersede f s).ctl = s.ctl := rfl
@[simp] theorem supersede_link (f : Frame) (s : State) : (supersede f s).link = s.link := rfl
@[simp] theorem supersede_pos (f : Frame) (s : State) : (supersede f s).pos = s.pos := rfl
@[simp] theorem supersede_spd (f : Frame) (s : State) : (supersede f s).spd = s.spd := rfl
@[simp] theorem supersede_slots (f : Frame) (s : State) : (supersede f s).slots = s.slots := rfl
@[simp] theorem supersede_lay (f : Frame) (s : State) : (supersede f s).lay = s.lay := rfl
@[simp] theorem supersede_sup (f : Frame) (s : State) : (supersede f s).sup = s.sup := rfl
@[simp] theorem supersede_set (f : Frame) (s : State) : (supersede f s).set = s.set := rfl
@[simp] theorem supersede_map (f : Frame) (s : State) : (supersede f s).map = s.map := rfl
@[simp] theorem supersede_port (f : Frame) (s : State) : (supersede f s).port = s.port := rfl
@[simp] theorem supersede_freeCount (f : Frame) (s : State) : (supersede f s).freeCount = s.freeCount := rfl
@[simp] theorem supersede_pending (f : Frame) (s : State) : (supersede f s).pending = s.pending := rfl

@[simp] theorem setWatch_stn (w : Watch) (s : State) : (setWatch w s).stn = s.stn := rfl
@[simp] theorem setWatch_cfg (w : Watch) (s : State) : (setWatch w s).cfg = s.cfg := rfl
@[simp] theorem setWatch_faultSender (w : Watch) (s : State) : (setWatch w s).faultSender = s.faultSender := rfl
@[simp] theorem setWatch_fault (w : Watch) (s : State) : (setWatch w s).fault = s.fault := rfl
@[simp] theorem setWatch_ctl (w : Watch) (s : State) : (setWatch w s).ctl = s.ctl := rfl
@[simp] theorem setWatch_link (w : Watch) (s : State) : (setWatch w s).link = s.link := rfl
@[simp] theorem setWatch_msg (w : Watch) (s : State) : (setWatch w s).msg = s.msg := rfl
@[simp] theorem setWatch_spd (w : Watch) (s : State) : (setWatch w s).spd = s.spd := rfl
@[simp] theorem setWatch_slots (w : Watch) (s : State) : (setWatch w s).slots = s.slots := rfl
@[simp] theorem setWatch_lay (w : Watch) (s : State) : (setWatch w s).lay = s.lay := rfl
@[simp] theorem setWatch_sup (w : Watch) (s : State) : (setWatch w s).sup = s.sup := rfl
@[simp] theorem setWatch_set (w : Watch) (s : State) : (setWatch w s).set = s.set := rfl
@[simp] theorem setWatch_map (w : Watch) (s : State) : (setWatch w s).map = s.map := rfl
@[simp] theorem setWatch_port (w : Watch) (s : State) : (setWatch w s).port = s.port := rfl
@[simp] theorem setWatch_freeCount (w : Watch) (s : State) : (setWatch w s).freeCount = s.freeCount := rfl
@[simp] theorem setWatch_pending (w : Watch) (s : State) : (setWatch w s).pending = s.pending := rfl

@[simp] theorem dropWatch_stn (w : Watch) (s : State) : (dropWatch w s).stn = s.stn := rfl
@[simp] theorem dropWatch_cfg (w : Watch) (s : State) : (dropWatch w s).cfg = s.cfg := rfl
@[simp] theorem dropWatch_faultSender (w : Watch) (s : State) : (dropWatch w s).faultSender = s.faultSender := rfl
@[simp] theorem dropWatch_fault (w : Watch) (s : State) : (dropWatch w s).fault = s.fault := rfl
@[simp] theorem dropWatch_ctl (w : Watch) (s : State) : (dropWatch w s).ctl = s.ctl := rfl
@[simp] theorem dropWatch_link (w : Watch) (s : State) : (dropWatch w s).link = s.link := rfl
@[simp] theorem dropWatch_msg (w : Watch) (s : State) : (dropWatch w s).msg = s.msg := rfl
@[simp] theorem dropWatch_spd (w : Watch) (s : State) : (dropWatch w s).spd = s.spd := rfl
@[simp] theorem dropWatch_slots (w : Watch) (s : State) : (dropWatch w s).slots = s.slots := rfl
@[simp] theorem dropWatch_lay (w : Watch) (s : State) : (dropWatch w s).lay = s.lay := rfl
@[simp] theorem dropWatch_sup (w : Watch) (s : State) : (dropWatch w s).sup = s.sup := rfl
@[simp] theorem dropWatch_set (w : Watch) (s : State) : (dropWatch w s).set = s.set := rfl
@[simp] theorem dropWatch_map (w : Watch) (s : State) : (dropWatch w s).map = s.map := rfl
@[simp] theorem dropWatch_port (w : Watch) (s : State) : (dropWatch w s).port = s.port := rfl
@[simp] theorem dropWatch_freeCount (w : Watch) (s : State) : (dropWatch w s).freeCount = s.freeCount := rfl
@[simp] theorem dropWatch_pending (w : Watch) (s : State) : (dropWatch w s).pending = s.pending := rfl

@[simp] theorem dropEvent_stn (e : WatchEvent) (s : State) : (dropEvent e s).stn = s.stn := rfl
@[simp] theorem dropEvent_cfg (e : WatchEvent) (s : State) : (dropEvent e s).cfg = s.cfg := rfl
@[simp] theorem dropEvent_faultSender (e : WatchEvent) (s : State) : (dropEvent e s).faultSender = s.faultSender := rfl
@[simp] theorem dropEvent_fault (e : WatchEvent) (s : State) : (dropEvent e s).fault = s.fault := rfl
@[simp] theorem dropEvent_ctl (e : WatchEvent) (s : State) : (dropEvent e s).ctl = s.ctl := rfl
@[simp] theorem dropEvent_link (e : WatchEvent) (s : State) : (dropEvent e s).link = s.link := rfl
@[simp] theorem dropEvent_msg (e : WatchEvent) (s : State) : (dropEvent e s).msg = s.msg := rfl
@[simp] theorem dropEvent_spd (e : WatchEvent) (s : State) : (dropEvent e s).spd = s.spd := rfl
@[simp] theorem dropEvent_slots (e : WatchEvent) (s : State) : (dropEvent e s).slots = s.slots := rfl
@[simp] theorem dropEvent_lay (e : WatchEvent) (s : State) : (dropEvent e s).lay = s.lay := rfl
@[simp] theorem dropEvent_sup (e : WatchEvent) (s : State) : (dropEvent e s).sup = s.sup := rfl
@[simp] theorem dropEvent_set (e : WatchEvent) (s : State) : (dropEvent e s).set = s.set := rfl
@[simp] theorem dropEvent_map (e : WatchEvent) (s : State) : (dropEvent e s).map = s.map := rfl
@[simp] theorem dropEvent_port (e : WatchEvent) (s : State) : (dropEvent e s).port = s.port := rfl
@[simp] theorem dropEvent_freeCount (e : WatchEvent) (s : State) : (dropEvent e s).freeCount = s.freeCount := rfl
@[simp] theorem dropEvent_pending (e : WatchEvent) (s : State) : (dropEvent e s).pending = s.pending := rfl

@[simp] theorem modifySlot_stn (n : Nat) (f : Slot → Slot) (s : State) : (modifySlot n f s).stn = s.stn := rfl
@[simp] theorem modifySlot_cfg (n : Nat) (f : Slot → Slot) (s : State) : (modifySlot n f s).cfg = s.cfg := rfl
@[simp] theorem modifySlot_faultSender (n : Nat) (f : Slot → Slot) (s : State) : (modifySlot n f s).faultSender = s.faultSender := rfl
@[simp] theorem modifySlot_fault (n : Nat) (f : Slot → Slot) (s : State) : (modifySlot n f s).fault = s.fault := rfl
@[simp] theorem modifySlot_ctl (n : Nat) (f : Slot → Slot) (s : State) : (modifySlot n f s).ctl = s.ctl := rfl
@[simp] theorem modifySlot_link (n : Nat) (f : Slot → Slot) (s : State) : (modifySlot n f s).link = s.link := rfl
@[simp] theorem modifySlot_msg (n : Nat) (f : Slot → Slot) (s : State) : (modifySlot n f s).msg = s.msg := rfl
@[simp] theorem modifySlot_pos (n : Nat) (f : Slot → Slot) (s : State) : (modifySlot n f s).pos = s.pos := rfl
@[simp] theorem modifySlot_spd (n : Nat) (f : Slot → Slot) (s : State) : (modifySlot n f s).spd = s.spd := rfl
@[simp] theorem modifySlot_lay (n : Nat) (f : Slot → Slot) (s : State) : (modifySlot n f s).lay = s.lay := rfl
@[simp] theorem modifySlot_sup (n : Nat) (f : Slot → Slot) (s : State) : (modifySlot n f s).sup = s.sup := rfl
@[simp] theorem modifySlot_set (n : Nat) (f : Slot → Slot) (s : State) : (modifySlot n f s).set = s.set := rfl
@[simp] theorem modifySlot_map (n : Nat) (f : Slot → Slot) (s : State) : (modifySlot n f s).map = s.map := rfl
@[simp] theorem modifySlot_port (n : Nat) (f : Slot → Slot) (s : State) : (modifySlot n f s).port = s.port := rfl
@[simp] theorem modifySlot_freeCount (n : Nat) (f : Slot → Slot) (s : State) : (modifySlot n f s).freeCount = s.freeCount := rfl
@[simp] theorem modifySlot_pending (n : Nat) (f : Slot → Slot) (s : State) : (modifySlot n f s).pending = s.pending := rfl

@[simp] theorem slotGains_stn (n k : Nat) (s : State) : (slotGains n k s).stn = s.stn := rfl
@[simp] theorem slotGains_cfg (n k : Nat) (s : State) : (slotGains n k s).cfg = s.cfg := rfl
@[simp] theorem slotGains_faultSender (n k : Nat) (s : State) : (slotGains n k s).faultSender = s.faultSender := rfl
@[simp] theorem slotGains_fault (n k : Nat) (s : State) : (slotGains n k s).fault = s.fault := rfl
@[simp] theorem slotGains_ctl (n k : Nat) (s : State) : (slotGains n k s).ctl = s.ctl := rfl
@[simp] theorem slotGains_link (n k : Nat) (s : State) : (slotGains n k s).link = s.link := rfl
@[simp] theorem slotGains_msg (n k : Nat) (s : State) : (slotGains n k s).msg = s.msg := rfl
@[simp] theorem slotGains_pos (n k : Nat) (s : State) : (slotGains n k s).pos = s.pos := rfl
@[simp] theorem slotGains_spd (n k : Nat) (s : State) : (slotGains n k s).spd = s.spd := rfl
@[simp] theorem slotGains_lay (n k : Nat) (s : State) : (slotGains n k s).lay = s.lay := rfl
@[simp] theorem slotGains_sup (n k : Nat) (s : State) : (slotGains n k s).sup = s.sup := rfl
@[simp] theorem slotGains_set (n k : Nat) (s : State) : (slotGains n k s).set = s.set := rfl
@[simp] theorem slotGains_map (n k : Nat) (s : State) : (slotGains n k s).map = s.map := rfl
@[simp] theorem slotGains_port (n k : Nat) (s : State) : (slotGains n k s).port = s.port := rfl
@[simp] theorem slotGains_freeCount (n k : Nat) (s : State) : (slotGains n k s).freeCount = s.freeCount := rfl
@[simp] theorem slotGains_pending (n k : Nat) (s : State) : (slotGains n k s).pending = s.pending := rfl

@[simp] theorem slotLoses_stn (n : Nat) (s : State) : (slotLoses n s).stn = s.stn := rfl
@[simp] theorem slotLoses_cfg (n : Nat) (s : State) : (slotLoses n s).cfg = s.cfg := rfl
@[simp] theorem slotLoses_faultSender (n : Nat) (s : State) : (slotLoses n s).faultSender = s.faultSender := rfl
@[simp] theorem slotLoses_fault (n : Nat) (s : State) : (slotLoses n s).fault = s.fault := rfl
@[simp] theorem slotLoses_ctl (n : Nat) (s : State) : (slotLoses n s).ctl = s.ctl := rfl
@[simp] theorem slotLoses_link (n : Nat) (s : State) : (slotLoses n s).link = s.link := rfl
@[simp] theorem slotLoses_msg (n : Nat) (s : State) : (slotLoses n s).msg = s.msg := rfl
@[simp] theorem slotLoses_pos (n : Nat) (s : State) : (slotLoses n s).pos = s.pos := rfl
@[simp] theorem slotLoses_spd (n : Nat) (s : State) : (slotLoses n s).spd = s.spd := rfl
@[simp] theorem slotLoses_lay (n : Nat) (s : State) : (slotLoses n s).lay = s.lay := rfl
@[simp] theorem slotLoses_sup (n : Nat) (s : State) : (slotLoses n s).sup = s.sup := rfl
@[simp] theorem slotLoses_set (n : Nat) (s : State) : (slotLoses n s).set = s.set := rfl
@[simp] theorem slotLoses_map (n : Nat) (s : State) : (slotLoses n s).map = s.map := rfl
@[simp] theorem slotLoses_port (n : Nat) (s : State) : (slotLoses n s).port = s.port := rfl
@[simp] theorem slotLoses_freeCount (n : Nat) (s : State) : (slotLoses n s).freeCount = s.freeCount := rfl
@[simp] theorem slotLoses_pending (n : Nat) (s : State) : (slotLoses n s).pending = s.pending := rfl

@[simp] theorem putSlot_stn (n : Nat) (sl : Slot) (s : State) : (putSlot n sl s).stn = s.stn := rfl
@[simp] theorem putSlot_cfg (n : Nat) (sl : Slot) (s : State) : (putSlot n sl s).cfg = s.cfg := rfl
@[simp] theorem putSlot_faultSender (n : Nat) (sl : Slot) (s : State) : (putSlot n sl s).faultSender = s.faultSender := rfl
@[simp] theorem putSlot_fault (n : Nat) (sl : Slot) (s : State) : (putSlot n sl s).fault = s.fault := rfl
@[simp] theorem putSlot_ctl (n : Nat) (sl : Slot) (s : State) : (putSlot n sl s).ctl = s.ctl := rfl
@[simp] theorem putSlot_link (n : Nat) (sl : Slot) (s : State) : (putSlot n sl s).link = s.link := rfl
@[simp] theorem putSlot_msg (n : Nat) (sl : Slot) (s : State) : (putSlot n sl s).msg = s.msg := rfl
@[simp] theorem putSlot_pos (n : Nat) (sl : Slot) (s : State) : (putSlot n sl s).pos = s.pos := rfl
@[simp] theorem putSlot_spd (n : Nat) (sl : Slot) (s : State) : (putSlot n sl s).spd = s.spd := rfl
@[simp] theorem putSlot_lay (n : Nat) (sl : Slot) (s : State) : (putSlot n sl s).lay = s.lay := rfl
@[simp] theorem putSlot_sup (n : Nat) (sl : Slot) (s : State) : (putSlot n sl s).sup = s.sup := rfl
@[simp] theorem putSlot_set (n : Nat) (sl : Slot) (s : State) : (putSlot n sl s).set = s.set := rfl
@[simp] theorem putSlot_map (n : Nat) (sl : Slot) (s : State) : (putSlot n sl s).map = s.map := rfl
@[simp] theorem putSlot_port (n : Nat) (sl : Slot) (s : State) : (putSlot n sl s).port = s.port := rfl
@[simp] theorem putSlot_freeCount (n : Nat) (sl : Slot) (s : State) : (putSlot n sl s).freeCount = s.freeCount := rfl
@[simp] theorem putSlot_pending (n : Nat) (sl : Slot) (s : State) : (putSlot n sl s).pending = s.pending := rfl

@[simp] theorem onLaying_stn (f : LayingItem → LayingItem) (s : State) : (onLaying f s).stn = s.stn := rfl
@[simp] theorem onLaying_cfg (f : LayingItem → LayingItem) (s : State) : (onLaying f s).cfg = s.cfg := rfl
@[simp] theorem onLaying_faultSender (f : LayingItem → LayingItem) (s : State) : (onLaying f s).faultSender = s.faultSender := rfl
@[simp] theorem onLaying_fault (f : LayingItem → LayingItem) (s : State) : (onLaying f s).fault = s.fault := rfl
@[simp] theorem onLaying_ctl (f : LayingItem → LayingItem) (s : State) : (onLaying f s).ctl = s.ctl := rfl
@[simp] theorem onLaying_link (f : LayingItem → LayingItem) (s : State) : (onLaying f s).link = s.link := rfl
@[simp] theorem onLaying_msg (f : LayingItem → LayingItem) (s : State) : (onLaying f s).msg = s.msg := rfl
@[simp] theorem onLaying_pos (f : LayingItem → LayingItem) (s : State) : (onLaying f s).pos = s.pos := rfl
@[simp] theorem onLaying_spd (f : LayingItem → LayingItem) (s : State) : (onLaying f s).spd = s.spd := rfl
@[simp] theorem onLaying_slots (f : LayingItem → LayingItem) (s : State) : (onLaying f s).slots = s.slots := rfl
@[simp] theorem onLaying_sup (f : LayingItem → LayingItem) (s : State) : (onLaying f s).sup = s.sup := rfl
@[simp] theorem onLaying_set (f : LayingItem → LayingItem) (s : State) : (onLaying f s).set = s.set := rfl
@[simp] theorem onLaying_map (f : LayingItem → LayingItem) (s : State) : (onLaying f s).map = s.map := rfl
@[simp] theorem onLaying_port (f : LayingItem → LayingItem) (s : State) : (onLaying f s).port = s.port := rfl
@[simp] theorem onLaying_freeCount (f : LayingItem → LayingItem) (s : State) : (onLaying f s).freeCount = s.freeCount := rfl
@[simp] theorem onLaying_pending (f : LayingItem → LayingItem) (s : State) : (onLaying f s).pending = s.pending := rfl

@[simp] theorem flagLaying_stn (f : PanelFlags → PanelFlags) (s : State) : (flagLaying f s).stn = s.stn := rfl
@[simp] theorem flagLaying_cfg (f : PanelFlags → PanelFlags) (s : State) : (flagLaying f s).cfg = s.cfg := rfl
@[simp] theorem flagLaying_faultSender (f : PanelFlags → PanelFlags) (s : State) : (flagLaying f s).faultSender = s.faultSender := rfl
@[simp] theorem flagLaying_fault (f : PanelFlags → PanelFlags) (s : State) : (flagLaying f s).fault = s.fault := rfl
@[simp] theorem flagLaying_ctl (f : PanelFlags → PanelFlags) (s : State) : (flagLaying f s).ctl = s.ctl := rfl
@[simp] theorem flagLaying_link (f : PanelFlags → PanelFlags) (s : State) : (flagLaying f s).link = s.link := rfl
@[simp] theorem flagLaying_msg (f : PanelFlags → PanelFlags) (s : State) : (flagLaying f s).msg = s.msg := rfl
@[simp] theorem flagLaying_pos (f : PanelFlags → PanelFlags) (s : State) : (flagLaying f s).pos = s.pos := rfl
@[simp] theorem flagLaying_spd (f : PanelFlags → PanelFlags) (s : State) : (flagLaying f s).spd = s.spd := rfl
@[simp] theorem flagLaying_slots (f : PanelFlags → PanelFlags) (s : State) : (flagLaying f s).slots = s.slots := rfl
@[simp] theorem flagLaying_sup (f : PanelFlags → PanelFlags) (s : State) : (flagLaying f s).sup = s.sup := rfl
@[simp] theorem flagLaying_set (f : PanelFlags → PanelFlags) (s : State) : (flagLaying f s).set = s.set := rfl
@[simp] theorem flagLaying_map (f : PanelFlags → PanelFlags) (s : State) : (flagLaying f s).map = s.map := rfl
@[simp] theorem flagLaying_port (f : PanelFlags → PanelFlags) (s : State) : (flagLaying f s).port = s.port := rfl
@[simp] theorem flagLaying_freeCount (f : PanelFlags → PanelFlags) (s : State) : (flagLaying f s).freeCount = s.freeCount := rfl
@[simp] theorem flagLaying_pending (f : PanelFlags → PanelFlags) (s : State) : (flagLaying f s).pending = s.pending := rfl

@[simp] theorem setOwn_stn (s : State) : (setOwn s).stn = s.stn := rfl
@[simp] theorem setOwn_cfg (s : State) : (setOwn s).cfg = s.cfg := rfl
@[simp] theorem setOwn_faultSender (s : State) : (setOwn s).faultSender = s.faultSender := rfl
@[simp] theorem setOwn_fault (s : State) : (setOwn s).fault = s.fault := rfl
@[simp] theorem setOwn_ctl (s : State) : (setOwn s).ctl = s.ctl := rfl
@[simp] theorem setOwn_link (s : State) : (setOwn s).link = s.link := rfl
@[simp] theorem setOwn_msg (s : State) : (setOwn s).msg = s.msg := rfl
@[simp] theorem setOwn_pos (s : State) : (setOwn s).pos = s.pos := rfl
@[simp] theorem setOwn_slots (s : State) : (setOwn s).slots = s.slots := rfl
@[simp] theorem setOwn_lay (s : State) : (setOwn s).lay = s.lay := rfl
@[simp] theorem setOwn_sup (s : State) : (setOwn s).sup = s.sup := rfl
@[simp] theorem setOwn_set (s : State) : (setOwn s).set = s.set := rfl
@[simp] theorem setOwn_map (s : State) : (setOwn s).map = s.map := rfl
@[simp] theorem setOwn_port (s : State) : (setOwn s).port = s.port := rfl
@[simp] theorem setOwn_freeCount (s : State) : (setOwn s).freeCount = s.freeCount := rfl
@[simp] theorem setOwn_pending (s : State) : (setOwn s).pending = s.pending := rfl

@[simp] theorem dropLatch_stn (s : State) : (dropLatch s).stn = s.stn := rfl
@[simp] theorem dropLatch_cfg (s : State) : (dropLatch s).cfg = s.cfg := rfl
@[simp] theorem dropLatch_faultSender (s : State) : (dropLatch s).faultSender = s.faultSender := rfl
@[simp] theorem dropLatch_fault (s : State) : (dropLatch s).fault = s.fault := rfl
@[simp] theorem dropLatch_ctl (s : State) : (dropLatch s).ctl = s.ctl := rfl
@[simp] theorem dropLatch_msg (s : State) : (dropLatch s).msg = s.msg := rfl
@[simp] theorem dropLatch_pos (s : State) : (dropLatch s).pos = s.pos := rfl
@[simp] theorem dropLatch_spd (s : State) : (dropLatch s).spd = s.spd := rfl
@[simp] theorem dropLatch_slots (s : State) : (dropLatch s).slots = s.slots := rfl
@[simp] theorem dropLatch_lay (s : State) : (dropLatch s).lay = s.lay := rfl
@[simp] theorem dropLatch_sup (s : State) : (dropLatch s).sup = s.sup := rfl
@[simp] theorem dropLatch_set (s : State) : (dropLatch s).set = s.set := rfl
@[simp] theorem dropLatch_map (s : State) : (dropLatch s).map = s.map := rfl
@[simp] theorem dropLatch_port (s : State) : (dropLatch s).port = s.port := rfl
@[simp] theorem dropLatch_freeCount (s : State) : (dropLatch s).freeCount = s.freeCount := rfl
@[simp] theorem dropLatch_pending (s : State) : (dropLatch s).pending = s.pending := rfl

@[simp] theorem countBroken_stn (s : State) : (countBroken s).stn = s.stn := rfl
@[simp] theorem countBroken_cfg (s : State) : (countBroken s).cfg = s.cfg := rfl
@[simp] theorem countBroken_faultSender (s : State) : (countBroken s).faultSender = s.faultSender := rfl
@[simp] theorem countBroken_fault (s : State) : (countBroken s).fault = s.fault := rfl
@[simp] theorem countBroken_ctl (s : State) : (countBroken s).ctl = s.ctl := rfl
@[simp] theorem countBroken_msg (s : State) : (countBroken s).msg = s.msg := rfl
@[simp] theorem countBroken_pos (s : State) : (countBroken s).pos = s.pos := rfl
@[simp] theorem countBroken_spd (s : State) : (countBroken s).spd = s.spd := rfl
@[simp] theorem countBroken_slots (s : State) : (countBroken s).slots = s.slots := rfl
@[simp] theorem countBroken_lay (s : State) : (countBroken s).lay = s.lay := rfl
@[simp] theorem countBroken_sup (s : State) : (countBroken s).sup = s.sup := rfl
@[simp] theorem countBroken_set (s : State) : (countBroken s).set = s.set := rfl
@[simp] theorem countBroken_map (s : State) : (countBroken s).map = s.map := rfl
@[simp] theorem countBroken_port (s : State) : (countBroken s).port = s.port := rfl
@[simp] theorem countBroken_freeCount (s : State) : (countBroken s).freeCount = s.freeCount := rfl
@[simp] theorem countBroken_pending (s : State) : (countBroken s).pending = s.pending := rfl

@[simp] theorem stopDriving_stn (s : State) : (stopDriving s).stn = s.stn := rfl
@[simp] theorem stopDriving_cfg (s : State) : (stopDriving s).cfg = s.cfg := rfl
@[simp] theorem stopDriving_faultSender (s : State) : (stopDriving s).faultSender = s.faultSender := rfl
@[simp] theorem stopDriving_fault (s : State) : (stopDriving s).fault = s.fault := rfl
@[simp] theorem stopDriving_ctl (s : State) : (stopDriving s).ctl = s.ctl := rfl
@[simp] theorem stopDriving_msg (s : State) : (stopDriving s).msg = s.msg := rfl
@[simp] theorem stopDriving_pos (s : State) : (stopDriving s).pos = s.pos := rfl
@[simp] theorem stopDriving_spd (s : State) : (stopDriving s).spd = s.spd := rfl
@[simp] theorem stopDriving_slots (s : State) : (stopDriving s).slots = s.slots := rfl
@[simp] theorem stopDriving_lay (s : State) : (stopDriving s).lay = s.lay := rfl
@[simp] theorem stopDriving_sup (s : State) : (stopDriving s).sup = s.sup := rfl
@[simp] theorem stopDriving_set (s : State) : (stopDriving s).set = s.set := rfl
@[simp] theorem stopDriving_map (s : State) : (stopDriving s).map = s.map := rfl
@[simp] theorem stopDriving_port (s : State) : (stopDriving s).port = s.port := rfl
@[simp] theorem stopDriving_freeCount (s : State) : (stopDriving s).freeCount = s.freeCount := rfl
@[simp] theorem stopDriving_pending (s : State) : (stopDriving s).pending = s.pending := rfl

@[simp] theorem freshReport_stn (c : Nat) (s : State) : (freshReport c s).stn = s.stn := rfl
@[simp] theorem freshReport_cfg (c : Nat) (s : State) : (freshReport c s).cfg = s.cfg := rfl
@[simp] theorem freshReport_faultSender (c : Nat) (s : State) : (freshReport c s).faultSender = s.faultSender := rfl
@[simp] theorem freshReport_fault (c : Nat) (s : State) : (freshReport c s).fault = s.fault := rfl
@[simp] theorem freshReport_ctl (c : Nat) (s : State) : (freshReport c s).ctl = s.ctl := rfl
@[simp] theorem freshReport_link (c : Nat) (s : State) : (freshReport c s).link = s.link := rfl
@[simp] theorem freshReport_msg (c : Nat) (s : State) : (freshReport c s).msg = s.msg := rfl
@[simp] theorem freshReport_pos (c : Nat) (s : State) : (freshReport c s).pos = s.pos := rfl
@[simp] theorem freshReport_spd (c : Nat) (s : State) : (freshReport c s).spd = s.spd := rfl
@[simp] theorem freshReport_slots (c : Nat) (s : State) : (freshReport c s).slots = s.slots := rfl
@[simp] theorem freshReport_lay (c : Nat) (s : State) : (freshReport c s).lay = s.lay := rfl
@[simp] theorem freshReport_sup (c : Nat) (s : State) : (freshReport c s).sup = s.sup := rfl
@[simp] theorem freshReport_set (c : Nat) (s : State) : (freshReport c s).set = s.set := rfl
@[simp] theorem freshReport_map (c : Nat) (s : State) : (freshReport c s).map = s.map := rfl
@[simp] theorem freshReport_freeCount (c : Nat) (s : State) : (freshReport c s).freeCount = s.freeCount := rfl
@[simp] theorem freshReport_pending (c : Nat) (s : State) : (freshReport c s).pending = s.pending := rfl

@[simp] theorem onZone_stn (z : Nat) (f : Zone → Zone) (s : State) : (onZone z f s).stn = s.stn := rfl
@[simp] theorem onZone_cfg (z : Nat) (f : Zone → Zone) (s : State) : (onZone z f s).cfg = s.cfg := rfl
@[simp] theorem onZone_faultSender (z : Nat) (f : Zone → Zone) (s : State) : (onZone z f s).faultSender = s.faultSender := rfl
@[simp] theorem onZone_fault (z : Nat) (f : Zone → Zone) (s : State) : (onZone z f s).fault = s.fault := rfl
@[simp] theorem onZone_ctl (z : Nat) (f : Zone → Zone) (s : State) : (onZone z f s).ctl = s.ctl := rfl
@[simp] theorem onZone_link (z : Nat) (f : Zone → Zone) (s : State) : (onZone z f s).link = s.link := rfl
@[simp] theorem onZone_msg (z : Nat) (f : Zone → Zone) (s : State) : (onZone z f s).msg = s.msg := rfl
@[simp] theorem onZone_pos (z : Nat) (f : Zone → Zone) (s : State) : (onZone z f s).pos = s.pos := rfl
@[simp] theorem onZone_spd (z : Nat) (f : Zone → Zone) (s : State) : (onZone z f s).spd = s.spd := rfl
@[simp] theorem onZone_slots (z : Nat) (f : Zone → Zone) (s : State) : (onZone z f s).slots = s.slots := rfl
@[simp] theorem onZone_lay (z : Nat) (f : Zone → Zone) (s : State) : (onZone z f s).lay = s.lay := rfl
@[simp] theorem onZone_sup (z : Nat) (f : Zone → Zone) (s : State) : (onZone z f s).sup = s.sup := rfl
@[simp] theorem onZone_map (z : Nat) (f : Zone → Zone) (s : State) : (onZone z f s).map = s.map := rfl
@[simp] theorem onZone_port (z : Nat) (f : Zone → Zone) (s : State) : (onZone z f s).port = s.port := rfl
@[simp] theorem onZone_freeCount (z : Nat) (f : Zone → Zone) (s : State) : (onZone z f s).freeCount = s.freeCount := rfl
@[simp] theorem onZone_pending (z : Nat) (f : Zone → Zone) (s : State) : (onZone z f s).pending = s.pending := rfl

@[simp] theorem reformVent_stn (s : State) : (reformVent s).stn = s.stn := rfl
@[simp] theorem reformVent_cfg (s : State) : (reformVent s).cfg = s.cfg := rfl
@[simp] theorem reformVent_faultSender (s : State) : (reformVent s).faultSender = s.faultSender := rfl
@[simp] theorem reformVent_fault (s : State) : (reformVent s).fault = s.fault := rfl
@[simp] theorem reformVent_ctl (s : State) : (reformVent s).ctl = s.ctl := rfl
@[simp] theorem reformVent_link (s : State) : (reformVent s).link = s.link := rfl
@[simp] theorem reformVent_msg (s : State) : (reformVent s).msg = s.msg := rfl
@[simp] theorem reformVent_pos (s : State) : (reformVent s).pos = s.pos := rfl
@[simp] theorem reformVent_spd (s : State) : (reformVent s).spd = s.spd := rfl
@[simp] theorem reformVent_slots (s : State) : (reformVent s).slots = s.slots := rfl
@[simp] theorem reformVent_lay (s : State) : (reformVent s).lay = s.lay := rfl
@[simp] theorem reformVent_sup (s : State) : (reformVent s).sup = s.sup := rfl
@[simp] theorem reformVent_map (s : State) : (reformVent s).map = s.map := rfl
@[simp] theorem reformVent_port (s : State) : (reformVent s).port = s.port := rfl
@[simp] theorem reformVent_freeCount (s : State) : (reformVent s).freeCount = s.freeCount := rfl
@[simp] theorem reformVent_pending (s : State) : (reformVent s).pending = s.pending := rfl

@[simp] theorem registerArrival_stn (m : PositionMsg) (l : Latch) (s : State) : (registerArrival m l s).stn = s.stn := rfl
@[simp] theorem registerArrival_cfg (m : PositionMsg) (l : Latch) (s : State) : (registerArrival m l s).cfg = s.cfg := rfl
@[simp] theorem registerArrival_faultSender (m : PositionMsg) (l : Latch) (s : State) : (registerArrival m l s).faultSender = s.faultSender := rfl
@[simp] theorem registerArrival_fault (m : PositionMsg) (l : Latch) (s : State) : (registerArrival m l s).fault = s.fault := rfl
@[simp] theorem registerArrival_ctl (m : PositionMsg) (l : Latch) (s : State) : (registerArrival m l s).ctl = s.ctl := rfl
@[simp] theorem registerArrival_link (m : PositionMsg) (l : Latch) (s : State) : (registerArrival m l s).link = s.link := rfl
@[simp] theorem registerArrival_msg (m : PositionMsg) (l : Latch) (s : State) : (registerArrival m l s).msg = s.msg := rfl
@[simp] theorem registerArrival_pos (m : PositionMsg) (l : Latch) (s : State) : (registerArrival m l s).pos = s.pos := rfl
@[simp] theorem registerArrival_spd (m : PositionMsg) (l : Latch) (s : State) : (registerArrival m l s).spd = s.spd := rfl
@[simp] theorem registerArrival_slots (m : PositionMsg) (l : Latch) (s : State) : (registerArrival m l s).slots = s.slots := rfl
@[simp] theorem registerArrival_lay (m : PositionMsg) (l : Latch) (s : State) : (registerArrival m l s).lay = s.lay := rfl
@[simp] theorem registerArrival_set (m : PositionMsg) (l : Latch) (s : State) : (registerArrival m l s).set = s.set := rfl
@[simp] theorem registerArrival_map (m : PositionMsg) (l : Latch) (s : State) : (registerArrival m l s).map = s.map := rfl
@[simp] theorem registerArrival_port (m : PositionMsg) (l : Latch) (s : State) : (registerArrival m l s).port = s.port := rfl
@[simp] theorem registerArrival_freeCount (m : PositionMsg) (l : Latch) (s : State) :
    (registerArrival m l s).freeCount = if s.sup.festoon = .lost then s.freeCount + 1 else s.freeCount := rfl
@[simp] theorem registerArrival_pending (m : PositionMsg) (l : Latch) (s : State) : (registerArrival m l s).pending = s.pending := rfl

@[simp] theorem answer_stn (n : Station) (id : Byte) (c : ReqCode) (f : Final) (s : State) : (answer n id c f s).stn = s.stn := rfl
@[simp] theorem answer_cfg (n : Station) (id : Byte) (c : ReqCode) (f : Final) (s : State) : (answer n id c f s).cfg = s.cfg := rfl
@[simp] theorem answer_faultSender (n : Station) (id : Byte) (c : ReqCode) (f : Final) (s : State) : (answer n id c f s).faultSender = s.faultSender := rfl
@[simp] theorem answer_fault (n : Station) (id : Byte) (c : ReqCode) (f : Final) (s : State) : (answer n id c f s).fault = s.fault := rfl
@[simp] theorem answer_ctl (n : Station) (id : Byte) (c : ReqCode) (f : Final) (s : State) : (answer n id c f s).ctl = s.ctl := rfl
@[simp] theorem answer_link (n : Station) (id : Byte) (c : ReqCode) (f : Final) (s : State) : (answer n id c f s).link = s.link := rfl
@[simp] theorem answer_pos (n : Station) (id : Byte) (c : ReqCode) (f : Final) (s : State) : (answer n id c f s).pos = s.pos := rfl
@[simp] theorem answer_spd (n : Station) (id : Byte) (c : ReqCode) (f : Final) (s : State) : (answer n id c f s).spd = s.spd := rfl
@[simp] theorem answer_slots (n : Station) (id : Byte) (c : ReqCode) (f : Final) (s : State) : (answer n id c f s).slots = s.slots := rfl
@[simp] theorem answer_lay (n : Station) (id : Byte) (c : ReqCode) (f : Final) (s : State) : (answer n id c f s).lay = s.lay := rfl
@[simp] theorem answer_sup (n : Station) (id : Byte) (c : ReqCode) (f : Final) (s : State) : (answer n id c f s).sup = s.sup := rfl
@[simp] theorem answer_set (n : Station) (id : Byte) (c : ReqCode) (f : Final) (s : State) : (answer n id c f s).set = s.set := rfl
@[simp] theorem answer_map (n : Station) (id : Byte) (c : ReqCode) (f : Final) (s : State) : (answer n id c f s).map = s.map := rfl
@[simp] theorem answer_port (n : Station) (id : Byte) (c : ReqCode) (f : Final) (s : State) : (answer n id c f s).port = s.port := rfl
@[simp] theorem answer_freeCount (n : Station) (id : Byte) (c : ReqCode) (f : Final) (s : State) : (answer n id c f s).freeCount = s.freeCount := rfl
@[simp] theorem answer_pending (n : Station) (id : Byte) (c : ReqCode) (f : Final) (s : State) : (answer n id c f s).pending = s.pending := rfl

@[simp] theorem interim_stn (n : Station) (id : Byte) (c : ReqCode) (b : AnswerBody) (s : State) : (interim n id c b s).stn = s.stn := rfl
@[simp] theorem interim_cfg (n : Station) (id : Byte) (c : ReqCode) (b : AnswerBody) (s : State) : (interim n id c b s).cfg = s.cfg := rfl
@[simp] theorem interim_faultSender (n : Station) (id : Byte) (c : ReqCode) (b : AnswerBody) (s : State) : (interim n id c b s).faultSender = s.faultSender := rfl
@[simp] theorem interim_fault (n : Station) (id : Byte) (c : ReqCode) (b : AnswerBody) (s : State) : (interim n id c b s).fault = s.fault := rfl
@[simp] theorem interim_ctl (n : Station) (id : Byte) (c : ReqCode) (b : AnswerBody) (s : State) : (interim n id c b s).ctl = s.ctl := rfl
@[simp] theorem interim_link (n : Station) (id : Byte) (c : ReqCode) (b : AnswerBody) (s : State) : (interim n id c b s).link = s.link := rfl
@[simp] theorem interim_pos (n : Station) (id : Byte) (c : ReqCode) (b : AnswerBody) (s : State) : (interim n id c b s).pos = s.pos := rfl
@[simp] theorem interim_spd (n : Station) (id : Byte) (c : ReqCode) (b : AnswerBody) (s : State) : (interim n id c b s).spd = s.spd := rfl
@[simp] theorem interim_slots (n : Station) (id : Byte) (c : ReqCode) (b : AnswerBody) (s : State) : (interim n id c b s).slots = s.slots := rfl
@[simp] theorem interim_lay (n : Station) (id : Byte) (c : ReqCode) (b : AnswerBody) (s : State) : (interim n id c b s).lay = s.lay := rfl
@[simp] theorem interim_sup (n : Station) (id : Byte) (c : ReqCode) (b : AnswerBody) (s : State) : (interim n id c b s).sup = s.sup := rfl
@[simp] theorem interim_set (n : Station) (id : Byte) (c : ReqCode) (b : AnswerBody) (s : State) : (interim n id c b s).set = s.set := rfl
@[simp] theorem interim_map (n : Station) (id : Byte) (c : ReqCode) (b : AnswerBody) (s : State) : (interim n id c b s).map = s.map := rfl
@[simp] theorem interim_port (n : Station) (id : Byte) (c : ReqCode) (b : AnswerBody) (s : State) : (interim n id c b s).port = s.port := rfl
@[simp] theorem interim_freeCount (n : Station) (id : Byte) (c : ReqCode) (b : AnswerBody) (s : State) : (interim n id c b s).freeCount = s.freeCount := rfl
@[simp] theorem interim_pending (n : Station) (id : Byte) (c : ReqCode) (b : AnswerBody) (s : State) : (interim n id c b s).pending = s.pending := rfl

@[simp] theorem delay_stn (n : Station) (id : Byte) (b : ReqBody) (s : State) : (delay n id b s).stn = s.stn := rfl
@[simp] theorem delay_cfg (n : Station) (id : Byte) (b : ReqBody) (s : State) : (delay n id b s).cfg = s.cfg := rfl
@[simp] theorem delay_faultSender (n : Station) (id : Byte) (b : ReqBody) (s : State) : (delay n id b s).faultSender = s.faultSender := rfl
@[simp] theorem delay_fault (n : Station) (id : Byte) (b : ReqBody) (s : State) : (delay n id b s).fault = s.fault := rfl
@[simp] theorem delay_ctl (n : Station) (id : Byte) (b : ReqBody) (s : State) : (delay n id b s).ctl = s.ctl := rfl
@[simp] theorem delay_link (n : Station) (id : Byte) (b : ReqBody) (s : State) : (delay n id b s).link = s.link := rfl
@[simp] theorem delay_pos (n : Station) (id : Byte) (b : ReqBody) (s : State) : (delay n id b s).pos = s.pos := rfl
@[simp] theorem delay_spd (n : Station) (id : Byte) (b : ReqBody) (s : State) : (delay n id b s).spd = s.spd := rfl
@[simp] theorem delay_slots (n : Station) (id : Byte) (b : ReqBody) (s : State) : (delay n id b s).slots = s.slots := rfl
@[simp] theorem delay_lay (n : Station) (id : Byte) (b : ReqBody) (s : State) : (delay n id b s).lay = s.lay := rfl
@[simp] theorem delay_sup (n : Station) (id : Byte) (b : ReqBody) (s : State) : (delay n id b s).sup = s.sup := rfl
@[simp] theorem delay_set (n : Station) (id : Byte) (b : ReqBody) (s : State) : (delay n id b s).set = s.set := rfl
@[simp] theorem delay_map (n : Station) (id : Byte) (b : ReqBody) (s : State) : (delay n id b s).map = s.map := rfl
@[simp] theorem delay_port (n : Station) (id : Byte) (b : ReqBody) (s : State) : (delay n id b s).port = s.port := rfl
@[simp] theorem delay_freeCount (n : Station) (id : Byte) (b : ReqBody) (s : State) : (delay n id b s).freeCount = s.freeCount := rfl
@[simp] theorem delay_pending (n : Station) (id : Byte) (b : ReqBody) (s : State) : (delay n id b s).pending = s.pending := rfl

@[simp] theorem haltSupply_stn (s : State) : (haltSupply s).stn = s.stn := rfl
@[simp] theorem haltSupply_cfg (s : State) : (haltSupply s).cfg = s.cfg := rfl
@[simp] theorem haltSupply_faultSender (s : State) : (haltSupply s).faultSender = s.faultSender := rfl
@[simp] theorem haltSupply_fault (s : State) : (haltSupply s).fault = s.fault := rfl
@[simp] theorem haltSupply_ctl (s : State) : (haltSupply s).ctl = s.ctl := rfl
@[simp] theorem haltSupply_link (s : State) : (haltSupply s).link = s.link := rfl
@[simp] theorem haltSupply_msg (s : State) : (haltSupply s).msg = s.msg := rfl
@[simp] theorem haltSupply_pos (s : State) : (haltSupply s).pos = s.pos := rfl
@[simp] theorem haltSupply_slots (s : State) : (haltSupply s).slots = s.slots := rfl
@[simp] theorem haltSupply_lay (s : State) : (haltSupply s).lay = s.lay := rfl
@[simp] theorem haltSupply_set (s : State) : (haltSupply s).set = s.set := rfl
@[simp] theorem haltSupply_map (s : State) : (haltSupply s).map = s.map := rfl
@[simp] theorem haltSupply_port (s : State) : (haltSupply s).port = s.port := rfl
@[simp] theorem haltSupply_freeCount (s : State) : (haltSupply s).freeCount = s.freeCount := rfl
@[simp] theorem haltSupply_pending (s : State) : (haltSupply s).pending = s.pending := rfl

@[simp] theorem haltSetter_stn (s : State) : (haltSetter s).stn = s.stn := rfl
@[simp] theorem haltSetter_cfg (s : State) : (haltSetter s).cfg = s.cfg := rfl
@[simp] theorem haltSetter_faultSender (s : State) : (haltSetter s).faultSender = s.faultSender := rfl
@[simp] theorem haltSetter_fault (s : State) : (haltSetter s).fault = s.fault := rfl
@[simp] theorem haltSetter_ctl (s : State) : (haltSetter s).ctl = s.ctl := rfl
@[simp] theorem haltSetter_link (s : State) : (haltSetter s).link = s.link := rfl
@[simp] theorem haltSetter_msg (s : State) : (haltSetter s).msg = s.msg := rfl
@[simp] theorem haltSetter_spd (s : State) : (haltSetter s).spd = s.spd := rfl
@[simp] theorem haltSetter_slots (s : State) : (haltSetter s).slots = s.slots := rfl
@[simp] theorem haltSetter_lay (s : State) : (haltSetter s).lay = s.lay := rfl
@[simp] theorem haltSetter_sup (s : State) : (haltSetter s).sup = s.sup := rfl
@[simp] theorem haltSetter_port (s : State) : (haltSetter s).port = s.port := rfl
@[simp] theorem haltSetter_freeCount (s : State) : (haltSetter s).freeCount = s.freeCount := rfl
@[simp] theorem haltSetter_pending (s : State) : (haltSetter s).pending = s.pending := rfl

@[simp] theorem onArm_stn (n : ArmName) (f : Arm → Arm) (s : State) : (onArm n f s).stn = s.stn := by cases n <;> rfl
@[simp] theorem onArm_cfg (n : ArmName) (f : Arm → Arm) (s : State) : (onArm n f s).cfg = s.cfg := by cases n <;> rfl
@[simp] theorem onArm_faultSender (n : ArmName) (f : Arm → Arm) (s : State) : (onArm n f s).faultSender = s.faultSender := by cases n <;> rfl
@[simp] theorem onArm_fault (n : ArmName) (f : Arm → Arm) (s : State) : (onArm n f s).fault = s.fault := by cases n <;> rfl
@[simp] theorem onArm_ctl (n : ArmName) (f : Arm → Arm) (s : State) : (onArm n f s).ctl = s.ctl := by cases n <;> rfl
@[simp] theorem onArm_link (n : ArmName) (f : Arm → Arm) (s : State) : (onArm n f s).link = s.link := by cases n <;> rfl
@[simp] theorem onArm_msg (n : ArmName) (f : Arm → Arm) (s : State) : (onArm n f s).msg = s.msg := by cases n <;> rfl
@[simp] theorem onArm_pos (n : ArmName) (f : Arm → Arm) (s : State) : (onArm n f s).pos = s.pos := by cases n <;> rfl
@[simp] theorem onArm_spd (n : ArmName) (f : Arm → Arm) (s : State) : (onArm n f s).spd = s.spd := by cases n <;> rfl
@[simp] theorem onArm_slots (n : ArmName) (f : Arm → Arm) (s : State) : (onArm n f s).slots = s.slots := by cases n <;> rfl
@[simp] theorem onArm_lay (n : ArmName) (f : Arm → Arm) (s : State) : (onArm n f s).lay = s.lay := by cases n <;> rfl
@[simp] theorem onArm_set (n : ArmName) (f : Arm → Arm) (s : State) : (onArm n f s).set = s.set := by cases n <;> rfl
@[simp] theorem onArm_map (n : ArmName) (f : Arm → Arm) (s : State) : (onArm n f s).map = s.map := by cases n <;> rfl
@[simp] theorem onArm_port (n : ArmName) (f : Arm → Arm) (s : State) : (onArm n f s).port = s.port := by cases n <;> rfl
@[simp] theorem onArm_freeCount (n : ArmName) (f : Arm → Arm) (s : State) : (onArm n f s).freeCount = s.freeCount := by cases n <;> rfl
@[simp] theorem onArm_pending (n : ArmName) (f : Arm → Arm) (s : State) : (onArm n f s).pending = s.pending := by cases n <;> rfl

@[simp] theorem setWatch_watches (w : Watch) (s : State) : (setWatch w s).pos.watches = s.pos.watches ++ [w] := rfl
@[simp] theorem dropWatch_watches (w : Watch) (s : State) : (dropWatch w s).pos.watches = s.pos.watches.erase w := rfl
@[simp] theorem dropEvent_watches (e : WatchEvent) (s : State) :
    (dropEvent e s).pos.watches = s.pos.watches.filter (·.event ≠ e) := rfl
@[simp] theorem onLaying_laying (f : LayingItem → LayingItem) (s : State) :
    (onLaying f s).lay.laying = s.lay.laying.map f := rfl
@[simp] theorem supersede_msg (f : Frame) (s : State) : (supersede f s).msg = s.msg.supersede f := rfl
@[simp] theorem answer_msg (n : Station) (id : Byte) (c : ReqCode) (f : Final) (s : State) :
    (answer n id c f s).msg = s.msg.finish ⟨n, id, c, f⟩ := rfl
@[simp] theorem interim_msg (n : Station) (id : Byte) (c : ReqCode) (b : AnswerBody) (s : State) :
    (interim n id c b s).msg = s.msg.handInterim ⟨id, n, c, b⟩ := rfl
@[simp] theorem setOwn_ownValue (s : State) : (setOwn s).spd.ownValue = (roleCeiling s).1 := rfl
@[simp] theorem setOwn_ownReason (s : State) : (setOwn s).spd.ownReason = (roleCeiling s).2 := rfl
@[simp] theorem setOwn_table (s : State) : (setOwn s).spd.table = s.spd.table := rfl
@[simp] theorem onZone_zones (z : Nat) (f : Zone → Zone) (s : State) : (onZone z f s).set.zones = modifyAt f z s.set.zones := rfl
@[simp] theorem countBroken_broken (s : State) : (countBroken s).link.broken = satInc s.link.broken := rfl
@[simp] theorem dropLatch_latch (s : State) : (dropLatch s).link.latch = none := rfl
@[simp] theorem stopDriving_tx (s : State) : (stopDriving s).link.tx = .waiting := rfl

/-! ## What depends on the configuration or the station state alone -/

theorem role_congr {s t : State} (h : s.cfg = t.cfg) : s.role = t.role := by simp only [State.role, h]
theorem conf_congr {s t : State} (h : s.cfg = t.cfg) : s.conf = t.conf := by simp only [State.conf, h]
theorem live_congr {s t : State} (h : s.stn = t.stn) : s.live = t.live := by simp only [State.live, h]
theorem isRole_congr {s t : State} (r : Role) (hc : s.cfg = t.cfg) (hs : s.stn = t.stn) : s.isRole r = t.isRole r := by
  simp only [State.isRole, State.live, hs, role_congr hc]

@[simp] theorem hearSensor_stn (b : SensorBurst) (s : State) : (hearSensor b s).stn = s.stn := rfl
@[simp] theorem hearSensor_cfg (b : SensorBurst) (s : State) : (hearSensor b s).cfg = s.cfg := rfl
@[simp] theorem hearSensor_faultSender (b : SensorBurst) (s : State) : (hearSensor b s).faultSender = s.faultSender := rfl
@[simp] theorem hearSensor_fault (b : SensorBurst) (s : State) : (hearSensor b s).fault = s.fault := rfl
@[simp] theorem hearSensor_ctl (b : SensorBurst) (s : State) : (hearSensor b s).ctl = s.ctl := rfl
@[simp] theorem hearSensor_link (b : SensorBurst) (s : State) : (hearSensor b s).link = s.link := rfl
@[simp] theorem hearSensor_msg (b : SensorBurst) (s : State) : (hearSensor b s).msg = s.msg := rfl
@[simp] theorem hearSensor_pos (b : SensorBurst) (s : State) : (hearSensor b s).pos = s.pos := rfl
@[simp] theorem hearSensor_spd (b : SensorBurst) (s : State) : (hearSensor b s).spd = s.spd := rfl
@[simp] theorem hearSensor_slots (b : SensorBurst) (s : State) : (hearSensor b s).slots = s.slots := rfl
@[simp] theorem hearSensor_lay (b : SensorBurst) (s : State) : (hearSensor b s).lay = s.lay := rfl
@[simp] theorem hearSensor_sup (b : SensorBurst) (s : State) : (hearSensor b s).sup = s.sup := rfl
@[simp] theorem hearSensor_set (b : SensorBurst) (s : State) : (hearSensor b s).set = s.set := rfl
@[simp] theorem hearSensor_map (b : SensorBurst) (s : State) : (hearSensor b s).map = s.map := rfl
@[simp] theorem hearSensor_freeCount (b : SensorBurst) (s : State) : (hearSensor b s).freeCount = s.freeCount := rfl
@[simp] theorem hearSensor_pending (b : SensorBurst) (s : State) : (hearSensor b s).pending = s.pending := rfl
@[simp] theorem hearSensor_port (b : SensorBurst) (s : State) :
    (hearSensor b s).port = { s.port with report := if s.live then (takeReport b s.port.report).1 else s.port.report } := rfl

@[simp] theorem setArmReady_stn (n : ArmName) (b : Bool) (s : State) : (setArmReady n b s).stn = s.stn := rfl
@[simp] theorem setArmReady_cfg (n : ArmName) (b : Bool) (s : State) : (setArmReady n b s).cfg = s.cfg := rfl
@[simp] theorem setArmReady_faultSender (n : ArmName) (b : Bool) (s : State) : (setArmReady n b s).faultSender = s.faultSender := rfl
@[simp] theorem setArmReady_fault (n : ArmName) (b : Bool) (s : State) : (setArmReady n b s).fault = s.fault := rfl
@[simp] theorem setArmReady_ctl (n : ArmName) (b : Bool) (s : State) : (setArmReady n b s).ctl = s.ctl := rfl
@[simp] theorem setArmReady_link (n : ArmName) (b : Bool) (s : State) : (setArmReady n b s).link = s.link := rfl
@[simp] theorem setArmReady_msg (n : ArmName) (b : Bool) (s : State) : (setArmReady n b s).msg = s.msg := rfl
@[simp] theorem setArmReady_pos (n : ArmName) (b : Bool) (s : State) : (setArmReady n b s).pos = s.pos := rfl
@[simp] theorem setArmReady_spd (n : ArmName) (b : Bool) (s : State) : (setArmReady n b s).spd = s.spd := rfl
@[simp] theorem setArmReady_slots (n : ArmName) (b : Bool) (s : State) : (setArmReady n b s).slots = s.slots := rfl
@[simp] theorem setArmReady_lay (n : ArmName) (b : Bool) (s : State) : (setArmReady n b s).lay = s.lay := rfl
@[simp] theorem setArmReady_sup (n : ArmName) (b : Bool) (s : State) : (setArmReady n b s).sup = s.sup := rfl
@[simp] theorem setArmReady_set (n : ArmName) (b : Bool) (s : State) : (setArmReady n b s).set = s.set := rfl
@[simp] theorem setArmReady_map (n : ArmName) (b : Bool) (s : State) : (setArmReady n b s).map = s.map := rfl
@[simp] theorem setArmReady_freeCount (n : ArmName) (b : Bool) (s : State) : (setArmReady n b s).freeCount = s.freeCount := rfl
@[simp] theorem setArmReady_pending (n : ArmName) (b : Bool) (s : State) : (setArmReady n b s).pending = s.pending := rfl
@[simp] theorem setArmReady_port (n : ArmName) (b : Bool) (s : State) : (setArmReady n b s).port = s.port.setInput b (readyInput n) := rfl

/-! ## What the filtered levels and the sensor link can do -/

theorem rises_iff (level : Bool) (r : Rise) :
    rises level r = true ↔ (level = false ∨ 3 ≤ r.released) ∧ 3 ≤ r.samples := by
  simp [rises, Config.inputSamples]

theorem rises_held {level : Bool} {r : Rise} (h : level = true) (hr : r.released < 3) : rises level r = false := by
  simp [rises, Config.inputSamples, h, hr]

@[simp] theorem levelAfter_others (level : Bool) (r : Rise) (os : List PinRun) :
    levelAfter level { r with others := os } = levelAfter level r := rfl

theorem levelAfter_high {level : Bool} {r : Rise} (h : 3 ≤ r.samples) : levelAfter level r = true := by
  simp [levelAfter, Config.inputSamples, h]

theorem levelAfter_held {level : Bool} {r : Rise} (h : r.samples < 3) (hr : r.released < 3) : levelAfter level r = level := by
  simp [levelAfter, Config.inputSamples, show ¬3 ≤ r.samples by omega, hr]

theorem levelAfter_low {level : Bool} {r : Rise} (h : r.samples < 3) (hr : 3 ≤ r.released) : levelAfter level r = false := by
  simp [levelAfter, Config.inputSamples, show ¬3 ≤ r.samples by omega, show ¬r.released < 3 by omega]

@[simp] theorem samplePins_nil (s : State) : samplePins [] s = s := rfl

/-- Runs of samples change filtered levels and nothing else. -/
theorem samplePins_eq (rs : List PinRun) (s : State) : samplePins rs s = { s with port := (samplePins rs s).port } := by
  suffices ∀ (s t : State), t = { s with port := t.port } →
      rs.foldl samplePin t = { s with port := (rs.foldl samplePin t).port } from this s s rfl
  induction rs with
  | nil => exact fun s t h => h
  | cons r rs ih =>
    intro s t h
    simp only [List.foldl_cons]
    refine ih s (samplePin t r) ?_
    unfold samplePin
    split
    · rw [h]
    · exact h

@[simp] theorem samplePins_stn (rs : List PinRun) (s : State) : (samplePins rs s).stn = s.stn := by rw [samplePins_eq]
@[simp] theorem samplePins_cfg (rs : List PinRun) (s : State) : (samplePins rs s).cfg = s.cfg := by rw [samplePins_eq]
@[simp] theorem samplePins_faultSender (rs : List PinRun) (s : State) : (samplePins rs s).faultSender = s.faultSender := by rw [samplePins_eq]
@[simp] theorem samplePins_fault (rs : List PinRun) (s : State) : (samplePins rs s).fault = s.fault := by rw [samplePins_eq]
@[simp] theorem samplePins_ctl (rs : List PinRun) (s : State) : (samplePins rs s).ctl = s.ctl := by rw [samplePins_eq]
@[simp] theorem samplePins_link (rs : List PinRun) (s : State) : (samplePins rs s).link = s.link := by rw [samplePins_eq]
@[simp] theorem samplePins_msg (rs : List PinRun) (s : State) : (samplePins rs s).msg = s.msg := by rw [samplePins_eq]
@[simp] theorem samplePins_pos (rs : List PinRun) (s : State) : (samplePins rs s).pos = s.pos := by rw [samplePins_eq]
@[simp] theorem samplePins_spd (rs : List PinRun) (s : State) : (samplePins rs s).spd = s.spd := by rw [samplePins_eq]
@[simp] theorem samplePins_slots (rs : List PinRun) (s : State) : (samplePins rs s).slots = s.slots := by rw [samplePins_eq]
@[simp] theorem samplePins_lay (rs : List PinRun) (s : State) : (samplePins rs s).lay = s.lay := by rw [samplePins_eq]
@[simp] theorem samplePins_sup (rs : List PinRun) (s : State) : (samplePins rs s).sup = s.sup := by rw [samplePins_eq]
@[simp] theorem samplePins_set (rs : List PinRun) (s : State) : (samplePins rs s).set = s.set := by rw [samplePins_eq]
@[simp] theorem samplePins_map (rs : List PinRun) (s : State) : (samplePins rs s).map = s.map := by rw [samplePins_eq]
@[simp] theorem samplePins_freeCount (rs : List PinRun) (s : State) : (samplePins rs s).freeCount = s.freeCount := by rw [samplePins_eq]
@[simp] theorem samplePins_pending (rs : List PinRun) (s : State) : (samplePins rs s).pending = s.pending := by rw [samplePins_eq]

/-- Of the Field Port, runs of samples change the filtered levels of inputs 3 to 8 alone. -/
theorem samplePins_port (rs : List PinRun) (s : State) :
    (samplePins rs s).port = { s.port with
      input3 := (samplePins rs s).port.input3, input4 := (samplePins rs s).port.input4, input5 := (samplePins rs s).port.input5
      input6 := (samplePins rs s).port.input6, input7 := (samplePins rs s).port.input7
      restartIn := (samplePins rs s).port.restartIn } := by
  have one : ∀ (p : Port) (b : Bool) (n : Nat), p.setInput b n = { p with
      input3 := (p.setInput b n).input3, input4 := (p.setInput b n).input4, input5 := (p.setInput b n).input5
      input6 := (p.setInput b n).input6, input7 := (p.setInput b n).input7, restartIn := (p.setInput b n).restartIn } := by
    intro p b n
    unfold Port.setInput
    split <;> rfl
  suffices ∀ (s t : State), t.port = { s.port with
        input3 := t.port.input3, input4 := t.port.input4, input5 := t.port.input5
        input6 := t.port.input6, input7 := t.port.input7, restartIn := t.port.restartIn } →
      (rs.foldl samplePin t).port = { s.port with
        input3 := (rs.foldl samplePin t).port.input3, input4 := (rs.foldl samplePin t).port.input4
        input5 := (rs.foldl samplePin t).port.input5, input6 := (rs.foldl samplePin t).port.input6
        input7 := (rs.foldl samplePin t).port.input7, restartIn := (rs.foldl samplePin t).port.restartIn } from this s s rfl
  induction rs with
  | nil => exact fun s t h => h
  | cons r rs ih =>
    intro s t h
    simp only [List.foldl_cons]
    refine ih s (samplePin t r) ?_
    unfold samplePin
    split
    · show t.port.setInput (runActive r) r.input = _
      rw [one, h]
    · exact h

/-- Further readings of the value last read count on. -/
theorem filterReading_more (l v : Bool) (k n : Nat) :
    (List.replicate n v).foldl filterReading (l, v, k) = (if n ≠ 0 ∧ 3 ≤ k + n then v else l, v, k + n) := by
  induction n generalizing l k with
  | zero => simp
  | succ n ih =>
    rw [List.replicate_succ, List.foldl_cons]
    have h : filterReading (l, v, k) v = (if 3 ≤ k + 1 then v else l, v, k + 1) := by simp [filterReading, Config.inputSamples]
    rw [h, ih]
    refine Prod.ext ?_ (Prod.ext rfl (by show k + 1 + n = k + (n + 1); omega))
    show (if n ≠ 0 ∧ 3 ≤ k + 1 + n then v else if 3 ≤ k + 1 then v else l) = if n + 1 ≠ 0 ∧ 3 ≤ k + (n + 1) then v else l
    split_ifs <;> first | rfl | omega

/-- Readings of another value than the last begin a new count. -/
theorem filterReading_turn (l w v : Bool) (k n : Nat) (h : v ≠ w) :
    ((List.replicate n v).foldl filterReading (l, w, k)).1 = if 3 ≤ n then v else l := by
  cases n with
  | zero => simp
  | succ n =>
    rw [List.replicate_succ, List.foldl_cons]
    have e : filterReading (l, w, k) v = (l, v, 1) := by simp [filterReading, Config.inputSamples, h]
    rw [e, filterReading_more]
    show (if n ≠ 0 ∧ 3 ≤ 1 + n then v else l) = _
    split_ifs <;> first | rfl | omega

/-- Of two runs that read opposite values, the later of those that have three readings gives the filtered level. -/
theorem filterReadings_runs (l x : Bool) (a b : Nat) :
    filterReadings l (List.replicate a x ++ List.replicate b (!x)) = if 3 ≤ b then !x else if 3 ≤ a then x else l := by
  unfold filterReadings
  rw [List.foldl_append]
  by_cases h : x = l
  · subst h
    rw [filterReading_more, filterReading_turn _ _ _ _ _ (by simp)]
    simp
  · cases a with
    | zero =>
      obtain rfl : l = !x := by cases l <;> cases x <;> simp_all
      simp [filterReading_more]
    | succ a =>
      rw [List.replicate_succ, List.foldl_cons, show filterReading (l, l, 0) x = (l, x, 1) by simp [filterReading, Config.inputSamples, h],
        filterReading_more, filterReading_turn _ _ _ _ _ (by simp)]
      split_ifs <;> first | rfl | omega

theorem falls_iff (level : Bool) (n : Nat) : falls level n = true ↔ level = true ∧ 3 ≤ n := by
  simp [falls, Config.inputSamples]

theorem hearSensor_idle {b : SensorBurst} {s : State} (h : s.live = false) : hearSensor b s = s := by
  simp [hearSensor, h]

theorem heardReport_idle {b : SensorBurst} {s : State} (h : s.live = false) : s.heardReport b = none := by
  simp [State.heardReport, h]

@[simp] theorem bitsOf_length (c : LinkChar) : (bitsOf c).length = Config.charBits := by simp [bitsOf, Config.charBits]

theorem takeReport_clears {b : SensorBurst} {held : Option (List SensorChar)} {r : SensorReport}
    (h : (takeReport b held).2 = some r) : (takeReport b held).1 = none := by
  revert h
  unfold takeReport
  split
  · exact fun _ => rfl
  · split
    · exact fun h => nomatch h
    · exact fun _ => rfl

theorem heardReport_clears {b : SensorBurst} {s : State} {r : SensorReport} (h : s.heardReport b = some r) :
    (hearSensor b s).port.report = none := by
  unfold State.heardReport at h
  split at h
  · rename_i hl
    simp only [hearSensor_port, if_pos hl]
    exact takeReport_clears h
  · exact nomatch h

end Sys2Proof.Machine
end

