-- ==== Sys2Proof/Laws/Frame.lean ====
section
/-! SUPPORT. What each shared operation leaves alone, said once. Three views of a state blank out what a class of operations may write:
`sansNotices` (handing notices and recording faults), `sansWatched` (also the firing of position watches), `sansHalt` (also the entry to
and exit from a station state). An operation that keeps a view keeps every field the view shows. -/

namespace Sys2Proof.Machine

/-- Blanks what handing notices, recording faults and re-forming the own ceiling write. -/
def State.sansNotices (s : State) : State :=
  { s with
    msg := .reset
    fault := none
    pos.keepAlive := none
    spd.ownValue := 0
    spd.ownReason := .notRunning
    spd.lastPosted := none
    spd.postTimer := none
    sup.rollTimer := none }

/-- Blanks also what the firing of position watches writes. -/
def State.sansWatched (s : State) : State :=
  { s.sansNotices with
    pos.watches := []
    lay := { Laying.reset with
      trim := s.lay.trim, infeedLimit := s.lay.infeedLimit, infeedRef := s.lay.infeedRef, feedTimer := s.lay.feedTimer }
    slots := Vector.replicate 16 Slot.blank
    map.spans := []
    freeCount := 0 }

/-- Blanks also what an entry to or exit from a station state writes. -/
def State.sansHalt (s : State) : State :=
  { s.sansWatched with
    stn := .config
    ctl := .reset
    link.bus := .busy
    link.tx := .waiting
    link.wire := []
    link.latch := none
    pos.reg := .uncaptured
    pos.held := 0
    pos.errorRun := 0
    spd.fine := 0
    sup.brake := false
    sup.fineUnwind := 0
    set := .reset }

theorem sansWatched_of_sansNotices {s t : State} (h : s.sansNotices = t.sansNotices) : s.sansWatched = t.sansWatched := by
  have e : ∀ u : State, u.sansWatched = { u.sansNotices with
      pos.watches := []
      lay := { Laying.reset with
        trim := u.sansNotices.lay.trim, infeedLimit := u.sansNotices.lay.infeedLimit
        infeedRef := u.sansNotices.lay.infeedRef, feedTimer := u.sansNotices.lay.feedTimer }
      slots := Vector.replicate 16 Slot.blank, map.spans := [], freeCount := 0 } := fun _ => rfl
  rw [e s, e t, h]

theorem sansHalt_of_sansWatched {s t : State} (h : s.sansWatched = t.sansWatched) : s.sansHalt = t.sansHalt := by
  unfold State.sansHalt; rw [h]

theorem sansHalt_of_sansNotices {s t : State} (h : s.sansNotices = t.sansNotices) : s.sansHalt = t.sansHalt :=
  sansHalt_of_sansWatched (sansWatched_of_sansNotices h)

/-! ## Notices and faults -/

@[simp] theorem supersede_sansNotices (f : Frame) (s : State) : (supersede f s).sansNotices = s.sansNotices := rfl

@[simp] theorem answer_sansNotices (n : Station) (id : Byte) (c : ReqCode) (f : Final) (s : State) :
    (answer n id c f s).sansNotices = s.sansNotices := rfl

@[simp] theorem interim_sansNotices (n : Station) (id : Byte) (c : ReqCode) (b : AnswerBody) (s : State) :
    (interim n id c b s).sansNotices = s.sansNotices := rfl

@[simp] theorem delay_sansNotices (n : Station) (id : Byte) (b : ReqBody) (s : State) :
    (delay n id b s).sansNotices = s.sansNotices := rfl

@[simp] theorem setOwn_sansNotices (s : State) : (setOwn s).sansNotices = s.sansNotices := rfl

@[simp] theorem postLasting_sansNotices (f : Frame) (s : State) : (postLasting f s).sansNotices = s.sansNotices := by
  unfold postLasting; repeat' split
  all_goals rfl

@[simp] theorem recordFault_sansNotices (c : FaultCode) (d : Nat) (s : State) :
    (recordFault c d s).sansNotices = s.sansNotices := by
  unfold recordFault; split
  · rw [postLasting_sansNotices]; rfl
  · rfl

@[simp] theorem handPosition_sansNotices (s : State) : (handPosition s).sansNotices = s.sansNotices := by
  unfold handPosition; split <;> rfl

@[simp] theorem cadence_sansNotices (o : Word) (s : State) : (cadence o s).sansNotices = s.sansNotices := by
  unfold cadence; split
  · rfl
  · exact handPosition_sansNotices s

@[simp] theorem handCeiling_sansNotices (s : State) : (handCeiling s).sansNotices = s.sansNotices := rfl

@[simp] theorem reformOwn_sansNotices (s : State) : (reformOwn s).sansNotices = s.sansNotices := by
  unfold reformOwn; simp only; split <;> rfl

@[simp] theorem handRollState_sansNotices (s : State) : (handRollState s).sansNotices = s.sansNotices := by
  unfold handRollState; split <;> rfl

@[simp] theorem setSplice_sansNotices (x : SpliceState) (s : State) :
    (setSplice x s).sansNotices
      = { s with sup.splice := x, sup.outstanding := if x = SpliceState.requesting then s.sup.outstanding else none }.sansNotices := by
  unfold setSplice; rw [handRollState_sansNotices, reformOwn_sansNotices]

@[simp] theorem setFestoon_sansNotices (f : Festoon) (s : State) :
    (setFestoon f s).sansNotices = { s with sup.festoon := f }.sansNotices := by
  unfold setFestoon; split
  · rename_i h; subst h; rfl
  · rw [handRollState_sansNotices]

/-! ## Watches and the Laying Unit -/

@[simp] theorem setWatch_sansWatched (w : Watch) (s : State) : (setWatch w s).sansWatched = s.sansWatched := rfl
@[simp] theorem dropWatch_sansWatched (w : Watch) (s : State) : (dropWatch w s).sansWatched = s.sansWatched := rfl
@[simp] theorem dropEvent_sansWatched (e : WatchEvent) (s : State) : (dropEvent e s).sansWatched = s.sansWatched := rfl
@[simp] theorem onLaying_sansWatched (f : LayingItem → LayingItem) (s : State) : (onLaying f s).sansWatched = s.sansWatched := rfl
@[simp] theorem flagLaying_sansWatched (f : PanelFlags → PanelFlags) (s : State) :
    (flagLaying f s).sansWatched = s.sansWatched := rfl
@[simp] theorem modifySlot_sansWatched (n : Nat) (f : Slot → Slot) (s : State) :
    (modifySlot n f s).sansWatched = s.sansWatched := rfl
@[simp] theorem slotGains_sansWatched (n k : Nat) (s : State) : (slotGains n k s).sansWatched = s.sansWatched := rfl
@[simp] theorem slotLoses_sansWatched (n : Nat) (s : State) : (slotLoses n s).sansWatched = s.sansWatched := rfl
@[simp] theorem putSlot_sansWatched (n : Nat) (sl : Slot) (s : State) : (putSlot n sl s).sansWatched = s.sansWatched := rfl

@[simp] theorem postLasting_sansWatched (f : Frame) (s : State) : (postLasting f s).sansWatched = s.sansWatched :=
  sansWatched_of_sansNotices (postLasting_sansNotices f s)
@[simp] theorem recordFault_sansWatched (c : FaultCode) (d : Nat) (s : State) :
    (recordFault c d s).sansWatched = s.sansWatched := sansWatched_of_sansNotices (recordFault_sansNotices c d s)
@[simp] theorem reformOwn_sansWatched (s : State) : (reformOwn s).sansWatched = s.sansWatched :=
  sansWatched_of_sansNotices (reformOwn_sansNotices s)
@[simp] theorem cadence_sansWatched (o : Word) (s : State) : (cadence o s).sansWatched = s.sansWatched :=
  sansWatched_of_sansNotices (cadence_sansNotices o s)
@[simp] theorem handPosition_sansWatched (s : State) : (handPosition s).sansWatched = s.sansWatched :=
  sansWatched_of_sansNotices (handPosition_sansNotices s)
@[simp] theorem handCeiling_sansWatched (s : State) : (handCeiling s).sansWatched = s.sansWatched :=
  sansWatched_of_sansNotices (handCeiling_sansNotices s)

@[simp] theorem dropSeamWatches_sansWatched (e : SeamEntry) (s : State) : (dropSeamWatches e s).sansWatched = s.sansWatched := by
  unfold dropSeamWatches; split <;> rfl

@[simp] theorem evict_sansWatched (q : FlatRange) (s : State) : (evict q s).sansWatched = s.sansWatched := rfl

@[simp] theorem evictOldest_sansWatched (s : State) : (evictOldest s).sansWatched = s.sansWatched := by
  unfold evictOldest; repeat' split
  · rfl
  · rfl
  · rw [evict_sansWatched, postLasting_sansWatched, dropSeamWatches_sansWatched]; rfl

@[simp] theorem enterSeam_sansWatched (e : SeamEntry) (s : State) : (enterSeam e s).sansWatched = s.sansWatched := by
  unfold enterSeam; exact (rfl : _ = (evictOldest s).sansWatched).trans (evictOldest_sansWatched s)

@[simp] theorem seamArrival_sansWatched (a : Word) (s : State) : (seamArrival a s).sansWatched = s.sansWatched := by
  unfold seamArrival; split <;> rfl

@[simp] theorem seamPassed_sansWatched (w : Word) (s : State) : (seamPassed w s).sansWatched = s.sansWatched := by
  unfold seamPassed
  split
  · rfl
  · split
    · rfl
    · simp only; split
      · rw [postLasting_sansWatched]; rfl
      · simp only [postLasting_sansWatched]; rfl

@[simp] theorem commitAt_sansWatched (i : Item) (w : Word) (s : State) : (commitAt i w s).sansWatched = s.sansWatched := by
  unfold commitAt; rw [reformOwn_sansWatched]; rfl

@[simp] theorem commitSlot_sansWatched (n : Station) (id : Byte) (l m : Word) (s : State) :
    (commitSlot n id l m s).sansWatched = s.sansWatched := by
  unfold commitSlot; simp only [commitAt_sansWatched]

@[simp] theorem commitPanel_sansWatched (p : Panel) (r : List Panel) (s : State) :
    (commitPanel p r s).sansWatched = s.sansWatched := by
  unfold commitPanel; simp only; split
  · rw [commitAt_sansWatched]; rfl
  · rw [commitAt_sansWatched]

@[simp] theorem commitRule_sansWatched (s : State) : (commitRule s).sansWatched = s.sansWatched := by
  unfold commitRule; split
  · rfl
  · split
    · exact (rfl : _ = (commitSlot _ _ _ _ s).sansWatched).trans (commitSlot_sansWatched ..)
    · split
      · exact commitPanel_sansWatched ..
      · rfl

@[simp] theorem setCascade_sansWatched (s : State) : (setCascade s).sansWatched = s.sansWatched := by
  unfold setCascade; split
  · split <;> rfl
  · rfl

@[simp] theorem giveStroke_sansWatched (x : Side) (s : State) : (giveStroke x s).sansWatched = s.sansWatched := by
  cases x <;> rfl

@[simp] theorem advanceMark_sansWatched (g : Geom) (s : State) : (advanceMark g s).sansWatched = s.sansWatched := by
  unfold advanceMark; split <;> rfl

@[simp] theorem slipTest_sansWatched (s : State) : (slipTest s).sansWatched = s.sansWatched := by
  unfold slipTest; split
  · split
    · rw [recordFault_sansWatched]; rfl
    · rfl
  · rfl

@[simp] theorem overrun_sansWatched (s : State) : (overrun s).sansWatched = s.sansWatched := by
  unfold overrun; simp only; split
  · split
    · rfl
    · rw [recordFault_sansWatched]; rfl
  · rfl

@[simp] theorem strokeAt_sansWatched (x : Side) (s : State) : (strokeAt x s).sansWatched = s.sansWatched := by
  unfold strokeAt; repeat' split
  · rfl
  · exact overrun_sansWatched s
  · exact giveStroke_sansWatched x s

@[simp] theorem cascadeFires_sansWatched (s : State) : (cascadeFires s).sansWatched = s.sansWatched := by
  unfold cascadeFires; split
  · split
    · rw [setCascade_sansWatched]; rfl
    · simp only [setCascade_sansWatched, onLaying_sansWatched, strokeAt_sansWatched, slipTest_sansWatched,
        advanceMark_sansWatched]
  · rfl

@[simp] theorem itemEnd_sansWatched (s : State) : (itemEnd s).sansWatched = s.sansWatched := by
  unfold itemEnd; split
  · rfl
  · simp only [commitRule_sansWatched, reformOwn_sansWatched]
    split
    · rw [slotLoses_sansWatched, postLasting_sansWatched]; rfl
    · rw [postLasting_sansWatched]; rfl

@[simp] theorem startItem_sansWatched (n : NextItem) (s : State) : (startItem n s).sansWatched = s.sansWatched := by
  unfold startItem
  simp only [commitRule_sansWatched, postLasting_sansWatched, reformOwn_sansWatched, setWatch_sansWatched, setCascade_sansWatched]
  rfl

@[simp] theorem itemStart_sansWatched (s : State) : (itemStart s).sansWatched = s.sansWatched := by
  unfold itemStart; repeat' split
  · rfl
  · exact startItem_sansWatched ..
  · rw [startItem_sansWatched, itemEnd_sansWatched, dropEvent_sansWatched]

@[simp] theorem seamOnLaying_sansWatched (a b : Word) (s : State) : (seamOnLaying a b s).sansWatched = s.sansWatched := by
  unfold seamOnLaying; repeat' split
  all_goals rfl

@[simp] theorem returnNext_sansWatched (p : Panel) (s : State) : (returnNext p s).sansWatched = s.sansWatched := by
  unfold returnNext; rw [reformOwn_sansWatched]; rfl

@[simp] theorem seamOnNext_sansWatched (a b : Word) (s : State) : (seamOnNext a b s).sansWatched = s.sansWatched := by
  unfold seamOnNext; split
  · split
    · split
      · rfl
      · rw [commitRule_sansWatched, returnNext_sansWatched]
    · rfl
  · rfl

@[simp] theorem mapSpan_sansWatched (sp : Span) (s : State) : (mapSpan sp s).sansWatched = s.sansWatched := rfl

@[simp] theorem spanEntry_sansWatched (w : Word) (s : State) : (spanEntry w s).sansWatched = s.sansWatched := by
  unfold spanEntry; split
  · rfl
  · split
    · rfl
    · simp only; split
      · split
        · rfl
        · rw [postLasting_sansWatched]; rfl
      · rfl

@[simp] theorem spanLeave_sansWatched (w : Word) (s : State) : (spanLeave w s).sansWatched = s.sansWatched := by
  unfold spanLeave; split
  · rfl
  · split
    · rfl
    · exact (rfl : _ = (postLasting _ s).sansWatched).trans (postLasting_sansWatched _ s)

@[simp] theorem windowTest_sansWatched (s : State) : (windowTest s).sansWatched = s.sansWatched := rfl

@[simp] theorem deliver_sansWatched (w : Watch) (s : State) : (deliver w s).sansWatched = s.sansWatched := by
  unfold deliver; split <;> first | rfl | simp

theorem fire_sansWatched (n : Nat) (s : State) : (fire n s).sansWatched = s.sansWatched := by
  induction n generalizing s with
  | zero => rfl
  | succ n ih =>
    unfold fire; split
    · rfl
    · rw [ih, deliver_sansWatched, dropWatch_sansWatched]

/-- Firing watches writes nothing but notices and what the Laying and Map Unit do at an event (R62). -/
@[simp] theorem settle_sansWatched (s : State) : (settle s).sansWatched = s.sansWatched := fire_sansWatched _ s

/-! ## Station states -/

@[simp] theorem settle_sansHalt (s : State) : (settle s).sansHalt = s.sansHalt := sansHalt_of_sansWatched (settle_sansWatched s)
@[simp] theorem postLasting_sansHalt (f : Frame) (s : State) : (postLasting f s).sansHalt = s.sansHalt :=
  sansHalt_of_sansNotices (postLasting_sansNotices f s)
@[simp] theorem recordFault_sansHalt (c : FaultCode) (d : Nat) (s : State) : (recordFault c d s).sansHalt = s.sansHalt :=
  sansHalt_of_sansNotices (recordFault_sansNotices c d s)
@[simp] theorem cadence_sansHalt (o : Word) (s : State) : (cadence o s).sansHalt = s.sansHalt :=
  sansHalt_of_sansNotices (cadence_sansNotices o s)
@[simp] theorem handPosition_sansHalt (s : State) : (handPosition s).sansHalt = s.sansHalt :=
  sansHalt_of_sansNotices (handPosition_sansNotices s)
@[simp] theorem handCeiling_sansHalt (s : State) : (handCeiling s).sansHalt = s.sansHalt :=
  sansHalt_of_sansNotices (handCeiling_sansNotices s)

@[simp] theorem noteEdge_sansHalt (s : State) : (noteEdge s).sansHalt = s.sansHalt := by
  unfold noteEdge; split <;> rfl

@[simp] theorem sendPattern_sansHalt (s : State) : (sendPattern s).sansHalt = s.sansHalt := by
  unfold sendPattern; split
  · rfl
  · rw [noteEdge_sansHalt]; rfl

@[simp] theorem uncapture_sansHalt (s : State) : (uncapture s).sansHalt = s.sansHalt := by
  unfold uncapture; split <;> rfl

@[simp] theorem haltRole_sansHalt (s : State) : (haltRole s).sansHalt = s.sansHalt := by
  unfold haltRole; split <;> rfl

@[simp] theorem enterHalted_sansHalt (s : State) : (enterHalted s).sansHalt = s.sansHalt := by
  unfold enterHalted; simp only [cadence_sansHalt, settle_sansHalt]
  split
  · rw [handCeiling_sansHalt, handPosition_sansHalt, haltRole_sansHalt]; rfl
  · rw [handPosition_sansHalt, haltRole_sansHalt]; rfl

@[simp] theorem localCause_sansHalt (c : FaultCode) (d : Nat) (l : Bool) (s : State) :
    (localCause c d l s).sansHalt = s.sansHalt := by
  unfold localCause; repeat' split
  · rfl
  · rw [recordFault_sansHalt]; rfl
  · rw [recordFault_sansHalt]
  · rw [postLasting_sansHalt, sendPattern_sansHalt, enterHalted_sansHalt]; rfl

@[simp] theorem enterListen_sansHalt (s : State) : (enterListen s).sansHalt = s.sansHalt := by
  have h : (handCeiling (handPosition (uncapture
      { s with stn := .listen, ctl.consoleHeard := false, ctl.neighbourHeard := false }))).sansHalt = s.sansHalt := by
    rw [handCeiling_sansHalt, handPosition_sansHalt, uncapture_sansHalt]; rfl
  unfold enterListen; simp only; repeat' split
  · rw [localCause_sansHalt, h]
  · rw [localCause_sansHalt, h]
  · exact h

@[simp] theorem enterReady_sansHalt (s : State) : (enterReady s).sansHalt = s.sansHalt := by
  unfold enterReady; rw [handPosition_sansHalt]; rfl

@[simp] theorem enterRunning_sansHalt (s : State) : (enterRunning s).sansHalt = s.sansHalt := by
  unfold enterRunning; rw [handCeiling_sansHalt, handPosition_sansHalt]; rfl

@[simp] theorem enterReadyOrListen_sansHalt (s : State) : (enterReadyOrListen s).sansHalt = s.sansHalt := by
  unfold enterReadyOrListen; split <;> simp

@[simp] theorem stoppingEnd_sansHalt (s : State) : (stoppingEnd s).sansHalt = s.sansHalt := by
  unfold stoppingEnd; split <;> simp

@[simp] theorem enterStopping_sansHalt (s : State) : (enterStopping s).sansHalt = s.sansHalt := by
  unfold enterStopping; rw [stoppingEnd_sansHalt, handCeiling_sansHalt, handPosition_sansHalt]; rfl

@[simp] theorem listenTest_sansHalt (s : State) : (listenTest s).sansHalt = s.sansHalt := by
  unfold listenTest; split <;> simp

@[simp] theorem releaseRole_sansHalt (s : State) : (releaseRole s).sansHalt = s.sansHalt := by
  unfold releaseRole; split
  · rfl
  · rw [uncapture_sansHalt]; rfl
  · rfl

@[simp] theorem haltedExit_sansHalt (s : State) : (haltedExit s).sansHalt = s.sansHalt := by
  unfold haltedExit; split
  · rw [enterReadyOrListen_sansHalt, releaseRole_sansHalt]; rfl
  · rfl

@[simp] theorem stopCause_sansHalt (s : State) : (stopCause s).sansHalt = s.sansHalt := by
  unfold stopCause; split <;> simp

@[simp] theorem silence_sansHalt (c : FaultCode) (d : Nat) (s : State) : (silence c d s).sansHalt = s.sansHalt := by
  unfold silence; split <;> simp

@[simp] theorem runStateActs_sansHalt (r : Bool) (s : State) : (runStateActs r s).sansHalt = s.sansHalt := by
  unfold runStateActs; repeat' split
  all_goals simp

end Sys2Proof.Machine
end

