-- ==== Sys2Proof/Laws/Queue.lean ====
section
/-! SUPPORT. The outbound queue: each Message Unit operation keeps Law 8 (R38 to R42), and what the other blocks' operations can do to
the Message Unit, said once as the relation `Msg.Hands`. -/

namespace Sys2Proof.Machine

/-! ## Each queue operation keeps Law 8 -/

/-- A lasting notice (section 3.1). -/
def Frame.lasting (f : Frame) : Bool := f.isNotice && !f.superseding

/-- A frame of a kind that may stand in the queue more than once. -/
def Frame.plural (f : Frame) : Bool := f.kind ≠ 0 && f.kind ≠ 1 && f.kind ≠ 4

theorem plural_of_lasting {f : Frame} (h : f.lasting = true) : f.plural = true := by
  cases f <;> simp_all [Frame.lasting, Frame.isNotice, Frame.superseding, Frame.plural, Frame.kind]

theorem plural_of_ask {f : Frame} (h : f.isNotice = false) : f.plural = true := by
  cases f <;> simp_all [Frame.isNotice, Frame.plural, Frame.kind]

theorem place_lawful {m : Msg} {f : Frame} (hr : m.room = true) (hf : f.plural = true) (h : m.queueLawful) :
    (m.place f).queueLawful := by
  obtain ⟨h1, h2, h3, h4⟩ := h
  simp only [Frame.plural, Bool.and_eq_true, decide_eq_true_eq] at hf
  simp only [Msg.room, decide_eq_true_eq] at hr
  refine ⟨by simp only [Msg.place, List.length_append, List.length_singleton]; omega, ?_, ?_, ?_⟩ <;>
    simp_all [Msg.place, Msg.countKind]

theorem countKind_replace (m : Msg) (f : Frame) (k : Nat) :
    (m.queue.map fun e => if e.frame.kind = f.kind then e.replaceWith f else e).countP (fun e => e.frame.kind == k)
      = m.countKind k := by
  simp only [Msg.countKind, List.countP_map]
  apply List.countP_congr
  intro e _
  simp only [Function.comp_apply]
  split <;> simp_all [QEntry.replaceWith]

theorem supersede_lawful {m : Msg} {f : Frame} (hf : f.superseding = true) (h : m.queueLawful) :
    (m.supersede f).queueLawful := by
  obtain ⟨h1, h2, h3, h4⟩ := h
  have hz : ∀ k, m.hasKind k = false → m.countKind k = 0 := by
    intro k hk
    simp only [Msg.hasKind, List.any_eq_false] at hk
    simp only [Msg.countKind, List.countP_eq_zero]
    exact hk
  have hp : ∀ k, m.hasKind k = true → 1 ≤ m.countKind k := by
    intro k hk
    simp only [Msg.hasKind, List.any_eq_true] at hk
    exact List.countP_pos_iff.mpr hk
  unfold Msg.supersede
  split
  · rename_i hk
    refine ⟨by simpa using h1, ?_, ?_, ?_⟩ <;>
      simp only [Msg.countKind] <;> rw [countKind_replace] <;>
      cases f <;> simp_all [Msg.clearHeld, Frame.superseding, Frame.kind] <;> have := hp _ hk <;> omega
  · rename_i hk
    simp only [Bool.not_eq_true] at hk
    split
    · rename_i hr
      simp only [Msg.room, decide_eq_true_eq] at hr
      cases f <;> simp only [Frame.superseding, Bool.false_eq_true] at hf <;>
        simp only [Frame.kind] at hk <;> have := hz _ hk <;>
        refine ⟨by simp [Msg.clearHeld, Msg.place]; omega, ?_, ?_, ?_⟩ <;>
        simp_all [Msg.clearHeld, Msg.place, Msg.countKind, Frame.kind]
    · cases f <;> simp only [Frame.superseding, Bool.false_eq_true] at hf <;>
        simp only [Frame.kind] at hk <;> have := hz _ hk <;>
        refine ⟨h1, ?_, ?_, ?_⟩ <;> simp_all [Msg.hold, Msg.countKind]

theorem unsentFrame_plural {m : Msg} {u : UnsentRef} {f : Frame} (h : m.unsentFrame u = some f) : f.plural = true := by
  cases u <;> simp only [Msg.unsentFrame, Option.map_eq_some_iff] at h <;> obtain ⟨_, _, rfl⟩ := h <;> rfl

theorem refill_lawful {m : Msg} (h : m.queueLawful) : m.refill.queueLawful := by
  unfold Msg.refill
  obtain ⟨h1, h2, h3, h4⟩ := h
  split
  · exact ⟨h1, h2, h3, h4⟩
  · rename_i hr
    have hr : m.queue.length < Config.queueSize := by simpa [Msg.room] using hr
    split
    · refine ⟨by simp [Msg.place]; omega, ?_, ?_, ?_⟩ <;> simp_all [Msg.place, Msg.countKind, Frame.kind]
    · split
      · refine ⟨by simp [Msg.place]; omega, ?_, ?_, ?_⟩ <;> simp_all [Msg.place, Msg.countKind, Frame.kind]
      · split
        · refine ⟨by simp [Msg.place]; omega, ?_, ?_, ?_⟩ <;> simp_all [Msg.place, Msg.countKind, Frame.kind]
        · split
          · exact ⟨h1, h2, h3, h4⟩
          · split
            · rename_i hf
              exact place_lawful (m := { m with unsent := _ }) (by simpa [Msg.room] using hr) (unsentFrame_plural hf)
                ⟨h1, h2, h3, h4⟩
            · exact ⟨h1, h2, h3, h4⟩

theorem countKind_le_of_sublist {m m' : Msg} (k : Nat) (h : m'.queue.Sublist m.queue) : m'.countKind k ≤ m.countKind k :=
  h.countP_le

theorem queueLawful_of_sublist {m m' : Msg} (h : m.queueLawful) (hs : m'.queue.Sublist m.queue)
    (hp : m'.heldPosition = m.heldPosition) (hc : m'.heldCeiling = m.heldCeiling) (hr : m'.heldRollState = m.heldRollState) :
    m'.queueLawful := by
  obtain ⟨h1, h2, h3, h4⟩ := h
  have a := countKind_le_of_sublist 0 hs
  have b := countKind_le_of_sublist 1 hs
  have c := countKind_le_of_sublist 4 hs
  have d := hs.length_le
  refine ⟨by omega, ?_, ?_, ?_⟩
  · rw [hp]; omega
  · rw [hc]; omega
  · rw [hr]; omega

theorem free_lawful {m : Msg} (i : Nat) (h : m.queueLawful) : (m.free i).queueLawful :=
  refill_lawful (queueLawful_of_sublist h (List.eraseIdx_sublist ..) rfl rfl rfl)

/-- Marking, recording and unmarking leave the queue as it is. -/
theorem queueLawful_of_eq {m m' : Msg} (h : m.queueLawful) (hq : m'.queue = m.queue) (hp : m'.heldPosition = m.heldPosition)
    (hc : m'.heldCeiling = m.heldCeiling) (hr : m'.heldRollState = m.heldRollState) : m'.queueLawful :=
  queueLawful_of_sublist h (hq ▸ List.Sublist.refl _) hp hc hr

theorem handAsk_lawful {m : Msg} {f : Frame} (u : UnsentRef) (hf : f.isNotice = false) (h : m.queueLawful) :
    (m.handAsk f u).queueLawful := by
  unfold Msg.handAsk; split
  · exact h
  · split
    · rename_i hr
      exact place_lawful (by simpa [Msg.room, Msg.unmark] using hr) (plural_of_ask hf) (queueLawful_of_eq h rfl rfl rfl rfl)
    · unfold Msg.markUnsent; split
      · exact h
      · exact queueLawful_of_eq h rfl rfl rfl rfl

theorem handInterim_lawful {m : Msg} (a : AnswerMsg) (h : m.queueLawful) : (m.handInterim a).queueLawful := by
  unfold Msg.handInterim; split
  · rename_i hr; exact place_lawful hr rfl h
  · exact h

theorem recordAnswer_frame (m : Msg) (a : Answered) :
    (m.recordAnswer a).queue = m.queue ∧ (m.recordAnswer a).heldPosition = m.heldPosition
      ∧ (m.recordAnswer a).heldCeiling = m.heldCeiling ∧ (m.recordAnswer a).heldRollState = m.heldRollState
      ∧ (m.recordAnswer a).pendings = m.pendings ∧ (m.recordAnswer a).delayed = m.delayed
      ∧ (m.recordAnswer a).passCount = m.passCount ∧ (m.recordAnswer a).lost = m.lost
      ∧ (m.recordAnswer a).nextId = m.nextId := by
  unfold Msg.recordAnswer; simp only; repeat' split
  all_goals exact ⟨rfl, rfl, rfl, rfl, rfl, rfl, rfl, rfl, rfl⟩

theorem finish_lawful {m : Msg} (a : Answered) (h : m.queueLawful) : (m.finish a).queueLawful := by
  obtain ⟨h1, h2, h3, h4, -⟩ := recordAnswer_frame m a
  exact handAsk_lawful _ rfl (queueLawful_of_eq h h1 h2 h3 h4)

theorem map_flight_lawful {m : Msg} (f : QEntry → QEntry) (hf : ∀ e, (f e).frame = e.frame) (h : m.queueLawful) :
    { m with queue := m.queue.map f }.queueLawful := by
  obtain ⟨h1, h2, h3, h4⟩ := h
  have hc : ∀ k, (m.queue.map f).countP (fun e => e.frame.kind == k) = m.countKind k := by
    intro k
    simp only [Msg.countKind, List.countP_map]
    exact List.countP_congr fun e _ => by simp [hf]
  refine ⟨by simpa using h1, ?_, ?_, ?_⟩ <;> simp only [Msg.countKind] <;> rw [hc] <;> assumption

theorem land_lawful {m : Msg} (h : m.queueLawful) : m.land.queueLawful := map_flight_lawful _ (fun _ => rfl) h

theorem modifyAt_map_frame (f : QEntry → QEntry) (hf : ∀ e, (f e).frame = e.frame) (i : Nat) (q : List QEntry) :
    (modifyAt f i q).map (·.frame) = q.map (·.frame) := by
  induction q generalizing i with
  | nil => cases i <;> rfl
  | cons e q ih => cases i <;> simp [modifyAt, hf, ih]

theorem queueLawful_of_frames {m m' : Msg} (h : m.queueLawful) (hq : m'.queue.map (·.frame) = m.queue.map (·.frame))
    (hp : m'.heldPosition = m.heldPosition) (hc : m'.heldCeiling = m.heldCeiling)
    (hr : m'.heldRollState = m.heldRollState) : m'.queueLawful := by
  obtain ⟨h1, h2, h3, h4⟩ := h
  have e : ∀ m : Msg, ∀ k, m.countKind k = (m.queue.map (·.frame)).countP (fun f => f.kind == k) := by
    intro m k; simp only [Msg.countKind, List.countP_map]; rfl
  have l : m'.queue.length = m.queue.length := by simpa using congrArg List.length hq
  refine ⟨by omega, ?_, ?_, ?_⟩ <;> rw [e, hq, ← e] <;> simp_all

/-! ## What the other blocks do to the Message Unit -/

/-- `m.Hands m'`: from `m`, notices have been handed, lost or counted, a frame in flight has landed for a pattern, and pending work has
been completed, giving `m'`. -/
inductive Msg.Hands (m : Msg) : Msg → Prop
  | refl : Hands m m
  | supersede (m' : Msg) (f : Frame) : Hands m m' → f.superseding = true → Hands m (m'.supersede f)
  | lasting (m' : Msg) (f : Frame) : Hands m m' → m'.room = true → f.lasting = true → Hands m (m'.place f)
  | lose (m' : Msg) : Hands m m' → Hands m { m' with lost := satInc m'.lost }
  | land (m' : Msg) : Hands m m' → Hands m m'.land
  | complete (m' : Msg) (r : Station) (id : Byte) (f : Final) (h : Nat) : Hands m m' → Hands m (m'.complete r id f h)

theorem Msg.Hands.trans {a b c : Msg} (h : a.Hands b) (k : b.Hands c) : a.Hands c := by
  induction k with
  | refl => exact h
  | supersede m' f _ hf ih => exact .supersede m' f ih hf
  | lasting m' f _ hr hf ih => exact .lasting m' f ih hr hf
  | lose m' _ ih => exact .lose m' ih
  | land m' _ ih => exact .land m' ih
  | complete m' r id f h _ ih => exact .complete m' r id f h ih

theorem Msg.Hands.lawful {m m' : Msg} (h : m.Hands m') (q : m.queueLawful) : m'.queueLawful := by
  induction h with
  | refl => exact q
  | supersede m' f _ hf ih => exact supersede_lawful hf ih
  | lasting m' f _ hr hf ih => exact place_lawful hr (plural_of_lasting hf) ih
  | lose m' _ ih => exact queueLawful_of_eq ih rfl rfl rfl rfl
  | land m' _ ih => exact land_lawful ih
  | complete m' r id f h _ ih => exact queueLawful_of_eq ih rfl rfl rfl rfl

/-- A lasting notice that waits goes on waiting whatever notices are handed. -/
theorem Msg.Hands.keeps_waiting {m m' : Msg} (h : m.Hands m') {f : Frame} {k : Nat} (hf : f.lasting = true)
    (hm : (⟨f, k, .waiting⟩ : QEntry) ∈ m.queue) : (⟨f, k, .waiting⟩ : QEntry) ∈ m'.queue := by
  induction h with
  | refl => exact hm
  | supersede m' g _ hg ih =>
    unfold Msg.supersede
    split
    · refine List.mem_map.mpr ⟨_, ih, if_neg fun e => ?_⟩
      cases f <;> simp_all [Frame.lasting, Frame.superseding] <;> cases g <;> simp_all [Frame.kind, Frame.isNotice]
    · split
      · exact List.mem_append_left _ (by cases g <;> exact ih)
      · cases g <;> exact ih
  | lasting m' g _ _ _ ih => exact List.mem_append_left _ ih
  | lose m' _ ih => exact ih
  | land m' _ ih => exact List.mem_map.mpr ⟨_, ih, rfl⟩
  | complete m' r id g h _ ih => exact ih

/-- A new request takes an entry of the table that no pending one has (R49). -/
theorem freeEntry_fresh {m : Msg} (h : m.pendings.length < Config.tableSize) :
    m.freeEntry < Config.tableSize ∧ ∀ p ∈ m.pendings, p.entry ≠ m.freeEntry := by
  unfold Msg.freeEntry
  cases e : (List.range Config.tableSize).find? fun k => m.pendings.all fun p => p.entry != k with
  | some k =>
    have := List.find?_some e
    have := List.mem_of_find?_eq_some e
    simp_all
  | none =>
    have sub : List.range Config.tableSize ⊆ m.pendings.map (·.entry) := fun k hk => by
      have := List.find?_eq_none.mp e k hk
      simpa using this
    have := (List.nodup_range.subperm sub).length_le
    simp at this
    omega

theorem satInc_le {n : Nat} (h : n ≤ 255) : satInc n ≤ 255 := by unfold satInc; split <;> omega

theorem clearHeld_frame (m : Msg) (f : Frame) :
    (m.clearHeld f).pendings = m.pendings ∧ (m.clearHeld f).delayed = m.delayed ∧ (m.clearHeld f).passCount = m.passCount
      ∧ (m.clearHeld f).lost = m.lost := by
  cases f <;> exact ⟨rfl, rfl, rfl, rfl⟩

theorem supersede_frame (m : Msg) (f : Frame) :
    (m.supersede f).pendings = m.pendings ∧ (m.supersede f).delayed = m.delayed ∧ (m.supersede f).passCount = m.passCount
      ∧ (m.supersede f).lost = m.lost := by
  unfold Msg.supersede; repeat' split
  · exact clearHeld_frame m f
  · exact clearHeld_frame m f
  · cases f <;> exact ⟨rfl, rfl, rfl, rfl⟩

/-- What identifies a delayed entry. -/
def Delayed.key (d : Delayed) : Station × Byte × ReqBody := (d.requester, d.id, d.body)

/-- Handing notices leaves the request tables and the pass count alone, completes delayed entries without changing what they are, and
keeps the lost count in its range. -/
theorem Msg.Hands.tables {m m' : Msg} (h : m.Hands m') :
    m'.pendings = m.pendings ∧ m'.passCount = m.passCount ∧ m'.delayed.map Delayed.key = m.delayed.map Delayed.key
      ∧ (m.lost ≤ 255 → m'.lost ≤ 255) := by
  induction h with
  | refl => exact ⟨rfl, rfl, rfl, id⟩
  | supersede m' f _ _ ih =>
    obtain ⟨a, b, c, d⟩ := supersede_frame m' f
    obtain ⟨i, j, k, l⟩ := ih
    exact ⟨a.trans i, c.trans j, by rw [b, k], fun x => d ▸ l x⟩
  | lasting m' f _ _ _ ih => exact ih
  | lose m' _ ih =>
    obtain ⟨i, j, k, l⟩ := ih
    exact ⟨i, j, k, fun x => satInc_le (l x)⟩
  | land m' _ ih => exact ih
  | complete m' r id f h _ ih =>
    obtain ⟨i, j, k, l⟩ := ih
    refine ⟨i, j, ?_, l⟩
    rw [← k]
    simp only [Msg.complete, List.map_map]
    apply List.map_congr_left
    intro d _
    simp only [Function.comp_apply]
    split <;> rfl

end Sys2Proof.Machine
end

