-- ==== Sys2Proof/Laws/Hands.lean ====
section
/-! SUPPORT. For each operation of the other blocks: to the Message Unit it hands notices, loses and counts them, lands a frame in flight,
or completes pending work, and nothing else (`Msg.Hands`). Each lemma extends what has been done before it. -/

namespace Sys2Proof.Machine

variable {m : Msg} {s : State}

theorem supersede_hands {f : Frame} (hf : f.superseding = true) (h : m.Hands s.msg) : m.Hands (supersede f s).msg :=
  .supersede _ _ h hf

theorem postLasting_hands {f : Frame} (hf : f.lasting = true) (h : m.Hands s.msg) : m.Hands (postLasting f s).msg := by
  unfold postLasting; repeat' split
  · rename_i hr; exact .lasting _ _ h hr hf
  · exact .lose _ h
  · exact .lose _ (.lose _ h)

theorem recordFault_hands {c : FaultCode} {d : Nat} (h : m.Hands s.msg) : m.Hands (recordFault c d s).msg := by
  unfold recordFault; split
  · exact postLasting_hands rfl h
  · exact h

theorem handPosition_hands (h : m.Hands s.msg) : m.Hands (handPosition s).msg := by
  unfold handPosition; split
  · exact supersede_hands rfl h
  · exact h

theorem cadence_hands {o : Word} (h : m.Hands s.msg) : m.Hands (cadence o s).msg := by
  unfold cadence; split
  · exact h
  · exact handPosition_hands h

theorem handCeiling_hands (h : m.Hands s.msg) : m.Hands (handCeiling s).msg := supersede_hands rfl h

theorem reformOwn_hands (h : m.Hands s.msg) : m.Hands (reformOwn s).msg := by
  unfold reformOwn; simp only; split
  · exact handCeiling_hands h
  · exact h

theorem handRollState_hands (h : m.Hands s.msg) : m.Hands (handRollState s).msg := by
  unfold handRollState; split
  · exact supersede_hands rfl h
  · exact h

theorem setSplice_hands {x : SpliceState} (h : m.Hands s.msg) : m.Hands (setSplice x s).msg := by
  unfold setSplice; exact handRollState_hands (reformOwn_hands h)

theorem setFestoon_hands {f : Festoon} (h : m.Hands s.msg) : m.Hands (setFestoon f s).msg := by
  unfold setFestoon; split
  · exact h
  · exact handRollState_hands h

theorem dropSeamWatches_msg (e : SeamEntry) (s : State) : (dropSeamWatches e s).msg = s.msg := by
  unfold dropSeamWatches; split <;> rfl

theorem evictOldest_hands (h : m.Hands s.msg) : m.Hands (evictOldest s).msg := by
  unfold evictOldest; repeat' split
  · exact h
  · exact h
  · exact postLasting_hands (f := headSeam ..) rfl (by rw [dropSeamWatches_msg]; exact h)

theorem enterSeam_hands {e : SeamEntry} (h : m.Hands s.msg) : m.Hands (enterSeam e s).msg := evictOldest_hands h

theorem seamArrival_msg (a : Word) (s : State) : (seamArrival a s).msg = s.msg := by
  unfold seamArrival; split <;> rfl

theorem seamPassed_hands {w : Word} (h : m.Hands s.msg) : m.Hands (seamPassed w s).msg := by
  unfold seamPassed; split
  · exact h
  · split
    · exact h
    · simp only; split
      · exact postLasting_hands (f := headSeam ..) rfl h
      · exact postLasting_hands (f := headSeam ..) rfl h

theorem commitAt_hands {i : Item} {w : Word} (h : m.Hands s.msg) : m.Hands (commitAt i w s).msg := by
  unfold commitAt; exact reformOwn_hands h

theorem commitSlot_hands {n : Station} {id : Byte} {l g : Word} (h : m.Hands s.msg) : m.Hands (commitSlot n id l g s).msg := by
  unfold commitSlot; exact commitAt_hands h

theorem commitPanel_hands {p : Panel} {r : List Panel} (h : m.Hands s.msg) : m.Hands (commitPanel p r s).msg := by
  unfold commitPanel; simp only; split
  · exact commitAt_hands h
  · exact commitAt_hands h

theorem commitRule_hands (h : m.Hands s.msg) : m.Hands (commitRule s).msg := by
  unfold commitRule; split
  · exact h
  · split
    · exact .complete _ _ _ _ _ (commitSlot_hands h)
    · split
      · exact commitPanel_hands h
      · exact h

theorem setCascade_msg (s : State) : (setCascade s).msg = s.msg := by
  unfold setCascade; split
  · split <;> rfl
  · rfl

theorem advanceMark_msg (g : Geom) (s : State) : (advanceMark g s).msg = s.msg := by
  unfold advanceMark; split <;> rfl

theorem giveStroke_msg (x : Side) (s : State) : (giveStroke x s).msg = s.msg := by cases x <;> rfl

theorem slipTest_hands (h : m.Hands s.msg) : m.Hands (slipTest s).msg := by
  unfold slipTest; split
  · split
    · exact recordFault_hands h
    · exact h
  · exact h

theorem overrun_hands (h : m.Hands s.msg) : m.Hands (overrun s).msg := by
  unfold overrun; simp only; split
  · split
    · exact h
    · exact recordFault_hands h
  · exact h

theorem strokeAt_hands {x : Side} (h : m.Hands s.msg) : m.Hands (strokeAt x s).msg := by
  unfold strokeAt; repeat' split
  · exact h
  · exact overrun_hands h
  · rw [giveStroke_msg]; exact h

theorem cascadeFires_hands (h : m.Hands s.msg) : m.Hands (cascadeFires s).msg := by
  unfold cascadeFires; split
  · split
    · rw [setCascade_msg]; exact h
    · rw [setCascade_msg, onLaying_msg]
      exact strokeAt_hands (slipTest_hands (by rw [advanceMark_msg]; exact h))
  · exact h

theorem itemEnd_hands (h : m.Hands s.msg) : m.Hands (itemEnd s).msg := by
  unfold itemEnd; split
  · exact h
  · refine commitRule_hands (reformOwn_hands ?_)
    split
    · rw [slotLoses_msg]; exact postLasting_hands (f := passEndOf _) rfl h
    · exact postLasting_hands (f := passEndOf _) rfl h

theorem startItem_hands {n : NextItem} (h : m.Hands s.msg) : m.Hands (startItem n s).msg := by
  unfold startItem
  refine commitRule_hands (postLasting_hands rfl (reformOwn_hands ?_))
  rw [setWatch_msg, setCascade_msg]; exact h

theorem itemStart_hands (h : m.Hands s.msg) : m.Hands (itemStart s).msg := by
  unfold itemStart; repeat' split
  · exact h
  · exact startItem_hands h
  · exact startItem_hands (itemEnd_hands h)

theorem seamOnLaying_msg (a b : Word) (s : State) : (seamOnLaying a b s).msg = s.msg := by
  unfold seamOnLaying; repeat' split
  all_goals rfl

theorem returnNext_hands {p : Panel} (h : m.Hands s.msg) : m.Hands (returnNext p s).msg := by
  unfold returnNext; exact reformOwn_hands h

theorem seamOnNext_hands {a b : Word} (h : m.Hands s.msg) : m.Hands (seamOnNext a b s).msg := by
  unfold seamOnNext; split
  · split
    · split
      · exact h
      · exact commitRule_hands (returnNext_hands h)
    · exact h
  · exact h

theorem spanStart_lasting {sp : Span} {f : Frame} (h : spanStart sp = some f) : f.lasting = true := by
  unfold spanStart at h; split at h <;> simp_all <;> subst h <;> rfl

theorem spanEnd_lasting (s : State) (sp : Span) : (spanEnd s sp).lasting = true := by
  unfold spanEnd; split <;> rfl

theorem spanEntry_hands {w : Word} (h : m.Hands s.msg) : m.Hands (spanEntry w s).msg := by
  unfold spanEntry; split
  · exact h
  · split
    · exact h
    · simp only; split
      · rename_i k
        split
        · exact h
        · exact postLasting_hands (spanStart_lasting k) h
      · exact h

theorem spanLeave_hands {w : Word} (h : m.Hands s.msg) : m.Hands (spanLeave w s).msg := by
  unfold spanLeave; split
  · exact h
  · split
    · exact h
    · exact postLasting_hands (spanEnd_lasting ..) h

theorem deliver_hands {w : Watch} (h : m.Hands s.msg) : m.Hands (deliver w s).msg := by
  unfold deliver; split
  · exact itemStart_hands h
  · exact itemEnd_hands h
  · exact cascadeFires_hands h
  · rw [seamArrival_msg]; exact h
  · exact seamPassed_hands h
  · exact h
  · exact spanEntry_hands h
  · exact spanLeave_hands h

theorem fire_hands (n : Nat) (h : m.Hands s.msg) : m.Hands (fire n s).msg := by
  induction n generalizing s with
  | zero => exact h
  | succ n ih =>
    unfold fire; split
    · exact h
    · exact ih (deliver_hands h)

theorem settle_hands (h : m.Hands s.msg) : m.Hands (settle s).msg := fire_hands _ h

/-! ## Transitions -/

@[simp] theorem haltRole_msg (s : State) : (haltRole s).msg = s.msg := by
  unfold haltRole; split <;> rfl

theorem enterHalted_hands (h : m.Hands s.msg) : m.Hands (enterHalted s).msg := by
  have k : m.Hands (handPosition
      (haltRole { s with stn := .halted, ctl.entryClear := s.ctl.lastClear, ctl.quiet := some Config.quietMs })).msg :=
    handPosition_hands (by rw [haltRole_msg]; exact h)
  unfold enterHalted
  refine cadence_hands (settle_hands ?_)
  simp only; split
  · exact handCeiling_hands k
  · exact k

@[simp] theorem noteEdge_msg (s : State) : (noteEdge s).msg = s.msg := by
  unfold noteEdge; split <;> rfl

theorem sendPattern_hands (h : m.Hands s.msg) : m.Hands (sendPattern s).msg := by
  unfold sendPattern; split
  · exact h
  · rw [noteEdge_msg]; exact .land _ h

@[simp] theorem uncapture_msg (s : State) : (uncapture s).msg = s.msg := by
  unfold uncapture; split <;> rfl

theorem releaseRole_msg (s : State) : (releaseRole s).msg = s.msg := by
  unfold releaseRole; split
  · rfl
  · exact uncapture_msg _
  · rfl

theorem localCause_hands {c : FaultCode} {d : Nat} {l : Bool} (h : m.Hands s.msg) : m.Hands (localCause c d l s).msg := by
  unfold localCause; repeat' split
  · exact h
  · exact recordFault_hands h
  · exact recordFault_hands h
  · exact postLasting_hands rfl (sendPattern_hands (enterHalted_hands h))

theorem enterListen_hands (h : m.Hands s.msg) : m.Hands (enterListen s).msg := by
  have k : m.Hands (handCeiling (handPosition (uncapture
      { s with stn := .listen, ctl.consoleHeard := false, ctl.neighbourHeard := false }))).msg :=
    handCeiling_hands (handPosition_hands (by rw [uncapture_msg]; exact h))
  unfold enterListen; simp only; repeat' split
  · exact localCause_hands k
  · exact localCause_hands k
  · exact k

theorem enterReady_hands (h : m.Hands s.msg) : m.Hands (enterReady s).msg := by
  unfold enterReady; exact handPosition_hands h

theorem enterRunning_hands (h : m.Hands s.msg) : m.Hands (enterRunning s).msg := by
  unfold enterRunning; exact handCeiling_hands (handPosition_hands h)

theorem enterReadyOrListen_hands (h : m.Hands s.msg) : m.Hands (enterReadyOrListen s).msg := by
  unfold enterReadyOrListen; split
  · exact enterReady_hands h
  · exact enterListen_hands h

theorem stoppingEnd_hands (h : m.Hands s.msg) : m.Hands (stoppingEnd s).msg := by
  unfold stoppingEnd; split
  · exact enterReadyOrListen_hands h
  · exact h

theorem enterStopping_hands (h : m.Hands s.msg) : m.Hands (enterStopping s).msg := by
  unfold enterStopping; exact stoppingEnd_hands (handCeiling_hands (handPosition_hands h))

theorem stopCause_hands (h : m.Hands s.msg) : m.Hands (stopCause s).msg := by
  unfold stopCause; split
  · exact enterStopping_hands h
  · exact h

theorem listenTest_hands (h : m.Hands s.msg) : m.Hands (listenTest s).msg := by
  unfold listenTest; split
  · exact enterReady_hands h
  · exact h

theorem haltedExit_hands (h : m.Hands s.msg) : m.Hands (haltedExit s).msg := by
  unfold haltedExit; split
  · exact enterReadyOrListen_hands (by rw [releaseRole_msg]; exact h)
  · exact h

theorem haltHeard_hands (h : m.Hands s.msg) : m.Hands (haltHeard s).msg := by
  unfold haltHeard; exact postLasting_hands rfl (enterHalted_hands h)

theorem silence_hands {c : FaultCode} {d : Nat} (h : m.Hands s.msg) : m.Hands (silence c d s).msg := by
  unfold silence; split
  · exact enterListen_hands (recordFault_hands h)
  · exact enterStopping_hands (recordFault_hands h)
  · exact recordFault_hands h
  · exact h

theorem runStateActs_hands {r : Bool} (h : m.Hands s.msg) : m.Hands (runStateActs r s).msg := by
  unfold runStateActs; split
  · exact listenTest_hands h
  · split
    · exact enterRunning_hands h
    · exact h
  · split
    · exact h
    · exact enterStopping_hands h
  · exact haltedExit_hands h
  · exact h

theorem hearNeighbour_hands (h : m.Hands s.msg) : m.Hands (hearNeighbour s).msg := by
  unfold hearNeighbour; exact listenTest_hands h

end Sys2Proof.Machine
end

