-- ==== Sys2Proof/Laws/Fields.lean ====
section
/-! SUPPORT. Single fields through the shared operations: what the views of Laws/Frame.lean say of the configuration, the port, the queue of
commands and the station state, and what handing, recording and halting do to the rest. -/

namespace Sys2Proof.Machine

/-! ## More operations that keep the view `sansHalt` -/

@[simp] theorem reformOwn_sansHalt (s : State) : (reformOwn  s).sansHalt = s.sansHalt := sansHalt_of_sansWatched (reformOwn_sansWatched  s)
@[simp] theorem commitRule_sansHalt (s : State) : (commitRule  s).sansHalt = s.sansHalt := sansHalt_of_sansWatched (commitRule_sansWatched  s)
@[simp] theorem seamOnLaying_sansHalt (a b : Word) (s : State) : (seamOnLaying a b s).sansHalt = s.sansHalt := sansHalt_of_sansWatched (seamOnLaying_sansWatched a b s)
@[simp] theorem seamOnNext_sansHalt (a b : Word) (s : State) : (seamOnNext a b s).sansHalt = s.sansHalt := sansHalt_of_sansWatched (seamOnNext_sansWatched a b s)
@[simp] theorem enterSeam_sansHalt (e : SeamEntry) (s : State) : (enterSeam e s).sansHalt = s.sansHalt := sansHalt_of_sansWatched (enterSeam_sansWatched e s)
@[simp] theorem windowTest_sansHalt (s : State) : (windowTest  s).sansHalt = s.sansHalt := sansHalt_of_sansWatched (windowTest_sansWatched  s)
@[simp] theorem mapSpan_sansHalt (sp : Span) (s : State) : (mapSpan sp s).sansHalt = s.sansHalt := sansHalt_of_sansWatched (mapSpan_sansWatched sp s)
@[simp] theorem commitSlot_sansHalt (n : Station) (id : Byte) (l m : Word) (s : State) : (commitSlot n id l m s).sansHalt = s.sansHalt := sansHalt_of_sansWatched (commitSlot_sansWatched n id l m s)
@[simp] theorem setCascade_sansHalt (s : State) : (setCascade  s).sansHalt = s.sansHalt := sansHalt_of_sansWatched (setCascade_sansWatched  s)
@[simp] theorem commitAt_sansHalt (i : Item) (w : Word) (s : State) : (commitAt i w s).sansHalt = s.sansHalt := sansHalt_of_sansWatched (commitAt_sansWatched i w s)
@[simp] theorem handRollState_sansHalt (s : State) : (handRollState  s).sansHalt = s.sansHalt := sansHalt_of_sansNotices (handRollState_sansNotices  s)
@[simp] theorem haltHeard_sansHalt (s : State) : (haltHeard s).sansHalt = s.sansHalt := by
  unfold haltHeard; rw [postLasting_sansHalt, enterHalted_sansHalt]; rfl
theorem onZone_sansHalt (z f) (s : State) : (onZone z f s).sansHalt = s.sansHalt := rfl
theorem reformVent_sansHalt (s : State) : (reformVent s).sansHalt = s.sansHalt := rfl
theorem reformChest_sansHalt (s : State) : (reformChest s).sansHalt = s.sansHalt := by unfold reformChest; rw [reformOwn_sansHalt]; rfl
theorem controlStep_sansHalt (z v) (s : State) : (controlStep z v s).sansHalt = s.sansHalt := by unfold controlStep; split <;> rfl
theorem tripLimit_sansHalt (z) (s : State) : (tripLimit z s).sansHalt = s.sansHalt := by unfold tripLimit; simp only; split; rfl; rw [localCause_sansHalt]; rfl
theorem goodZone_sansHalt (z v) (s : State) : (goodZone z v s).sansHalt = s.sansHalt := by
  unfold goodZone; rw [reformChest_sansHalt]; split
  · rw [onZone_sansHalt, tripLimit_sansHalt]
  · rw [controlStep_sansHalt]; rfl
theorem dropEvent_sansHalt (e) (s : State) : (dropEvent e s).sansHalt = s.sansHalt := rfl
theorem withdrawSlot_sansHalt (n i) (s : State) : (withdrawSlot n i s).sansHalt = s.sansHalt := by
  unfold withdrawSlot; repeat' split
  · rw [commitRule_sansHalt, reformOwn_sansHalt]; rfl
  · rfl
  · rfl
theorem takeSeamAtHead_sansHalt (m) (s : State) : (takeSeamAtHead m s).sansHalt = s.sansHalt := by
  unfold takeSeamAtHead; simp only; rw [settle_sansHalt, seamOnNext_sansHalt, seamOnLaying_sansHalt, settle_sansHalt, enterSeam_sansHalt]
theorem takePassStart_sansHalt (m) (s : State) : (takePassStart m s).sansHalt = s.sansHalt := by
  unfold takePassStart; repeat' split
  · rfl
  · rfl
  · rw [settle_sansHalt]; rfl
  · rw [recordFault_sansHalt]
theorem takeSeamAtSetter_sansHalt (m) (s : State) : (takeSeamAtSetter m s).sansHalt = s.sansHalt := by
  unfold takeSeamAtSetter forwardSeam placeSeam; repeat' split
  all_goals simp only [postLasting_sansHalt, settle_sansHalt, recordFault_sansHalt]
  rfl
theorem placeOrder_sansHalt (a b c d) (s : State) : (placeOrder a b c d s).sansHalt = s.sansHalt := by
  unfold placeOrder; rw [settle_sansHalt, commitRule_sansHalt]; rfl
theorem cancelOrder_sansHalt (a b) (s : State) : (cancelOrder a b s).sansHalt = s.sansHalt := by
  have : ∀ (l : List Panel) (t : State), (l.foldl (fun t p => slotLoses p.slot t) t).sansHalt = t.sansHalt := by
    intro l
    induction l with
    | nil => intro t; rfl
    | cons a l ih => intro t; simp only [List.foldl_cons]; rw [ih]; rfl
  unfold cancelOrder; simp only; rw [this]; rfl
theorem cancelFlying_sansHalt (s : State) : (cancelFlying s).sansHalt = s.sansHalt := by
  unfold cancelFlying; repeat' split
  all_goals try rw [recordFault_sansHalt]
  all_goals rfl
theorem completeFlying_sansHalt (s : State) : (completeFlying s).sansHalt = s.sansHalt := by
  unfold completeFlying; repeat' split
  all_goals rfl
theorem startFrame_sansHalt (i p n f) (s : State) : (startFrame i p n f s).sansHalt = s.sansHalt := by
  unfold startFrame; rw [noteEdge_sansHalt]; rfl

/-! ## Configuration, port and waiting commands -/

@[simp] theorem settle_cfg (s : State) : (settle  s).cfg = s.cfg := congrArg (fun s => s.cfg) (settle_sansHalt  s)
@[simp] theorem postLasting_cfg (f : Frame) (s : State) : (postLasting f s).cfg = s.cfg := congrArg (fun s => s.cfg) (postLasting_sansHalt f s)
@[simp] theorem recordFault_cfg (c : FaultCode) (d : Nat) (s : State) : (recordFault c d s).cfg = s.cfg := congrArg (fun s => s.cfg) (recordFault_sansHalt c d s)
@[simp] theorem cadence_cfg (o : Word) (s : State) : (cadence o s).cfg = s.cfg := congrArg (fun s => s.cfg) (cadence_sansHalt o s)
@[simp] theorem handPosition_cfg (s : State) : (handPosition  s).cfg = s.cfg := congrArg (fun s => s.cfg) (handPosition_sansHalt  s)
@[simp] theorem handCeiling_cfg (s : State) : (handCeiling  s).cfg = s.cfg := congrArg (fun s => s.cfg) (handCeiling_sansHalt  s)
@[simp] theorem noteEdge_cfg (s : State) : (noteEdge  s).cfg = s.cfg := congrArg (fun s => s.cfg) (noteEdge_sansHalt  s)
@[simp] theorem sendPattern_cfg (s : State) : (sendPattern  s).cfg = s.cfg := congrArg (fun s => s.cfg) (sendPattern_sansHalt  s)
@[simp] theorem uncapture_cfg (s : State) : (uncapture  s).cfg = s.cfg := congrArg (fun s => s.cfg) (uncapture_sansHalt  s)
@[simp] theorem haltRole_cfg (s : State) : (haltRole  s).cfg = s.cfg := congrArg (fun s => s.cfg) (haltRole_sansHalt  s)
@[simp] theorem enterHalted_cfg (s : State) : (enterHalted  s).cfg = s.cfg := congrArg (fun s => s.cfg) (enterHalted_sansHalt  s)
@[simp] theorem localCause_cfg (c : FaultCode) (d : Nat) (l : Bool) (s : State) : (localCause c d l s).cfg = s.cfg := congrArg (fun s => s.cfg) (localCause_sansHalt c d l s)
@[simp] theorem enterListen_cfg (s : State) : (enterListen  s).cfg = s.cfg := congrArg (fun s => s.cfg) (enterListen_sansHalt  s)
@[simp] theorem enterReady_cfg (s : State) : (enterReady  s).cfg = s.cfg := congrArg (fun s => s.cfg) (enterReady_sansHalt  s)
@[simp] theorem enterRunning_cfg (s : State) : (enterRunning  s).cfg = s.cfg := congrArg (fun s => s.cfg) (enterRunning_sansHalt  s)
@[simp] theorem enterReadyOrListen_cfg (s : State) : (enterReadyOrListen  s).cfg = s.cfg := congrArg (fun s => s.cfg) (enterReadyOrListen_sansHalt  s)
@[simp] theorem stoppingEnd_cfg (s : State) : (stoppingEnd  s).cfg = s.cfg := congrArg (fun s => s.cfg) (stoppingEnd_sansHalt  s)
@[simp] theorem enterStopping_cfg (s : State) : (enterStopping  s).cfg = s.cfg := congrArg (fun s => s.cfg) (enterStopping_sansHalt  s)
@[simp] theorem listenTest_cfg (s : State) : (listenTest  s).cfg = s.cfg := congrArg (fun s => s.cfg) (listenTest_sansHalt  s)
@[simp] theorem releaseRole_cfg (s : State) : (releaseRole  s).cfg = s.cfg := congrArg (fun s => s.cfg) (releaseRole_sansHalt  s)
@[simp] theorem haltedExit_cfg (s : State) : (haltedExit  s).cfg = s.cfg := congrArg (fun s => s.cfg) (haltedExit_sansHalt  s)
@[simp] theorem stopCause_cfg (s : State) : (stopCause  s).cfg = s.cfg := congrArg (fun s => s.cfg) (stopCause_sansHalt  s)
@[simp] theorem silence_cfg (c : FaultCode) (d : Nat) (s : State) : (silence c d s).cfg = s.cfg := congrArg (fun s => s.cfg) (silence_sansHalt c d s)
@[simp] theorem runStateActs_cfg (r : Bool) (s : State) : (runStateActs r s).cfg = s.cfg := congrArg (fun s => s.cfg) (runStateActs_sansHalt r s)
@[simp] theorem reformOwn_cfg (s : State) : (reformOwn  s).cfg = s.cfg := congrArg (fun s => s.cfg) (reformOwn_sansHalt  s)
@[simp] theorem commitRule_cfg (s : State) : (commitRule  s).cfg = s.cfg := congrArg (fun s => s.cfg) (commitRule_sansHalt  s)
@[simp] theorem seamOnLaying_cfg (a b : Word) (s : State) : (seamOnLaying a b s).cfg = s.cfg := congrArg (fun s => s.cfg) (seamOnLaying_sansHalt a b s)
@[simp] theorem seamOnNext_cfg (a b : Word) (s : State) : (seamOnNext a b s).cfg = s.cfg := congrArg (fun s => s.cfg) (seamOnNext_sansHalt a b s)
@[simp] theorem enterSeam_cfg (e : SeamEntry) (s : State) : (enterSeam e s).cfg = s.cfg := congrArg (fun s => s.cfg) (enterSeam_sansHalt e s)
@[simp] theorem windowTest_cfg (s : State) : (windowTest  s).cfg = s.cfg := congrArg (fun s => s.cfg) (windowTest_sansHalt  s)
@[simp] theorem mapSpan_cfg (sp : Span) (s : State) : (mapSpan sp s).cfg = s.cfg := congrArg (fun s => s.cfg) (mapSpan_sansHalt sp s)
@[simp] theorem commitSlot_cfg (n : Station) (id : Byte) (l m : Word) (s : State) : (commitSlot n id l m s).cfg = s.cfg := congrArg (fun s => s.cfg) (commitSlot_sansHalt n id l m s)
@[simp] theorem setCascade_cfg (s : State) : (setCascade  s).cfg = s.cfg := congrArg (fun s => s.cfg) (setCascade_sansHalt  s)
@[simp] theorem commitAt_cfg (i : Item) (w : Word) (s : State) : (commitAt i w s).cfg = s.cfg := congrArg (fun s => s.cfg) (commitAt_sansHalt i w s)
@[simp] theorem handRollState_cfg (s : State) : (handRollState  s).cfg = s.cfg := congrArg (fun s => s.cfg) (handRollState_sansHalt  s)
@[simp] theorem haltHeard_cfg (s : State) : (haltHeard  s).cfg = s.cfg := congrArg (fun s => s.cfg) (haltHeard_sansHalt  s)
@[simp] theorem settle_port (s : State) : (settle  s).port = s.port := congrArg (fun s => s.port) (settle_sansHalt  s)
@[simp] theorem postLasting_port (f : Frame) (s : State) : (postLasting f s).port = s.port := congrArg (fun s => s.port) (postLasting_sansHalt f s)
@[simp] theorem recordFault_port (c : FaultCode) (d : Nat) (s : State) : (recordFault c d s).port = s.port := congrArg (fun s => s.port) (recordFault_sansHalt c d s)
@[simp] theorem cadence_port (o : Word) (s : State) : (cadence o s).port = s.port := congrArg (fun s => s.port) (cadence_sansHalt o s)
@[simp] theorem handPosition_port (s : State) : (handPosition  s).port = s.port := congrArg (fun s => s.port) (handPosition_sansHalt  s)
@[simp] theorem handCeiling_port (s : State) : (handCeiling  s).port = s.port := congrArg (fun s => s.port) (handCeiling_sansHalt  s)
@[simp] theorem noteEdge_port (s : State) : (noteEdge  s).port = s.port := congrArg (fun s => s.port) (noteEdge_sansHalt  s)
@[simp] theorem sendPattern_port (s : State) : (sendPattern  s).port = s.port := congrArg (fun s => s.port) (sendPattern_sansHalt  s)
@[simp] theorem uncapture_port (s : State) : (uncapture  s).port = s.port := congrArg (fun s => s.port) (uncapture_sansHalt  s)
@[simp] theorem haltRole_port (s : State) : (haltRole  s).port = s.port := congrArg (fun s => s.port) (haltRole_sansHalt  s)
@[simp] theorem enterHalted_port (s : State) : (enterHalted  s).port = s.port := congrArg (fun s => s.port) (enterHalted_sansHalt  s)
@[simp] theorem localCause_port (c : FaultCode) (d : Nat) (l : Bool) (s : State) : (localCause c d l s).port = s.port := congrArg (fun s => s.port) (localCause_sansHalt c d l s)
@[simp] theorem enterListen_port (s : State) : (enterListen  s).port = s.port := congrArg (fun s => s.port) (enterListen_sansHalt  s)
@[simp] theorem enterReady_port (s : State) : (enterReady  s).port = s.port := congrArg (fun s => s.port) (enterReady_sansHalt  s)
@[simp] theorem enterRunning_port (s : State) : (enterRunning  s).port = s.port := congrArg (fun s => s.port) (enterRunning_sansHalt  s)
@[simp] theorem enterReadyOrListen_port (s : State) : (enterReadyOrListen  s).port = s.port := congrArg (fun s => s.port) (enterReadyOrListen_sansHalt  s)
@[simp] theorem stoppingEnd_port (s : State) : (stoppingEnd  s).port = s.port := congrArg (fun s => s.port) (stoppingEnd_sansHalt  s)
@[simp] theorem enterStopping_port (s : State) : (enterStopping  s).port = s.port := congrArg (fun s => s.port) (enterStopping_sansHalt  s)
@[simp] theorem listenTest_port (s : State) : (listenTest  s).port = s.port := congrArg (fun s => s.port) (listenTest_sansHalt  s)
@[simp] theorem releaseRole_port (s : State) : (releaseRole  s).port = s.port := congrArg (fun s => s.port) (releaseRole_sansHalt  s)
@[simp] theorem haltedExit_port (s : State) : (haltedExit  s).port = s.port := congrArg (fun s => s.port) (haltedExit_sansHalt  s)
@[simp] theorem stopCause_port (s : State) : (stopCause  s).port = s.port := congrArg (fun s => s.port) (stopCause_sansHalt  s)
@[simp] theorem silence_port (c : FaultCode) (d : Nat) (s : State) : (silence c d s).port = s.port := congrArg (fun s => s.port) (silence_sansHalt c d s)
@[simp] theorem runStateActs_port (r : Bool) (s : State) : (runStateActs r s).port = s.port := congrArg (fun s => s.port) (runStateActs_sansHalt r s)
@[simp] theorem reformOwn_port (s : State) : (reformOwn  s).port = s.port := congrArg (fun s => s.port) (reformOwn_sansHalt  s)
@[simp] theorem commitRule_port (s : State) : (commitRule  s).port = s.port := congrArg (fun s => s.port) (commitRule_sansHalt  s)
@[simp] theorem seamOnLaying_port (a b : Word) (s : State) : (seamOnLaying a b s).port = s.port := congrArg (fun s => s.port) (seamOnLaying_sansHalt a b s)
@[simp] theorem seamOnNext_port (a b : Word) (s : State) : (seamOnNext a b s).port = s.port := congrArg (fun s => s.port) (seamOnNext_sansHalt a b s)
@[simp] theorem enterSeam_port (e : SeamEntry) (s : State) : (enterSeam e s).port = s.port := congrArg (fun s => s.port) (enterSeam_sansHalt e s)
@[simp] theorem windowTest_port (s : State) : (windowTest  s).port = s.port := congrArg (fun s => s.port) (windowTest_sansHalt  s)
@[simp] theorem mapSpan_port (sp : Span) (s : State) : (mapSpan sp s).port = s.port := congrArg (fun s => s.port) (mapSpan_sansHalt sp s)
@[simp] theorem commitSlot_port (n : Station) (id : Byte) (l m : Word) (s : State) : (commitSlot n id l m s).port = s.port := congrArg (fun s => s.port) (commitSlot_sansHalt n id l m s)
@[simp] theorem setCascade_port (s : State) : (setCascade  s).port = s.port := congrArg (fun s => s.port) (setCascade_sansHalt  s)
@[simp] theorem commitAt_port (i : Item) (w : Word) (s : State) : (commitAt i w s).port = s.port := congrArg (fun s => s.port) (commitAt_sansHalt i w s)
@[simp] theorem handRollState_port (s : State) : (handRollState  s).port = s.port := congrArg (fun s => s.port) (handRollState_sansHalt  s)
@[simp] theorem haltHeard_port (s : State) : (haltHeard  s).port = s.port := congrArg (fun s => s.port) (haltHeard_sansHalt  s)
@[simp] theorem settle_pending (s : State) : (settle  s).pending = s.pending := congrArg (fun s => s.pending) (settle_sansHalt  s)
@[simp] theorem postLasting_pending (f : Frame) (s : State) : (postLasting f s).pending = s.pending := congrArg (fun s => s.pending) (postLasting_sansHalt f s)
@[simp] theorem recordFault_pending (c : FaultCode) (d : Nat) (s : State) : (recordFault c d s).pending = s.pending := congrArg (fun s => s.pending) (recordFault_sansHalt c d s)
@[simp] theorem cadence_pending (o : Word) (s : State) : (cadence o s).pending = s.pending := congrArg (fun s => s.pending) (cadence_sansHalt o s)
@[simp] theorem handPosition_pending (s : State) : (handPosition  s).pending = s.pending := congrArg (fun s => s.pending) (handPosition_sansHalt  s)
@[simp] theorem handCeiling_pending (s : State) : (handCeiling  s).pending = s.pending := congrArg (fun s => s.pending) (handCeiling_sansHalt  s)
@[simp] theorem noteEdge_pending (s : State) : (noteEdge  s).pending = s.pending := congrArg (fun s => s.pending) (noteEdge_sansHalt  s)
@[simp] theorem sendPattern_pending (s : State) : (sendPattern  s).pending = s.pending := congrArg (fun s => s.pending) (sendPattern_sansHalt  s)
@[simp] theorem uncapture_pending (s : State) : (uncapture  s).pending = s.pending := congrArg (fun s => s.pending) (uncapture_sansHalt  s)
@[simp] theorem haltRole_pending (s : State) : (haltRole  s).pending = s.pending := congrArg (fun s => s.pending) (haltRole_sansHalt  s)
@[simp] theorem enterHalted_pending (s : State) : (enterHalted  s).pending = s.pending := congrArg (fun s => s.pending) (enterHalted_sansHalt  s)
@[simp] theorem localCause_pending (c : FaultCode) (d : Nat) (l : Bool) (s : State) : (localCause c d l s).pending = s.pending := congrArg (fun s => s.pending) (localCause_sansHalt c d l s)
@[simp] theorem enterListen_pending (s : State) : (enterListen  s).pending = s.pending := congrArg (fun s => s.pending) (enterListen_sansHalt  s)
@[simp] theorem enterReady_pending (s : State) : (enterReady  s).pending = s.pending := congrArg (fun s => s.pending) (enterReady_sansHalt  s)
@[simp] theorem enterRunning_pending (s : State) : (enterRunning  s).pending = s.pending := congrArg (fun s => s.pending) (enterRunning_sansHalt  s)
@[simp] theorem enterReadyOrListen_pending (s : State) : (enterReadyOrListen  s).pending = s.pending := congrArg (fun s => s.pending) (enterReadyOrListen_sansHalt  s)
@[simp] theorem stoppingEnd_pending (s : State) : (stoppingEnd  s).pending = s.pending := congrArg (fun s => s.pending) (stoppingEnd_sansHalt  s)
@[simp] theorem enterStopping_pending (s : State) : (enterStopping  s).pending = s.pending := congrArg (fun s => s.pending) (enterStopping_sansHalt  s)
@[simp] theorem listenTest_pending (s : State) : (listenTest  s).pending = s.pending := congrArg (fun s => s.pending) (listenTest_sansHalt  s)
@[simp] theorem releaseRole_pending (s : State) : (releaseRole  s).pending = s.pending := congrArg (fun s => s.pending) (releaseRole_sansHalt  s)
@[simp] theorem haltedExit_pending (s : State) : (haltedExit  s).pending = s.pending := congrArg (fun s => s.pending) (haltedExit_sansHalt  s)
@[simp] theorem stopCause_pending (s : State) : (stopCause  s).pending = s.pending := congrArg (fun s => s.pending) (stopCause_sansHalt  s)
@[simp] theorem silence_pending (c : FaultCode) (d : Nat) (s : State) : (silence c d s).pending = s.pending := congrArg (fun s => s.pending) (silence_sansHalt c d s)
@[simp] theorem runStateActs_pending (r : Bool) (s : State) : (runStateActs r s).pending = s.pending := congrArg (fun s => s.pending) (runStateActs_sansHalt r s)
@[simp] theorem reformOwn_pending (s : State) : (reformOwn  s).pending = s.pending := congrArg (fun s => s.pending) (reformOwn_sansHalt  s)
@[simp] theorem commitRule_pending (s : State) : (commitRule  s).pending = s.pending := congrArg (fun s => s.pending) (commitRule_sansHalt  s)
@[simp] theorem seamOnLaying_pending (a b : Word) (s : State) : (seamOnLaying a b s).pending = s.pending := congrArg (fun s => s.pending) (seamOnLaying_sansHalt a b s)
@[simp] theorem seamOnNext_pending (a b : Word) (s : State) : (seamOnNext a b s).pending = s.pending := congrArg (fun s => s.pending) (seamOnNext_sansHalt a b s)
@[simp] theorem enterSeam_pending (e : SeamEntry) (s : State) : (enterSeam e s).pending = s.pending := congrArg (fun s => s.pending) (enterSeam_sansHalt e s)
@[simp] theorem windowTest_pending (s : State) : (windowTest  s).pending = s.pending := congrArg (fun s => s.pending) (windowTest_sansHalt  s)
@[simp] theorem mapSpan_pending (sp : Span) (s : State) : (mapSpan sp s).pending = s.pending := congrArg (fun s => s.pending) (mapSpan_sansHalt sp s)
@[simp] theorem commitSlot_pending (n : Station) (id : Byte) (l m : Word) (s : State) : (commitSlot n id l m s).pending = s.pending := congrArg (fun s => s.pending) (commitSlot_sansHalt n id l m s)
@[simp] theorem setCascade_pending (s : State) : (setCascade  s).pending = s.pending := congrArg (fun s => s.pending) (setCascade_sansHalt  s)
@[simp] theorem commitAt_pending (i : Item) (w : Word) (s : State) : (commitAt i w s).pending = s.pending := congrArg (fun s => s.pending) (commitAt_sansHalt i w s)
@[simp] theorem handRollState_pending (s : State) : (handRollState  s).pending = s.pending := congrArg (fun s => s.pending) (handRollState_sansHalt  s)
@[simp] theorem haltHeard_pending (s : State) : (haltHeard  s).pending = s.pending := congrArg (fun s => s.pending) (haltHeard_sansHalt  s)

/-! ## Station state -/

@[simp] theorem settle_stn (s : State) : (settle s).stn = s.stn := congrArg (fun s => s.stn) (settle_sansWatched s)
@[simp] theorem postLasting_stn (f : Frame) (s : State) : (postLasting f s).stn = s.stn := congrArg (fun s => s.stn) (postLasting_sansNotices f s)
@[simp] theorem recordFault_stn (c : FaultCode) (d : Nat) (s : State) : (recordFault c d s).stn = s.stn := congrArg (fun s => s.stn) (recordFault_sansNotices c d s)
@[simp] theorem cadence_stn (o : Word) (s : State) : (cadence o s).stn = s.stn := congrArg (fun s => s.stn) (cadence_sansNotices o s)
@[simp] theorem handPosition_stn (s : State) : (handPosition  s).stn = s.stn := congrArg (fun s => s.stn) (handPosition_sansNotices  s)
@[simp] theorem handCeiling_stn (s : State) : (handCeiling  s).stn = s.stn := congrArg (fun s => s.stn) (handCeiling_sansNotices  s)
@[simp] theorem reformOwn_stn (s : State) : (reformOwn  s).stn = s.stn := congrArg (fun s => s.stn) (reformOwn_sansNotices  s)
@[simp] theorem handRollState_stn (s : State) : (handRollState  s).stn = s.stn := congrArg (fun s => s.stn) (handRollState_sansNotices  s)
@[simp] theorem commitRule_stn (s : State) : (commitRule  s).stn = s.stn := congrArg (fun s => s.stn) (commitRule_sansWatched  s)
@[simp] theorem seamOnLaying_stn (a b : Word) (s : State) : (seamOnLaying a b s).stn = s.stn := congrArg (fun s => s.stn) (seamOnLaying_sansWatched a b s)
@[simp] theorem seamOnNext_stn (a b : Word) (s : State) : (seamOnNext a b s).stn = s.stn := congrArg (fun s => s.stn) (seamOnNext_sansWatched a b s)
@[simp] theorem enterSeam_stn (e : SeamEntry) (s : State) : (enterSeam e s).stn = s.stn := congrArg (fun s => s.stn) (enterSeam_sansWatched e s)
@[simp] theorem windowTest_stn (s : State) : (windowTest  s).stn = s.stn := congrArg (fun s => s.stn) (windowTest_sansWatched  s)
@[simp] theorem mapSpan_stn (sp : Span) (s : State) : (mapSpan sp s).stn = s.stn := congrArg (fun s => s.stn) (mapSpan_sansWatched sp s)
@[simp] theorem commitSlot_stn (n : Station) (id : Byte) (l m : Word) (s : State) : (commitSlot n id l m s).stn = s.stn := congrArg (fun s => s.stn) (commitSlot_sansWatched n id l m s)
@[simp] theorem setCascade_stn (s : State) : (setCascade  s).stn = s.stn := congrArg (fun s => s.stn) (setCascade_sansWatched  s)
@[simp] theorem commitAt_stn (i : Item) (w : Word) (s : State) : (commitAt i w s).stn = s.stn := congrArg (fun s => s.stn) (commitAt_sansWatched i w s)

@[simp] theorem noteEdge_stn (s : State) : (noteEdge s).stn = s.stn := by unfold noteEdge; split <;> rfl
@[simp] theorem sendPattern_stn (s : State) : (sendPattern s).stn = s.stn := by unfold sendPattern; split; rfl; rw [noteEdge_stn]
@[simp] theorem uncapture_stn (s : State) : (uncapture s).stn = s.stn := by unfold uncapture; split <;> rfl
@[simp] theorem haltRole_stn (s : State) : (haltRole s).stn = s.stn := by unfold haltRole; split <;> rfl
@[simp] theorem releaseRole_stn (s : State) : (releaseRole s).stn = s.stn := by unfold releaseRole; split; rfl; simp; rfl
@[simp] theorem enterHalted_stn (s : State) : (enterHalted s).stn = .halted := by
  unfold enterHalted; simp only [cadence_stn, settle_stn]; split <;> simp
theorem localCause_stn (c d l) (s : State) : (localCause c d l s).stn = if s.live then .halted else s.stn := by
  unfold localCause
  by_cases h : s.live = true
  · by_cases k : s.stn = .halted <;> simp [h, k]
    split <;> simp [k]
  · simp [h]
@[simp] theorem localCause_live (c d l) (s : State) : (localCause c d l s).live = s.live := by
  unfold State.live; rw [localCause_stn]; split
  · rename_i h; simp only [State.live] at h; rw [h]; rfl
  · rfl
theorem live_of_stn {s : State} {x : StationState} (h : s.stn = x) : s.live = x.live := by unfold State.live; rw [h]
@[simp] theorem enterListen_live (s : State) : (enterListen s).live = true := by
  unfold enterListen; simp only; repeat' split
  all_goals (try rw [localCause_live]); apply (live_of_stn (x := .listen)); simp
@[simp] theorem enterReady_stn (s : State) : (enterReady s).stn = .ready := by unfold enterReady; simp
@[simp] theorem enterRunning_stn (s : State) : (enterRunning s).stn = .running := by unfold enterRunning; simp
@[simp] theorem enterReadyOrListen_live (s : State) : (enterReadyOrListen s).live = true := by
  unfold enterReadyOrListen; split
  · exact live_of_stn (enterReady_stn s)
  · simp
@[simp] theorem stoppingEnd_live (s : State) : (stoppingEnd s).live = s.live := by
  unfold stoppingEnd; split
  · rename_i h; rw [enterReadyOrListen_live, live_of_stn h.1]; rfl
  · rfl
@[simp] theorem enterStopping_live (s : State) : (enterStopping s).live = true := by
  unfold enterStopping; rw [stoppingEnd_live]; apply (live_of_stn (x := .stopping)); simp
@[simp] theorem stopCause_live (s : State) : (stopCause s).live = s.live := by
  unfold stopCause; split
  · rename_i h; rw [enterStopping_live, live_of_stn h]; rfl
  · rfl
@[simp] theorem listenTest_live (s : State) : (listenTest s).live = s.live := by
  unfold listenTest; split
  · rename_i h; rw [live_of_stn (enterReady_stn s), live_of_stn h.1]; rfl
  · rfl
theorem mayLeave_live {s : State} (h : s.mayLeaveHalted = true) : s.live = true := by
  unfold State.mayLeaveHalted at h; simp only [Bool.and_eq_true, decide_eq_true_eq] at h
  rw [live_of_stn h.1.1.1.1]; rfl
@[simp] theorem haltedExit_live (s : State) : (haltedExit s).live = s.live := by
  unfold haltedExit; split
  · rename_i h; rw [enterReadyOrListen_live, mayLeave_live h]
  · rfl
@[simp] theorem silence_live (c d) (s : State) : (silence c d s).live = s.live := by
  unfold silence; split
  · rename_i h; rw [enterListen_live, live_of_stn h]; rfl
  · rename_i h; rw [enterStopping_live, live_of_stn h]; rfl
  · exact live_of_stn (by simp)
  · rfl
@[simp] theorem runStateActs_live (r) (s : State) : (runStateActs r s).live = s.live := by
  unfold runStateActs; split
  · simp
  · rename_i h; split
    · rw [live_of_stn (enterRunning_stn s), live_of_stn h]; rfl
    · rfl
  · rename_i h; split
    · rfl
    · rw [enterStopping_live, live_of_stn h]; rfl
  · simp
  · rfl
@[simp] theorem haltHeard_live (s : State) : (haltHeard s).live = true := by
  unfold haltHeard; apply (live_of_stn (x := .halted)); simp


/-! ## Handing, recording and halting -/

@[simp] theorem settle_ctl (s : State) : (settle s).ctl = s.ctl := congrArg (fun s => s.ctl) (settle_sansWatched s)
@[simp] theorem settle_link (s : State) : (settle s).link = s.link := congrArg (fun s => s.link) (settle_sansWatched s)
@[simp] theorem settle_set (s : State) : (settle s).set = s.set := congrArg (fun s => s.set) (settle_sansWatched s)
@[simp] theorem settle_fine (s : State) : (settle s).spd.fine = s.spd.fine := congrArg (fun s => s.spd.fine) (settle_sansWatched s)
@[simp] theorem settle_brake (s : State) : (settle s).sup.brake = s.sup.brake := congrArg (fun s => s.sup.brake) (settle_sansWatched s)
@[simp] theorem settle_reg (s : State) : (settle s).pos.reg = s.pos.reg := congrArg (fun s => s.pos.reg) (settle_sansWatched s)
@[simp] theorem settle_held (s : State) : (settle s).pos.held = s.pos.held := congrArg (fun s => s.pos.held) (settle_sansWatched s)
@[simp] theorem settle_vHead (s : State) : (settle s).sup.vHead = s.sup.vHead := congrArg (fun s => s.sup.vHead) (settle_sansWatched s)
@[simp] theorem settle_soffset (s : State) : (settle s).sup.offset = s.sup.offset := congrArg (fun s => s.sup.offset) (settle_sansWatched s)
@[simp] theorem settle_poffset (s : State) : (settle s).pos.offset = s.pos.offset := congrArg (fun s => s.pos.offset) (settle_sansWatched s)
@[simp] theorem settle_fsender (s : State) : (settle s).faultSender = s.faultSender := congrArg (fun s => s.faultSender) (settle_sansWatched s)

theorem nextDue_nil {s : State} (h : s.pos.watches = []) : nextDue s = none := by simp [nextDue, h]
theorem settle_none {s : State} (h : nextDue s = none) : settle s = s := by
  unfold settle; rw [show Config.watchFuel = 65535 + 1 from rfl]; unfold fire; simp [h]
theorem settle_nil {s : State} (h : s.pos.watches = []) : settle s = s := settle_none (nextDue_nil h)

-- all the fields that postLasting leaves
@[simp] theorem postLasting_ctl (f : Frame) (s : State) : (postLasting f s).ctl = s.ctl := by unfold postLasting; split_ifs <;> rfl
@[simp] theorem postLasting_link (f : Frame) (s : State) : (postLasting f s).link = s.link := by unfold postLasting; split_ifs <;> rfl
@[simp] theorem postLasting_set (f : Frame) (s : State) : (postLasting f s).set = s.set := by unfold postLasting; split_ifs <;> rfl
@[simp] theorem postLasting_sup (f : Frame) (s : State) : (postLasting f s).sup = s.sup := by unfold postLasting; split_ifs <;> rfl
@[simp] theorem postLasting_pos (f : Frame) (s : State) : (postLasting f s).pos = s.pos := by unfold postLasting; split_ifs <;> rfl
@[simp] theorem postLasting_spd (f : Frame) (s : State) : (postLasting f s).spd = s.spd := by unfold postLasting; split_ifs <;> rfl
@[simp] theorem postLasting_lay (f : Frame) (s : State) : (postLasting f s).lay = s.lay := by unfold postLasting; split_ifs <;> rfl
@[simp] theorem postLasting_map (f : Frame) (s : State) : (postLasting f s).map = s.map := by unfold postLasting; split_ifs <;> rfl
@[simp] theorem postLasting_slots (f : Frame) (s : State) : (postLasting f s).slots = s.slots := by unfold postLasting; split_ifs <;> rfl
@[simp] theorem recordFault_ctl (c d) (s : State) : (recordFault c d s).ctl = s.ctl := by unfold recordFault; split <;> simp
@[simp] theorem recordFault_link (c d) (s : State) : (recordFault c d s).link = s.link := by unfold recordFault; split <;> simp
@[simp] theorem recordFault_set (c d) (s : State) : (recordFault c d s).set = s.set := by unfold recordFault; split <;> simp
@[simp] theorem recordFault_sup (c d) (s : State) : (recordFault c d s).sup = s.sup := by unfold recordFault; split <;> simp
@[simp] theorem recordFault_pos (c d) (s : State) : (recordFault c d s).pos = s.pos := by unfold recordFault; split <;> simp
@[simp] theorem recordFault_spd (c d) (s : State) : (recordFault c d s).spd = s.spd := by unfold recordFault; split <;> simp
@[simp] theorem recordFault_lay (c d) (s : State) : (recordFault c d s).lay = s.lay := by unfold recordFault; split <;> simp
@[simp] theorem recordFault_map (c d) (s : State) : (recordFault c d s).map = s.map := by unfold recordFault; split <;> simp
@[simp] theorem recordFault_slots (c d) (s : State) : (recordFault c d s).slots = s.slots := by unfold recordFault; split <;> simp

@[simp] theorem handPosition_ctl (s : State) : (handPosition s).ctl = s.ctl := by unfold handPosition; split <;> rfl
@[simp] theorem handPosition_link (s : State) : (handPosition s).link = s.link := by unfold handPosition; split <;> rfl
@[simp] theorem handPosition_set (s : State) : (handPosition s).set = s.set := by unfold handPosition; split <;> rfl
@[simp] theorem handPosition_sup (s : State) : (handPosition s).sup = s.sup := by unfold handPosition; split <;> rfl
@[simp] theorem handPosition_spd (s : State) : (handPosition s).spd = s.spd := by unfold handPosition; split <;> rfl
@[simp] theorem handPosition_lay (s : State) : (handPosition s).lay = s.lay := by unfold handPosition; split <;> rfl
@[simp] theorem handPosition_map (s : State) : (handPosition s).map = s.map := by unfold handPosition; split <;> rfl
@[simp] theorem handPosition_slots (s : State) : (handPosition s).slots = s.slots := by unfold handPosition; split <;> rfl
@[simp] theorem handPosition_fault (s : State) : (handPosition s).fault = s.fault := by unfold handPosition; split <;> rfl
@[simp] theorem handPosition_watches (s : State) : (handPosition s).pos.watches = s.pos.watches := by unfold handPosition; split <;> rfl
@[simp] theorem handPosition_reg (s : State) : (handPosition s).pos.reg = s.pos.reg := by unfold handPosition; split <;> rfl
@[simp] theorem handPosition_held (s : State) : (handPosition s).pos.held = s.pos.held := by unfold handPosition; split <;> rfl
@[simp] theorem handPosition_offset (s : State) : (handPosition s).pos.offset = s.pos.offset := by unfold handPosition; split <;> rfl
@[simp] theorem handPosition_errorRun (s : State) : (handPosition s).pos.errorRun = s.pos.errorRun := by unfold handPosition; split <;> rfl
@[simp] theorem handPosition_prev (s : State) : (handPosition s).pos.prev = s.pos.prev := by unfold handPosition; split <;> rfl
@[simp] theorem handCeiling_ctl (s : State) : (handCeiling s).ctl = s.ctl := rfl
@[simp] theorem handCeiling_link (s : State) : (handCeiling s).link = s.link := rfl
@[simp] theorem handCeiling_set (s : State) : (handCeiling s).set = s.set := rfl
@[simp] theorem handCeiling_sup (s : State) : (handCeiling s).sup = s.sup := rfl
@[simp] theorem handCeiling_pos (s : State) : (handCeiling s).pos = s.pos := rfl
@[simp] theorem handCeiling_lay (s : State) : (handCeiling s).lay = s.lay := rfl
@[simp] theorem handCeiling_map (s : State) : (handCeiling s).map = s.map := rfl
@[simp] theorem handCeiling_slots (s : State) : (handCeiling s).slots = s.slots := rfl
@[simp] theorem handCeiling_fault (s : State) : (handCeiling s).fault = s.fault := rfl
@[simp] theorem handCeiling_fine (s : State) : (handCeiling s).spd.fine = s.spd.fine := rfl
@[simp] theorem cadence_ctl (o) (s : State) : (cadence o s).ctl = s.ctl := by unfold cadence; split <;> simp
@[simp] theorem cadence_link (o) (s : State) : (cadence o s).link = s.link := by unfold cadence; split <;> simp
@[simp] theorem cadence_set (o) (s : State) : (cadence o s).set = s.set := by unfold cadence; split <;> simp
@[simp] theorem cadence_sup (o) (s : State) : (cadence o s).sup = s.sup := by unfold cadence; split <;> simp
@[simp] theorem cadence_spd (o) (s : State) : (cadence o s).spd = s.spd := by unfold cadence; split <;> simp
@[simp] theorem cadence_lay (o) (s : State) : (cadence o s).lay = s.lay := by unfold cadence; split <;> simp
@[simp] theorem cadence_map (o) (s : State) : (cadence o s).map = s.map := by unfold cadence; split <;> simp
@[simp] theorem cadence_slots (o) (s : State) : (cadence o s).slots = s.slots := by unfold cadence; split <;> simp
@[simp] theorem cadence_fault (o) (s : State) : (cadence o s).fault = s.fault := by unfold cadence; split <;> simp
@[simp] theorem cadence_watches (o) (s : State) : (cadence o s).pos.watches = s.pos.watches := by unfold cadence; split <;> simp
@[simp] theorem cadence_reg (o) (s : State) : (cadence o s).pos.reg = s.pos.reg := by unfold cadence; split <;> simp
@[simp] theorem cadence_offset (o) (s : State) : (cadence o s).pos.offset = s.pos.offset := by unfold cadence; split <;> simp
@[simp] theorem cadence_errorRun (o) (s : State) : (cadence o s).pos.errorRun = s.pos.errorRun := by unfold cadence; split <;> simp
@[simp] theorem cadence_prev (o) (s : State) : (cadence o s).pos.prev = s.pos.prev := by unfold cadence; split <;> simp
@[simp] theorem cadence_held (o) (s : State) : (cadence o s).pos.held = s.pos.held := by unfold cadence; split <;> simp

@[simp] theorem haltRole_ctl (s : State) : (haltRole s).ctl = s.ctl := by unfold haltRole; split <;> rfl
@[simp] theorem haltRole_link (s : State) : (haltRole s).link = s.link := by unfold haltRole; split <;> rfl
@[simp] theorem haltRole_fault (s : State) : (haltRole s).fault = s.fault := by unfold haltRole; split <;> rfl
@[simp] theorem haltRole_watches (s : State) : (haltRole s).pos.watches = s.pos.watches := by unfold haltRole; split <;> rfl
@[simp] theorem uncapture_ctl (s : State) : (uncapture s).ctl = s.ctl := by unfold uncapture; split <;> rfl
@[simp] theorem uncapture_link (s : State) : (uncapture s).link = s.link := by unfold uncapture; split <;> rfl
@[simp] theorem uncapture_fault (s : State) : (uncapture s).fault = s.fault := by unfold uncapture; split <;> rfl
@[simp] theorem uncapture_watches (s : State) : (uncapture s).pos.watches = s.pos.watches := by unfold uncapture; split <;> rfl
@[simp] theorem uncapture_spd (s : State) : (uncapture s).spd = s.spd := by unfold uncapture; split <;> rfl
@[simp] theorem uncapture_set (s : State) : (uncapture s).set = s.set := by unfold uncapture; split <;> rfl
@[simp] theorem uncapture_sup (s : State) : (uncapture s).sup = s.sup := by unfold uncapture; split <;> rfl
@[simp] theorem uncapture_lay (s : State) : (uncapture s).lay = s.lay := by unfold uncapture; split <;> rfl
@[simp] theorem uncapture_map (s : State) : (uncapture s).map = s.map := by unfold uncapture; split <;> rfl
@[simp] theorem uncapture_slots (s : State) : (uncapture s).slots = s.slots := by unfold uncapture; split <;> rfl

theorem postLasting_room {f : Frame} {s : State} (h : s.msg.room = true) : postLasting f s = { s with msg := s.msg.place f } := by simp [postLasting, h]
theorem recordFault_room {c d} {s : State} (h : s.msg.room = true) (hl : s.live = true) :
    recordFault c d s = { s with fault := some ⟨c, half16 d, s.stn⟩, msg := s.msg.place (.fault ⟨c, half16 d, s.stn⟩) } := by
  simp [recordFault, hl, postLasting, h]

@[simp] theorem enterHalted_ctl (s : State) : (enterHalted s).ctl = { s.ctl with entryClear := s.ctl.lastClear, quiet := some 500 } := by
  unfold enterHalted; simp only; split <;> simp [Config.quietMs]
@[simp] theorem enterHalted_link (s : State) : (enterHalted s).link = s.link := by
  unfold enterHalted; simp only; split <;> simp
theorem enterHalted_set_setter (s : State) (h : s.role = some .setter) : (enterHalted s).set = { s.set with zones := s.set.zones.map Zone.shut, vent := true } := by
  have : ∀ u : State, u.role = some .setter → (haltRole u).set = { u.set with zones := u.set.zones.map Zone.shut, vent := true } := by
    intro u hu; simp only [haltRole, hu]; rfl
  unfold enterHalted; simp only; split <;> simp <;> exact this _ h
/-- The watch that fires next rests on the watches and the positions alone. -/
theorem nextDue_congr {s t : State} (w : t.pos.watches = s.pos.watches) (p : ∀ n, t.posOf n = s.posOf n) : nextDue t = nextDue s := by
  have e : Watch.past t = Watch.past s := funext fun v => by unfold Watch.past; rw [p]
  have f : firstOf t = firstOf s := funext fun v => funext fun v' => by unfold firstOf; rw [e]
  unfold nextDue; rw [w, e, f]

theorem nextDue_of_pos {s t : State} (h : t.pos = s.pos) : nextDue t = nextDue s :=
  nextDue_congr (by rw [h]) fun n => by cases n <;> simp [State.posOf, State.mapPos, h]

theorem nextDue_handPosition (s : State) : nextDue (handPosition s) = nextDue s := by
  unfold handPosition; split
  · exact nextDue_congr rfl fun n => by cases n <;> rfl
  · rfl

theorem haltRole_pos_congr {s t : State} (h : t.pos = s.pos) (r : t.role = s.role) : (haltRole t).pos = (haltRole s).pos := by
  unfold haltRole; rw [r]
  split <;> simp [haltHead, haltSupply, haltSetter, flagLaying, onLaying, h]

/-- Where no watch fires at the entry to HALTED, the entry is the role units' part and the notices. -/
theorem enterHalted_quiet {s : State} (h : nextDue (haltRole s) = none) :
    enterHalted s = cadence s.refPos
      (let t := handPosition (haltRole { s with stn := .halted, ctl.entryClear := s.ctl.lastClear, ctl.quiet := some Config.quietMs })
      if s.stn = .running then handCeiling t else t) := by
  have k : nextDue (handPosition (haltRole
      { s with stn := .halted, ctl.entryClear := s.ctl.lastClear, ctl.quiet := some Config.quietMs })) = none := by
    rw [nextDue_handPosition, ← h]; exact nextDue_of_pos (haltRole_pos_congr rfl rfl)
  unfold enterHalted; simp only; split
  · rw [settle_none]; rw [← k]; exact nextDue_of_pos rfl
  · rw [settle_none k]

theorem enterHalted_fault (s : State) (h : nextDue (haltRole s) = none) : (enterHalted s).fault = s.fault := by
  rw [enterHalted_quiet h, cadence_fault]; simp only; split <;> simp

@[simp] theorem hasKind_supersede (m : Msg) (f : Frame) (k : Nat) (h : m.hasKind k = true) : (m.supersede f).hasKind k = true := by
  unfold Msg.supersede; split
  · simp [Msg.hasKind] at h ⊢; obtain ⟨e, a, b⟩ := h
    refine ⟨e, ?_, ?_⟩; · exact a
    split <;> simp_all [QEntry.replaceWith]
  · split
    · cases f <;> simp_all [Msg.hasKind, Msg.place, Msg.clearHeld]
    · cases f <;> simp_all [Msg.hasKind, Msg.hold]
theorem len_supersede (m : Msg) (f : Frame) : (m.supersede f).queue.length ≤ m.queue.length + 1 := by
  unfold Msg.supersede; split
  · simp
  · split
    · cases f <;> simp [Msg.place, Msg.clearHeld]
    · cases f <;> simp [Msg.hold]
theorem len_handPosition (s : State) : (handPosition s).msg.queue.length ≤ s.msg.queue.length + 1 := by
  unfold handPosition; split
  · exact len_supersede _ _
  · omega
theorem len_handCeiling (s : State) : (handCeiling s).msg.queue.length ≤ s.msg.queue.length + 1 := len_supersede _ _
theorem len_cadence (o) (s : State) : (cadence o s).msg.queue.length ≤ s.msg.queue.length + 1 := by
  unfold cadence; split
  · omega
  · exact len_handPosition s
theorem len_enterHalted (s : State) (h : nextDue (haltRole s) = none) :
    (enterHalted s).msg.queue.length ≤ s.msg.queue.length + 3 := by
  rw [enterHalted_quiet h]
  refine (len_cadence _ _).trans ?_
  have a := len_handPosition (haltRole { s with stn := .halted, ctl.entryClear := s.ctl.lastClear, ctl.quiet := some Config.quietMs })
  simp only; split
  · have b := len_handCeiling
      (handPosition (haltRole { s with stn := .halted, ctl.entryClear := s.ctl.lastClear, ctl.quiet := some Config.quietMs }))
    simp at *; omega
  · simp at *; omega
@[simp] theorem noteEdge_ctl (s : State) : (noteEdge s).ctl = s.ctl := by unfold noteEdge; split <;> rfl
@[simp] theorem noteEdge_set (s : State) : (noteEdge s).set = s.set := by unfold noteEdge; split <;> rfl
@[simp] theorem noteEdge_fault (s : State) : (noteEdge s).fault = s.fault := by unfold noteEdge; split <;> rfl
@[simp] theorem noteEdge_pos (s : State) : (noteEdge s).pos = s.pos := by unfold noteEdge; split <;> rfl
@[simp] theorem noteEdge_tx (s : State) : (noteEdge s).link.tx = s.link.tx := by unfold noteEdge; split <;> rfl
theorem noteEdge_bus (s : State) : (noteEdge s).link.bus = .busy := by unfold noteEdge; split; rfl; cases h : s.link.bus <;> simp_all
@[simp] theorem sendPattern_ctl (s : State) : (sendPattern s).ctl = s.ctl := by unfold sendPattern; split; rfl; simp
@[simp] theorem sendPattern_set (s : State) : (sendPattern s).set = s.set := by unfold sendPattern; split; rfl; simp
@[simp] theorem sendPattern_fault (s : State) : (sendPattern s).fault = s.fault := by unfold sendPattern; split; rfl; simp
@[simp] theorem sendPattern_pos (s : State) : (sendPattern s).pos = s.pos := by unfold sendPattern; split; rfl; simp
@[simp] theorem sendPattern_tx (s : State) : (sendPattern s).link.tx = .sendingStop := by unfold sendPattern; split; assumption; simp
@[simp] theorem len_sendPattern (s : State) : (sendPattern s).msg.queue.length = s.msg.queue.length := by unfold sendPattern; split; rfl; rw [noteEdge_msg]; simp [Msg.land]
theorem localCause_halts {c d l} {s : State} (h : s.live = true) (k : s.stn ≠ .halted) :
    localCause c d l s = postLasting (.fault ⟨c, half16 d, s.stn⟩) (sendPattern (enterHalted { s with fault := some ⟨c, half16 d, s.stn⟩ })) := by
  simp [localCause, h, k]
/-- A local cause is recorded with the state it found, and its FAULT waits: while few frames are queued, and no watch fires. -/
theorem localCause_records {c d l} {s : State} (hl : s.live = true) (h : s.stn = .halted ∨ nextDue (haltRole s) = none)
    (q : s.msg.queue.length ≤ 8) :
    (localCause c d l s).fault = some ⟨c, half16 d, s.stn⟩
      ∧ (⟨.fault ⟨c, half16 d, s.stn⟩, 0, .waiting⟩ : QEntry) ∈ (localCause c d l s).msg.queue := by
  by_cases k : s.stn = .halted
  · have e : ∀ u : State, u.live = true → u.stn = s.stn → u.msg = s.msg →
        (recordFault c d u).fault = some ⟨c, half16 d, s.stn⟩
          ∧ (⟨.fault ⟨c, half16 d, s.stn⟩, 0, .waiting⟩ : QEntry) ∈ (recordFault c d u).msg.queue := by
      intro u a b m
      rw [recordFault_room (by simp [Msg.room, m, Config.queueSize]; omega) a, b]
      exact ⟨rfl, by simp [Msg.place]⟩
    unfold localCause
    simp only [hl, k, Bool.not_true, Bool.false_eq_true, if_true, if_false]
    rw [← k]
    cases l
    · exact e s hl rfl rfl
    · exact e { s with ctl.entryClear := s.ctl.lastClear } hl rfl rfl
  · have h := h.resolve_left k
    have h' : nextDue (haltRole { s with fault := some ⟨c, half16 d, s.stn⟩ }) = none := by
      rw [← h]; exact nextDue_of_pos (haltRole_pos_congr rfl rfl)
    have n := len_enterHalted _ h'
    rw [localCause_halts hl k, postLasting_room (by
      simp only [Msg.room, len_sendPattern, Config.queueSize, decide_eq_true_eq]; simp only at n; omega)]
    exact ⟨by simp [enterHalted_fault _ h'], by simp [Msg.place]⟩

theorem place_hasKind (m : Msg) (f : Frame) : (m.place f).hasKind f.kind = true := by simp [Msg.place, Msg.hasKind]


/-! ## The frame of the commands that are not about the work -/

theorem keepsWork_refl (s : State) : s.keepsWork s := by simp [State.keepsWork]

theorem keepsWork_trans {s t u : State} (a : s.keepsWork t) (b : t.keepsWork u) : s.keepsWork u := by
  unfold State.keepsWork at *; grind

/-- An operation that keeps the view `sansHalt` keeps the work. -/
theorem keepsWork_of_sansHalt {s t : State} (h : t.sansHalt = s.sansHalt) : s.keepsWork t := by
  have e : ∀ {α : Type} (f : State → α), f t.sansHalt = f s.sansHalt := fun f => congrArg f h
  exact ⟨e (·.cfg), e (·.faultSender), e (·.link.accept), e (·.spd.table), e (·.spd.rampTimer), e (·.pos.ch0), e (·.pos.ch1),
    e (·.pos.measured), e (·.pos.prev), e (·.lay.infeedLimit), e (·.lay.infeedRef), e (·.lay.trim), e (·.sup.armA),
    e (·.sup.armB), e (·.sup.splice), e (·.sup.fpos), e (·.sup.unwindRef), e (·.port.refDuty), e (·.port.valveDuty), e (·.pending)⟩

/-! ## The firing of watches as a chain of deliveries -/

theorem fire_of_fires : ∀ {k n : Nat} {s t : State}, fires k s t → k ≤ n → fire n s = t := by
  intro k
  induction k with
  | zero =>
    intro n s t h _
    obtain ⟨h, rfl⟩ := h
    cases n with
    | zero => rfl
    | succ n => simp [fire, h]
  | succ k ih =>
    intro n s t h hn
    obtain ⟨w, hw, h⟩ := h
    obtain ⟨n, rfl⟩ : ∃ m, n = m + 1 := ⟨n - 1, by omega⟩
    simp only [fire, hw]
    exact ih h (by omega)

/-- The firing ends where a chain of deliveries within the bound ends. -/
theorem settle_of_fires {k : Nat} {s t : State} (h : fires k s t) (hk : k ≤ 65536) : settle s = t := fire_of_fires h hk

theorem nextDue_of_fires {k : Nat} {s t : State} (h : fires k s t) : nextDue t = none := by
  induction k generalizing s with
  | zero => obtain ⟨h, rfl⟩ := h; exact h
  | succ k ih => obtain ⟨w, _, h⟩ := h; exact ih h

theorem settle_of_none {s : State} (h : nextDue s = none) : settle s = s := settle_of_fires (k := 0) ⟨h, rfl⟩ (by omega)

end Sys2Proof.Machine
end

