-- ==== Sys2Proof/WellFormed.lean ====
section
/-! DEFINITION. Which commands stand for something that can happen on the part's pins: operand ranges, payload lengths and codes of the
row's own kind of frame (spec/13), and the thresholds that make the row's event (R20, R28, R29, R167). exec gives every command a
meaning, well formed or not. -/

namespace Sys2Proof

open Sys2Proof.Machine

/-- A REQUEST payload of the row's own code, with a length section 13.4 gives for it. -/
def requestWellFormed (code : ReqCode) (p : List Byte) : Bool := (parseRequest code p).isSome

/-- An ANSWER payload with the row's own answer code (section 13.5). -/
def answerWellFormed (code : Byte) (p : List Byte) : Bool := decide (p.length = 10) && byteAt p 2 == code

/-- The characters of a report on a channel of the row's own kind: all of them after the idle line, or the last of a report in
progress. -/
def reportWellFormed (channel : Nat → Bool) (b : SensorBurst) : Bool :=
  if Config.reportGapUs ≤ b.idle then
    match completeReport b.chars with
    | some r => channel r.channel.toNat
    | none => false
  else !b.chars.isEmpty

/-- The characters of a frame of kind 4 or 5, a ROLL STATE or a FAULT: followed at every station, and of no row of its own (log 34). -/
def rowless : List LinkChar → Bool
  | [] => false
  | tag :: _ => isTag tag && decide (tag.data.toNat % 16 = 4 ∨ tag.data.toNat % 16 = 5)

/-- Samples that can change a filtered level of inputs 3 to 8, the input's own or another's (R167). -/
def Rise.wellFormed (r : Rise) : Bool :=
  decide (Config.inputSamples ≤ r.samples) || decide (Config.inputSamples ≤ r.released)
    || r.others.any fun o => decide (3 ≤ o.input ∧ o.input ≤ 8) && decide (Config.inputSamples ≤ o.samples)

/-- Whether a command is well formed. -/
def Instr.wellFormed : Instr → Bool
  | .powerOn => true
  | .configurationReadComplete _ _ _ => true
  | .configurationTimerExpiry => true
  | .configFaultRepeatTimerExpiry => true
  | .restart r => r.wellFormed
  | .eStopBecomesActive n => decide (Config.inputSamples ≤ n)
  | .eStopBecomesInactive n => decide (Config.inputSamples ≤ n)
  | .webBreakBecomesActive n => decide (Config.inputSamples ≤ n)
  | .webBreakBecomesInactive n => decide (Config.inputSamples ≤ n)
  | .lineStopPatternEnd n => decide (n = Config.patternBits)
  | .stopHeard n => decide (Config.stopBits ≤ n)
  | .quietTimerExpiry => true
  | .runState snd p => decide (snd = consoleStation) && decide (p.length = 4)
  | .consoleSilenceTimerExpiry => true
  | .neighbourSilenceTimerExpiry => true
  | .frameStart => true
  | .transmitStart => true
  | .frameWithdrawn n => decide (n < Config.charBits)
  | .frameCancelled n => decide (Config.charBits ≤ n)
  | .frameComplete => true
  | .brokenFrame cs => !goodChars cs || rowless cs
  | .position _ p => decide (p.length = 16)
  | .ceiling _ p => decide (p.length = 4)
  | .lapseTimerExpiry st => decide (st ≠ consoleStation)
  | .panelPassStart _ p => decide (p.length = 14)
  | .panelPassEnd _ p => decide (p.length = 6)
  | .seamAtHead _ p => decide (p.length = 13)
  | .seamAtSetter _ p => decide (p.length = 13)
  | .seamSlot _ p => requestWellFormed .seamSlot p
  | .panelOrder _ p => requestWellFormed .panelOrder p
  | .orderCancel _ p => requestWellFormed .orderCancel p
  | .patternBlock _ p => requestWellFormed .patternBlock p
  | .patternCommit _ p => requestWellFormed .patternCommit p
  | .patternClear _ p => requestWellFormed .patternClear p
  | .rollLoad _ p => requestWellFormed .rollLoad p
  | .setpoint _ p => requestWellFormed .setpoint p
  | .answerWait _ p => answerWellFormed 2 p
  | .answerBusy _ p => answerWellFormed 3 p
  | .answerDone _ p => answerWellFormed 1 p
  | .answerRefused _ p => answerWellFormed 4 p
  | .repeatTimerExpiry entry => decide (entry < 4)
  | .holdTimerExpiry _ _ => true
  | .encoderCount _ _ n => decide (1 ≤ n)
  | .speedTimerExpiry => true
  | .keepAliveTimerExpiry => true
  | .rampTimerExpiry => true
  | .postingTimerExpiry => true
  | .feedTimerExpiry => true
  | .bladeHomeBecomesActive r => r.wellFormed
  | .bladeHomeTimerExpiry => true
  | .strokePulseEnd _ => true
  | .supplyTimerExpiry => true
  | .pressDone r => r.wellFormed
  | .pressTimerExpiry => true
  | .armReadyBecomesActive _ r => r.wellFormed
  | .threadingTimerExpiry _ => true
  | .festoonReading b => reportWellFormed (fun c => decide (c = 0)) b
  | .festoonHoldTimerExpiry => true
  | .rollStateTimerExpiry => true
  | .zoneReport b => reportWellFormed (fun c => decide (c ≤ 3)) b
  | .zoneHoldTimerExpiry z => decide (z ≤ 3)
  | .sampleTimerExpiry => true
  | .stalenessTimerExpiry c => decide (c ≤ 7)
  | .sensorReportDropped b => decide (b.idle < Config.reportGapUs) || (completeReport b.chars).isNone
  | .busIdle n => decide (Config.idleBits ≤ n)
  | .bothAcceptedLevelsChange _ n => decide (1 ≤ n)
  | .pwmPeriodStart => true

end Sys2Proof
end

