-- ==== Sys2Proof/Tests/Slice0.lean ====
section
/-! SUPPORT. Tests by evaluation: the smoke test of the well-formedness checks, the examples of spec/02, and, for every statement that has
hypotheses, a concrete state that meets them, with what the command then does there. -/

namespace Sys2Proof.Tests

set_option Elab.async false

open Sys2Proof Sys2Proof.Machine

/-! ## Small states -/

/-- The state a command leaves. -/
def after (c : Instr) (s : State) : State :=
  match exec c s with
  | .next t => t
  | _ => s

/-- Quantities every station of the tests shares; the member set is that of the example of spec/02, section 2.7. -/
def lineCfg : Cfg :=
  { Cfg.blank with
    members := 0x0F, scale0 := 1024, deglitch := 2, cadenceBit := 12, silenceLimit := 200, repeatInterval := 50
    attemptLimit := 16, answerHold := 1000, ceilingHold := 500, accel := 100, decel := 100, emergencyDecel := 500 }

/-- Station 0, the SUPPLY. -/
def supplyCfg : Cfg :=
  { lineCfg with
    number := 0, role := .supply, neighbour := 1, pathHead := 200000, unwindMax := 6000, festoonCapacity := 100000
    runTarget := 40000, fillTarget := 80000, emptyLimit := 10000, requestThreshold := 500000, runoutReserve := 100000
    minSpliceLead := 3000, seamLength := 500, slotMargin := 100, spliceDuration := 1000, spliceDecel := 200
    pressTimeout := 3000 }

/-- Station 1, the HEAD. -/
def headCfg : Cfg :=
  { lineCfg with
    number := 1, role := .head, neighbour := 0, scale1 := 512, outfeedMax := 3000, infeedMax := 6000, strokeRateMax := 100
    commitLead := 1000, slipLimit := 500, bladeTimeout := 300 }

/-- Station 2, a SETTER. -/
def setterCfg : Cfg :=
  { lineCfg with
    number := 2, role := .setter, neighbour := 1, source := 1, pathSource := 1000, outfeedMax := 3000, chestLength := 300000
    zoneCount := 2, band := 20, hardLimit := 2300, kp := 16, ki := 1, integralLimit := 1000, standstillLimit := 60000
    windowAhead := 5000
    dwell := [⟨1000, 600⟩, ⟨1100, 500⟩, ⟨1200, 400⟩, ⟨1300, 300⟩, ⟨1400, 200⟩, ⟨1500, 100⟩, ⟨1600, 60⟩, ⟨1700, 51⟩] }

/-- A station of a configuration in a state, on an IDLE bus, with its timers running. -/
def station (c : Cfg) (st : StationState) : State :=
  { State.reset with
    stn := st, cfg := some c
    ctl := { Control.reset with configTimer := none }
    link := { Link.reset with bus := .idle, accept := acceptTable c }
    pos.speedTimer := some 10, pos.keepAlive := some 100
    spd.rampTimer := some 10, spd.postTimer := some 100
    port.staleness := Vector.replicate 8 (some 500) }

def head (st : StationState) : State := { station headCfg st with lay.feedTimer := some 10 }
def supply (st : StationState) : State := { station supplyCfg st with sup.supplyTimer := some 10, sup.rollTimer := some 250 }
def setter (st : StationState) : State :=
  { station setterCfg st with
    map.sampleTimer := some 100
    set.zones := [⟨1500, some 1400, .good, 0, 500, none⟩, ⟨0, none, .lost, 0, 0, none⟩] }

/-- `n` entries that hold a SEAM each. -/
def fill (n : Nat) : List QEntry := List.replicate n ⟨.seam ⟨0, 0, false, false, 0⟩, 0, .waiting⟩

/-- The characters of a report, every stop bit high. -/
def chars (r : SensorReport) : List SensorChar := [⟨r.channel, true⟩, ⟨r.low, true⟩, ⟨r.high, true⟩, ⟨r.status, true⟩]

/-! ## Well-formedness: one ill-formed command for each check -/

theorem test_wf_refuses_bounces :
    (Instr.restart ⟨0, 2, []⟩).wellFormed = false ∧ (Instr.eStopBecomesActive 2).wellFormed = false
      ∧ (Instr.eStopBecomesInactive 2).wellFormed = false ∧ (Instr.webBreakBecomesActive 2).wellFormed = false
      ∧ (Instr.webBreakBecomesInactive 2).wellFormed = false ∧ (Instr.bladeHomeBecomesActive ⟨0, 2, []⟩).wellFormed = false
      ∧ (Instr.pressDone ⟨0, 2, []⟩).wellFormed = false ∧ (Instr.armReadyBecomesActive .a ⟨0, 2, []⟩).wellFormed = false
      ∧ (Instr.encoderCount .ch0 .a 0).wellFormed = false ∧ (Instr.bothAcceptedLevelsChange .ch0 0).wellFormed = false := by
  decide

theorem test_wf_refuses_bit_times :
    (Instr.lineStopPatternEnd 63).wellFormed = false ∧ (Instr.stopHeard 39).wellFormed = false
      ∧ (Instr.busIdle 11).wellFormed = false ∧ (Instr.frameWithdrawn 11).wellFormed = false
      ∧ (Instr.frameCancelled 10).wellFormed = false := by
  decide

theorem test_wf_refuses_notices :
    (Instr.runState 7 [1, 0, 0]).wellFormed = false ∧ (Instr.runState 6 [1, 0, 0, 0]).wellFormed = false
      ∧ (Instr.position 1 [0]).wellFormed = false ∧ (Instr.ceiling 1 [0]).wellFormed = false
      ∧ (Instr.panelPassStart 1 [0]).wellFormed = false ∧ (Instr.panelPassEnd 1 [0]).wellFormed = false
      ∧ (Instr.seamAtHead 0 [0]).wellFormed = false ∧ (Instr.seamAtSetter 1 [0]).wellFormed = false
      ∧ (Instr.lapseTimerExpiry 7).wellFormed = false := by
  decide

theorem test_wf_refuses_requests :
    (Instr.seamSlot 0 [1, 1, 2]).wellFormed = false ∧ (Instr.panelOrder 7 [1, 1, 2]).wellFormed = false
      ∧ (Instr.orderCancel 7 [1, 1, 2]).wellFormed = false ∧ (Instr.patternBlock 7 [1, 1, 2]).wellFormed = false
      ∧ (Instr.patternCommit 7 [1, 1, 2]).wellFormed = false ∧ (Instr.patternClear 7 [1, 1, 5, 0]).wellFormed = false
      ∧ (Instr.rollLoad 7 [1, 0, 7]).wellFormed = false ∧ (Instr.setpoint 7 [1, 2, 8]).wellFormed = false := by
  decide

theorem test_wf_refuses_entries : (Instr.repeatTimerExpiry 4).wellFormed = false := by decide

theorem test_wf_refuses_answers :
    (Instr.answerWait 1 [1, 0, 3, 0, 0, 0, 0, 0, 0, 0]).wellFormed = false
      ∧ (Instr.answerBusy 1 [1, 0, 2, 0, 0, 0, 0, 0, 0, 0]).wellFormed = false
      ∧ (Instr.answerDone 1 [1, 0, 4, 0, 0, 0, 0, 0, 0, 0]).wellFormed = false
      ∧ (Instr.answerRefused 1 [1, 0, 4, 0, 0, 0, 0, 0, 0]).wellFormed = false := by
  decide

theorem test_wf_refuses_channels :
    (Instr.festoonReading ⟨300, (chars ⟨1, 0, 0, 0⟩)⟩).wellFormed = false ∧ (Instr.zoneReport ⟨300, (chars ⟨4, 0, 0, 0⟩)⟩).wellFormed = false
      ∧ (Instr.festoonReading ⟨299, []⟩).wellFormed = false ∧ (Instr.zoneReport ⟨300, []⟩).wellFormed = false
      ∧ (Instr.zoneHoldTimerExpiry 4).wellFormed = false ∧ (Instr.stalenessTimerExpiry 8).wellFormed = false
      ∧ (Instr.sensorReportDropped ⟨300, (chars ⟨7, 0, 0, 0⟩)⟩).wellFormed = false := by
  decide

theorem test_wf_refuses_good_frame_as_broken : (Instr.brokenFrame (frameChars 120 [1, 0, 0, 0])).wellFormed = false := by
  decide +kernel

/-! ## The examples of spec/02 and spec/13 -/

/-- The check of the nine characters "123456789" under R22 is 29B1 hex, the value R22 gives. -/
theorem test_crc : crc [0x31, 0x32, 0x33, 0x34, 0x35, 0x36, 0x37, 0x38, 0x39] = 0x29B1 := by decide +kernel

/-- The tags that are not OFF at the four stations of section 2.7. -/
theorem test_accept_tables :
    (List.range 128).filter (fun t => acceptOf supplyCfg t ≠ .off) = [16, 23, 118, 120]
      ∧ (List.range 128).filter (fun t => acceptOf headCfg t ≠ .off) = [0, 1, 3, 6, 33, 49, 118, 120]
      ∧ (List.range 128).filter (fun t => acceptOf setterCfg t ≠ .off) = [1, 16, 17, 18, 19, 49, 118, 120]
      ∧ (List.range 128).filter (fun t => acceptOf { setterCfg with number := 3, neighbour := 2, source := 2 } t ≠ .off)
          = [1, 17, 32, 33, 34, 35, 118, 120] := by
  decide +kernel

/-! ## The step and the laws -/

theorem witness_StepRunsTheFrontCommand :
    ({ head .ready with pending := [.frameStart, .busIdle 12] } : State).pending = .frameStart :: [.busIdle 12]
      ∧ step { head .ready with pending := [.frameStart, .busIdle 12] }
        = exec .frameStart { head .ready with pending := [.busIdle 12] } := ⟨rfl, rfl⟩

theorem witness_EmptyQueueIdles :
    ({ head .ready with link.tx := .sendingTag } : State).pending = []
      ∧ step { head .ready with link.tx := .sendingTag } = .next { head .ready with link.tx := .sendingBody }
      ∧ (head .ready).pending = [] ∧ step (head .ready) = .next (head .ready) := ⟨rfl, rfl, rfl, rfl⟩

/-- A full outbound queue with a POSITION held. -/
def fullQueue : State :=
  { head .ready with msg.queue := fill 12, msg.heldPosition := true, pending := [.frameStart] }

theorem witness_StepKeepsQueueLaw : ∃ s s', step s = .next s' ∧ s.msg.queueLawful :=
  ⟨fullQueue, _, rfl, by unfold Msg.queueLawful; decide +kernel⟩

/-- A KNIFE step: pitch 200, depth 100, ten pleats to the LEFT; F = 400. -/
def knife : StepRec := ⟨1, 1, 200, 0, 100, 10⟩

/-- A BOX step: pitch 200, depth 100, ten pleats; F = 600. -/
def box : StepRec := ⟨2, 0, 200, 0, 100, 10⟩

/-- A committed slot of one step. -/
def readySlot (r : StepRec) : Slot := ({ Slot.blank with places := Slot.blank.places.set 0 ⟨true, r⟩ }.ready 1)

/-- The HEAD in a state with a panel LAYING, a PLANNED GAP NEXT and a panel QUEUED. -/
def laying (st : StationState) : State :=
  { head st with
    slots := (Vector.replicate 16 Slot.blank).set 3 { readySlot knife with inUse := 2 }
    pos.ch0 := ⟨1100 * 1024, false, false⟩, pos.ch1 := ⟨550 * 1024, false, false⟩
    lay.laying := some ⟨.panel ⟨5, 3, 0, 2000, 4000, PanelFlags.none⟩, 1000, 500, 0, 0, 0, false, false⟩
    lay.next := some ⟨.gap ⟨.planned 0 9, 700, false⟩, 5000⟩
    lay.queued := [⟨6, 3, 0, 2000, 4000, PanelFlags.none⟩]
    lay.mark := some 1000, lay.error := 100 }

theorem witness_StepKeepsPanelQueueAndSlots :
    ∃ s s', step s = .next s' ∧ s.itemsLawful ∧ s.slotsLawful := by
  refine ⟨{ laying .running with pending := [.feedTimerExpiry] }, _, rfl, ⟨by decide +kernel, by decide +kernel, ?_⟩, ?_⟩
  · intro l n h k; cases h; cases k; decide
  · unfold State.slotsLawful; decide +kernel

theorem witness_StepKeepsSpeedLimitLaws :
    (∃ s s', step s = .next s' ∧ s.infeedLawful ∧ s.isRole .head = true ∧ s.lay.infeedRef = s.lay.infeedLimit)
      ∧ ∃ s s', step s = .next s' ∧ s.ceilingLawful ∧ s.isRole .setter = true := by
  refine ⟨⟨{ head .running with
      spd.table := (Vector.replicate 7 .neverHeard).set 0 (.current ⟨2500, true, .unwindMax⟩ 500)
      lay.infeedLimit := 2500, lay.infeedRef := 2500, pending := [.frameStart] }, _, rfl, ?_⟩,
    ⟨{ setOwn (setter .ready) with pending := [.frameStart] }, _, rfl, ?_⟩⟩
  · unfold State.infeedLawful; decide +kernel
  · unfold State.ceilingLawful; decide +kernel

/-- The HEAD with a panel LAYING and an infeed limit, its own ceiling formed. -/
def layingAt (limit : Nat) : State := setOwn { laying .running with lay.infeedLimit := limit }

theorem witness_HeadCeilingIsKept :
    ∃ s s', step s = .next s' ∧ s.slotsLawful ∧ s.isRole .head = true ∧ (s.spd.ownValue, s.spd.ownReason) = headCeiling s
      ∧ s'.isRole .head = true :=
  ⟨{ layingAt 2500 with pending := [.feedTimerExpiry] }, _, rfl, by unfold State.slotsLawful; decide +kernel⟩

/-- An infeed limit of 400 gives the folded step an INFEED term of 200, equal to its STROKE term; 402 gives 201. -/
theorem witness_HeadCeilingTerms :
    (layingAt 402).strokeTerm 200 ∧ (layingAt 400).infeedTerm 200 ∧ headCeiling (layingAt 402) = (200, .stroke)
      ∧ headCeiling (layingAt 400) = (200, .infeed)
      ∧ headCeiling { head .running with lay.infeedLimit := 3000 } = (3000, .infeed)
      ∧ headCeiling { head .running with lay.infeedLimit := 3001 } = (3000, .outfeedMax) := by
  have step : ∀ n, (layingAt n).committedStep ⟨200, 2, 1, 400⟩ := fun n =>
    ⟨⟨5, 3, 0, 2000, 4000, PanelFlags.none⟩, .inl ⟨_, rfl, rfl⟩, List.mem_cons_self⟩
  refine ⟨⟨_, step 402, by decide +kernel⟩, .inr ⟨_, step 400, by decide +kernel⟩, ?_⟩
  decide +kernel

/-- The SUPPLY with arm A running and arm B loaded. -/
def rolls (st : StationState) : State :=
  { supply st with
    sup.armA := ⟨.running, some 21, 600000, 400000, false, none⟩
    sup.armB := ⟨.loaded, some 22, 700000, 700000, false, none⟩
    sup.festoon := .good, sup.content := 40000, sup.vHead := 1200 }

theorem witness_StepKeepsSpliceLaw :
    ∃ s s', step s = .next s' ∧ s.armsLawful ∧ s.sup.pressFire = false ∧ s'.sup.pressFire = true :=
  ⟨{ rolls .running with sup.splice := .pressing, pending := [.supplyTimerExpiry] }, _, rfl,
    by unfold State.armsLawful; decide +kernel, by decide +kernel, by decide +kernel⟩

/-- A SETTER with two panels and a seam in its map, the first panel IN CHEST. -/
def mapped (st : StationState) : State :=
  { setter st with
    pos.reg := .tracking, pos.offset := 1000
    map.spans :=
      [⟨.panel 5 3 0, 0, 2000, PanelFlags.none, PanelFlags.none, false, .inChest 1000 (some 1400) 0⟩,
        ⟨.seam false, 2000, 10, PanelFlags.none, PanelFlags.none, false, .approaching⟩,
        ⟨.panel 6 3 0, 3000, 2000, PanelFlags.none, PanelFlags.none, false, .approaching⟩] }

theorem witness_StepKeepsMapLaw : ∃ s s', step s = .next s' ∧ s.mapLawful := by
  refine ⟨{ mapped .running with pending := [.sampleTimerExpiry] }, _, rfl, by decide +kernel, ?_⟩
  simp [mapped, Span.isPanel]

theorem witness_StepKeepsSpanOrder :
    ∃ s s', step s = .next s' ∧ s.spansNear 0 ∧ s'.spansNear 0 ∧ s.mapOrdered ∧ s.map.spans.length = 3 :=
  ⟨{ mapped .running with pending := [.sampleTimerExpiry] }, _, rfl, by unfold State.spansNear State.mapOrdered; decide +kernel⟩

theorem witness_StepKeepsHeatLaw : ∃ s s', step s = .next s' ∧ s.heatLawful :=
  ⟨{ setter .running with pending := [.zoneReport ⟨300, (chars ⟨0, 0x78, 0x05, 0⟩)⟩] }, _, rfl, by unfold State.heatLawful; decide +kernel⟩

theorem witness_OtherCommandsKeepTheWork : ∃ s t, writesWork (.stopHeard 40) = false ∧ exec (.stopHeard 40) s = .next t ∧ t.stn = .halted :=
  ⟨rolls .running, _, rfl, rfl, by decide +kernel⟩

/-- The bytes of a valid record of the HEAD of the tests, without its check word. -/
def headByte : Nat → Byte
  | 0 => 1 | 1 => 1 | 2 => 0x0F | 15 => 4 | 17 => 2 | 18 => 2 | 29 => 100 | 31 => 100 | 33 => 0xF4 | 34 => 1
  | 35 => 0xB8 | 36 => 0x0B | 37 => 0x70 | 38 => 0x17 | 41 => 100 | 43 => 0xE8 | 44 => 3
  | _ => 0

/-- A record with the sum of its first 148 bytes as its check word. -/
def recordOf (f : Nat → Byte) : Vector Byte 150 :=
  Vector.ofFn fun i => if i.val < 148 then f i else (halfBytes (checkSum ((List.range 148).map f))).getD (i - 148) 0

theorem witness_StepKeepsTablesAndCounts :
    (∃ s s', step s = .next s' ∧ s.modeLawful ∧ s.tablesLawful ∧ s'.stn = .listen) ∧ ∃ s s', step s = .next s' ∧ s.countsLawful := by
  refine ⟨⟨{ State.reset with pending := [.configurationReadComplete (recordOf headByte) ⟨false, false⟩ ⟨true, false⟩] }, _, rfl,
    ⟨by decide, fun c h => nomatch h⟩, ?_, by decide +kernel⟩, ⟨{ supply .running with
      msg.passCount := 2, msg.lost := 255, link.broken := 255, spd.setSpeed := 6000, sup.content := 3276700
      pending := [.brokenFrame [⟨0, false, true⟩]] }, _, rfl, by unfold State.countsLawful; decide +kernel⟩⟩
  unfold State.tablesLawful
  refine ⟨by decide, fun _ => rfl, ?_, ?_, by decide, by decide, ?_⟩ <;> intro x h <;> cases h

/-! ## Station Control -/

/-- A RUN STATE payload. -/
def runPayload (command : Byte) (clear : Byte) : List Byte := [command, 0xE8, 0x03, clear]

/-- The latch of a frame that starts now. -/
def nowOf (s : State) : Latch := s.latchNow

theorem witness_TargetWithinEveryLimit :
    effectiveTarget { head .running with
        spd.setSpeed := 1000, spd.ownValue := 900
        spd.table := ((Vector.replicate 7 .neverHeard).set 0 (.current ⟨2500, true, .unwindMax⟩ 1)
          |>.set 2 (.current ⟨700, false, .dwell⟩ 1) |>.set 3 (.current ⟨800, false, .dwell⟩ 1)) } = 700
      ∧ consoleStation ≠ 2#3 ∧ (head .running).otherMember 2 = true := by
  decide +kernel

theorem witness_ValidRecordEntersListen :
    State.reset.stn = .config ∧ State.reset.ctl.configTimer.isSome = true ∧ recordFailure (recordOf headByte).toList = none
      ∧ State.reset.port.eStop = false ∧ State.reset.port.webBreak = false
      ∧ (after (.configurationReadComplete (recordOf headByte) ⟨false, true⟩ ⟨true, false⟩) State.reset).stn = .listen
      ∧ (after (.configurationReadComplete (recordOf headByte) ⟨false, true⟩ ⟨true, false⟩) State.reset).pos.ch1
        = ⟨0, true, false⟩ := by
  decide +kernel

/-- The record of the HEAD with another station number, 6 and 7 being the last usable and the first unusable. -/
def numbered (n : Byte) : Nat → Byte
  | 0 => n
  | i => headByte i

theorem witness_ConfigFaultIsEnteredAndRepeats :
    (recordFailure (recordOf (numbered 6)).toList).isSome = true ∧ (recordFailure (recordOf (numbered 7)).toList).isSome = true
      ∧ (after (.configurationReadComplete (recordOf (numbered 6)) ⟨false, false⟩ ⟨false, false⟩) State.reset).faultSender = some 6
      ∧ (after (.configurationReadComplete (recordOf (numbered 7)) ⟨false, false⟩ ⟨false, false⟩) State.reset).faultSender = none
      ∧ (after .configurationTimerExpiry State.reset).fault = some ⟨.configBad, 0, .config⟩ := by
  decide +kernel

/-- CONFIG FAULT with a usable number, its first FAULT notice sent. -/
def badStation : State :=
  { State.reset with stn := .configFault, faultSender := some 6, fault := some ⟨.configBad, 4, .config⟩, ctl.repeatTimer := some 1000 }

theorem witness_ConfigFaultRepeats :
    badStation.msg.hasKind 5 = false ∧ badStation.msg.room = true
      ∧ (after .configFaultRepeatTimerExpiry badStation).msg.queue.length = 1
      ∧ (after .configFaultRepeatTimerExpiry (after .configFaultRepeatTimerExpiry badStation)).msg.queue.length = 1 := by
  decide +kernel

theorem witness_RestartClearsWorkState :
    (laying .running).live = true ∧ (after (.restart ⟨0, 3, []⟩) (laying .running)).stn = .listen
      ∧ (after (.restart ⟨0, 3, []⟩) (laying .running)).panels = [] ∧ (after (.restart ⟨0, 2, []⟩) (laying .running)) = laying .running
      ∧ (after (.restart ⟨0, 3, []⟩) { laying .running with port.eStop := true }).stn = .halted
      ∧ (after (.restart ⟨0, 3, []⟩) { laying .running with link.tx := .sendingStop }).link.tx = .sendingStop := by
  decide +kernel

/-- A restart acts on a level that became active: with the input held, only behind three inactive samples. -/
theorem witness_RestartActsOncePerLevel :
    ({ laying .running with port.restartIn := true } : State).live = true
      ∧ (after (.restart ⟨2, 3, []⟩) { laying .running with port.restartIn := true }).stn = .running
      ∧ (after (.restart ⟨3, 3, []⟩) { laying .running with port.restartIn := true }).stn = .listen
      ∧ badStation.live = false ∧ (after (.restart ⟨0, 3, []⟩) badStation).port.restartIn = true
      ∧ (after (.restart ⟨0, 3, []⟩) { laying .running with port.webBreak := true }).fault = some ⟨.webBreak, 0, .listen⟩
      ∧ (after (.restart ⟨0, 3, []⟩) { laying .running with port.eStop := true, port.webBreak := true }).fault = some ⟨.eStop, 0, .listen⟩
      ∧ (rolls .running).role = some .supply ∧ (rolls .running).sup.armA.state ≠ .empty
      ∧ (after (.restart ⟨0, 3, []⟩) (rolls .running)).msg.hasKind 4 = true ∧ (after (.restart ⟨0, 3, []⟩) (supply .ready)).msg.hasKind 4 = false := by
  decide +kernel

/-- A release alone, and the SUPPLY and the SETTER after a restart. -/
theorem witness_RestartIsReleasedAndStartsTimers :
    after (.restart ⟨3, 2, []⟩) { laying .running with port.restartIn := true } = laying .running
      ∧ after (.restart ⟨2, 2, []⟩) { laying .running with port.restartIn := true } = { laying .running with port.restartIn := true }
      ∧ (rolls .running).conf.role = .supply ∧ (after (.restart ⟨0, 3, []⟩) (rolls .running)).sup.rollTimer = some 250
      ∧ (after (.restart ⟨0, 3, []⟩) (rolls .running)).spd.ownReason = .unwindMax
      ∧ (after (.restart ⟨0, 3, []⟩) { rolls .running with port.webBreak := true }).sup.brake = true
      ∧ (mapped .running).conf.role = .setter ∧ (after (.restart ⟨0, 3, []⟩) (mapped .running)).pos.reg = .uncaptured
      ∧ (after (.restart ⟨0, 3, []⟩) (mapped .running)).set.zones = [⟨0, none, .lost, 0, 0, none⟩, ⟨0, none, .lost, 0, 0, none⟩]
      ∧ (after (.restart ⟨0, 3, []⟩) (laying .running)).spd.ownReason = .infeed := by
  decide +kernel

theorem witness_StopsHalt :
    (setter .running).live = true ∧ nextDue (haltRole (setter .running)) = none ∧ (setter .running).msg.queue.length ≤ 6
      ∧ (after (.eStopBecomesActive 3) { mapped .running with pos.watches := [⟨.map, 2000, .spanEntry 2000⟩] }).fault
        = some ⟨.eStop, 0, .running⟩
      ∧ nextDue (haltRole { mapped .running with pos.watches := [⟨.map, 2000, .spanEntry 2000⟩] }) = none
      ∧ (after (.eStopBecomesActive 3) (setter .running)).fault = some ⟨.eStop, 0, .running⟩
      ∧ (after (.webBreakBecomesActive 3) (setter .listen)).link.tx = .sendingStop
      ∧ (after (.webBreakBecomesActive 3) (setter .halted)).fault = some ⟨.webBreak, 0, .halted⟩
      ∧ (after (.stopHeard 40) (setter .ready)).fault = some ⟨.haltHeard, 0, .ready⟩
      ∧ (after (.stopHeard 40) (setter .halted)).ctl.quiet = some 500
      ∧ (after (.stopHeard 40) badStation).stn = .configFault := by
  decide +kernel

theorem witness_StopsHaltOnceAndInTheRole :
    ({ setter .running with port.eStop := true } : State).port.eStop = true
      ∧ after (.eStopBecomesActive 3) { setter .running with port.eStop := true } = { setter .running with port.eStop := true }
      ∧ (laying .running).role = some .head ∧ nextDue (laying .running) = none
      ∧ ((after (.eStopBecomesActive 3) (laying .running)).lay.laying.map (·.item.flags.halt)) = some true
      ∧ ((after (.stopHeard 40) { laying .running with lay.laying := some ⟨.gap ⟨.emergency, 9, true⟩, 0, 0, 0, 0, 0, false, false⟩ }).lay.laying)
        = some ⟨.gap ⟨.emergency, 9, true⟩, 0, 0, 0, 0, 0, false, false⟩
      ∧ (after (.webBreakBecomesActive 3) { rolls .running with sup.unwindRef := 1 }).spd.fine = 100
      ∧ (after (.webBreakBecomesActive 3) { rolls .running with sup.unwindRef := 1 }).sup.brake = false
      ∧ (after (.webBreakBecomesActive 3) (rolls .running)).sup.brake = true
      ∧ (mapped .running).role = some .setter ∧ (mapped .running).pos.reg ≠ .uncaptured ∧ nextDue (mapped .running) = none
      ∧ (after (.eStopBecomesActive 3) (mapped .running)).map.spans.map (·.own.halt) = [true, false, false]
      ∧ (after (.eStopBecomesActive 3) (mapped .running)).pos.reg = .suspended := by
  decide +kernel

/-- A SETTER halted from UNCAPTURED, its map position held at 500: SUSPENDED gives 1,000, or 2,000, where the seam enters the chest. -/
theorem witness_UncapturedHaltMovesTheMap :
    (after (.eStopBecomesActive 3) { mapped .running with pos.reg := .uncaptured, pos.held := 500 }).map.spans.map (·.inChest)
        = [true, false, false]
      ∧ (after (.eStopBecomesActive 3) { mapped .running with
          pos.reg := .uncaptured, pos.held := 500, pos.offset := 2000
          pos.watches := [⟨.map, 2000, .spanEntry 2000⟩] }).map.spans.map (·.inChest) = [true, true, false]
      ∧ ∃ v, fires 1 { mapped .halted with pos.offset := 2000, pos.watches := [⟨.map, 2000, .spanEntry 2000⟩] } v :=
  ⟨by decide +kernel, by decide +kernel, _, ⟨.map, 2000, .spanEntry 2000⟩, by decide +kernel, by decide +kernel, rfl⟩

/-- HALTED with a new clear count heard and the quiet time over. -/
def cleared : State :=
  { setter .halted with
    ctl.lastClear := some 4, ctl.entryClear := some 3, ctl.consoleHeard := true, ctl.neighbourHeard := true, port.eStop := true }

theorem witness_HaltedIsLeftWhenReleased :
    cleared.live = true ∧ ({ cleared with port.eStop := false } : State).released
      ∧ (after (.eStopBecomesInactive 3) cleared).stn = .ready
      ∧ (after (.webBreakBecomesInactive 3) { cleared with port.eStop := false, port.webBreak := true }).stn = .ready
      ∧ (after .quietTimerExpiry { cleared with port.eStop := false, ctl.quiet := some 500, ctl.neighbourHeard := false }).stn = .listen
      ∧ (after .quietTimerExpiry { cleared with ctl.quiet := some 500 }).stn = .halted
      ∧ ({ cleared with ctl.quiet := some 500 } : State).ctl.quiet.isSome = true := by
  refine ⟨rfl, ⟨rfl, ⟨4, 3, rfl, rfl, by decide⟩, rfl, rfl, rfl⟩, ?_⟩
  decide +kernel

/-- HALTED for a SUPPLY, its clear count heard and an E-stop held alone. -/
def clearedSupply (splice : SpliceState) (measured : Nat) : State :=
  { rolls .halted with
    ctl.lastClear := some 4, ctl.entryClear := some 3, ctl.consoleHeard := true, ctl.neighbourHeard := true, port.eStop := true
    sup.brake := true, sup.splice := splice, pos.measured := measured }

theorem witness_LeavingHaltedReleasesTheRole :
    after (.eStopBecomesInactive 3) (setter .halted) = setter .halted
      ∧ after (.webBreakBecomesInactive 3) cleared = cleared
      ∧ (after (.eStopBecomesInactive 3) (clearedSupply .pressing 0)).sup.brake = true
      ∧ (after (.eStopBecomesInactive 3) (clearedSupply .pressing 1)).sup.brake = false
      ∧ (after (.eStopBecomesInactive 3) (clearedSupply .armed 0)).sup.brake = false
      ∧ (after (.eStopBecomesInactive 3) { cleared with set.vent := true }).set.vent = false
      ∧ (after (.eStopBecomesInactive 3) { cleared with
          set.vent := true, set.zones := [⟨1500, some 1520, .good, 0, 0, none⟩] }).set.vent = false
      ∧ (after (.eStopBecomesInactive 3) { cleared with
          set.vent := true, set.zones := [⟨1500, some 1521, .good, 0, 0, none⟩] }).set.vent = true := by
  decide +kernel

theorem witness_RunStateIsTaken :
    (head .listen).hears 8 consoleStation (runPayload 1 0) (nowOf (head .listen)) ∧ (parseRunState (runPayload 1 0)).isSome = true
      ∧ (after (.runState 7 (runPayload 1 0)) { head .listen with ctl.neighbourHeard := true }).stn = .ready
      ∧ (after (.runState 7 (runPayload 1 0)) (head .ready)).stn = .running
      ∧ (after (.runState 7 (runPayload 2 0)) (head .ready)).stn = .ready := by
  unfold State.hears; decide +kernel

theorem witness_RunStateStops :
    (after (.runState 7 (runPayload 1 0)) (head .running)).stn = .running
      ∧ (after (.runState 7 (runPayload 0 0)) { head .running with spd.fine := 1 }).stn = .stopping
      ∧ (after (.runState 7 (runPayload 0 0)) { head .running with ctl.neighbourHeard := true }).stn = .ready
      ∧ (after (.runState 7 (runPayload 0 0)) (head .running)).stn = .listen
      ∧ (after (.runState 7 (runPayload 1 0)) { head .stopping with spd.fine := 1 }).stn = .stopping
      ∧ (after (.runState 7 (runPayload 1 9)) (head .halted)).ctl.entryClear = some 9
      ∧ (after (.runState 7 (runPayload 1 9)) { head .halted with ctl.entryClear := some 9 }).stn = .halted
      ∧ (after (.runState 7 (runPayload 1 9)) { head .halted with ctl.entryClear := some 8 }).stn = .listen := by
  decide +kernel

/-- HALTED hears a changed clear count while the quiet timer runs, or with a stop input held active. -/
theorem witness_RunStateDoesNotRelease :
    ((after (.runState 7 (runPayload 1 9)) { head .halted with ctl.entryClear := some 8, ctl.quiet := some 500 }).stn,
      (after (.runState 7 (runPayload 1 9)) { head .halted with ctl.entryClear := some 8, ctl.quiet := some 500 }).ctl.lastClear)
        = (.halted, some 9)
      ∧ (after (.runState 7 (runPayload 1 9)) { head .halted with ctl.entryClear := some 8, port.eStop := true }).stn = .halted
      ∧ (after (.runState 7 (runPayload 1 9)) { head .halted with ctl.entryClear := some 8, port.webBreak := true }).stn = .halted
      ∧ (after (.runState 7 (runPayload 1 9)) { head .halted with ctl.entryClear := some 8, port.webBreak := true }).ctl.entryClear
        = some 8 := by
  decide +kernel

theorem witness_SilenceStandsDown :
    (after .consoleSilenceTimerExpiry { head .running with link.consoleSilence := some 200, spd.fine := 1 }).stn = .stopping
      ∧ (after .consoleSilenceTimerExpiry { head .running with link.consoleSilence := some 200 }).stn = .listen
      ∧ (after .consoleSilenceTimerExpiry { head .ready with link.consoleSilence := some 200 }).fault
        = some ⟨.consoleSilent, 7, .ready⟩
      ∧ (after .neighbourSilenceTimerExpiry { supply .stopping with link.neighbourSilence := some 200, sup.vHead := 9 }).sup.vHead = 0
      ∧ (after .neighbourSilenceTimerExpiry { setter .listen with link.neighbourSilence := some 200, pos.errorRun := 2 }).pos.errorRun
        = 0 := by
  decide +kernel

/-! ## The line link -/

theorem witness_BusFollowsTheMedium :
    (head .ready).stn ≠ .config ∧ (after (.busIdle 12) { head .ready with link.bus := .busy }).link.bus = .idle
      ∧ (after (.busIdle 11) { head .ready with link.bus := .busy }).link.bus = .busy
      ∧ (after (.lineStopPatternEnd 64) { head .halted with link.tx := .sendingStop }).link.tx = .waiting
      ∧ (after .frameStart (head .ready)).link.bus = .busy ∧ (after .frameStart { head .ready with link.bus := .busy }).link.latch = none := by
  decide +kernel

/-- A notice behind an answer: the answer entered the queue earlier. -/
def passingQueue (passCount : Nat) : Msg :=
  { Msg.reset with
    queue := [⟨.answer ⟨1, 7, .setpoint, .wait⟩, 0, .waiting⟩, ⟨.position, 0, .waiting⟩], passCount := passCount }

theorem witness_TheChosenFrameIsSent :
    (passingQueue 1).choose = some (1, true) ∧ (passingQueue 2).choose = some (0, false)
      ∧ (head .ready).link.tx = .waiting ∧ (head .ready).link.bus = .idle ∧ (head .ready).sender = some 1
      ∧ (after .transmitStart { head .ready with msg := passingQueue 1 }).link.wire
        = frameChars 16 [3, 1, 0, 0, 0, 0, 0, 0, 0, 0, 0, 0, 0, 0, 0, 0]
      ∧ badStation.faultSender.isSome = true ∧ (after .configFaultRepeatTimerExpiry badStation).msg.choose = some (0, false) := by
  decide +kernel

/-- R43's table: nothing waiting, one kind alone, a notice older, and a notice newer at pass counts 1 and 2; an entry in flight is not
waiting. -/
theorem witness_TheChoiceFollowsTheTable :
    ({ Msg.reset with queue := [⟨.position, 0, .inFlight false false⟩] }).noneWaits true
      ∧ ({ Msg.reset with queue := [⟨.position, 0, .inFlight false false⟩] }).noneWaits false
      ∧ ({ Msg.reset with queue := [⟨.position, 0, .inFlight false false⟩] }).choose = none
      ∧ after .transmitStart (head .ready) = head .ready
      ∧ ({ Msg.reset with queue := fill 2 }).choose = some (0, false)
      ∧ ({ Msg.reset with queue := [⟨.answer ⟨1, 7, .setpoint, .wait⟩, 0, .waiting⟩] }).choose = some (0, false)
      ∧ ({ Msg.reset with queue := fill 1 ++ (passingQueue 2).queue, passCount := 2 }).choose = some (0, false) := by
  unfold Msg.noneWaits; decide +kernel

/-- The two chosen entries of a queue whose answer is older than its notice. -/
theorem witness_OldestWaiting : (passingQueue 1).oldestWaiting true 1 ∧ (passingQueue 1).oldestWaiting false 0 := by
  refine ⟨⟨⟨_, rfl, rfl, rfl⟩, fun j e hj he _ => ?_⟩, ⟨_, rfl, rfl, rfl⟩, fun j e hj _ _ => absurd hj (Nat.not_lt_zero j)⟩
  have h0 : j = 0 := Nat.lt_one_iff.mp hj
  subst h0
  cases he
  decide

theorem witness_PositionsAreFilledByRole :
    payloadOf { rolls .running with sup.unwindRef := 0x0102, pos.measured := 3 } .position
        = [4, 0, 0, 0, 0, 0, 0x40, 0x9C, 0, 0, 2, 1, 3, 0, 0, 0]
      ∧ payloadOf { rolls .running with sup.festoon := .noReading } .position = [4, 0, 0, 0, 0, 0, 0, 0, 0, 0, 0, 0, 0, 0, 0, 0]
      ∧ payloadOf { laying .running with spd.fine := 25600 } .position = [4, 1, 38, 2, 0, 0, 76, 4, 0, 0, 0, 1, 0, 0, 0, 0]
      ∧ payloadOf { mapped .running with link.broken := 255, msg.lost := 7 } .position
        = [4, 2, 0xE8, 3, 0, 0, 0, 0, 0, 0, 0, 0, 0, 0, 255, 7]
      ∧ payloadOf { setter .listen with pos.held := 9 } .position = [2, 2, 9, 0, 0, 0, 0, 0, 0, 0, 0, 0, 0, 0, 0, 0] := by
  decide +kernel

theorem witness_SentIsReadBack :
    lengthOk (127 % 16) 16 = false ∧ lengthOk (118 % 16) 23 = true ∧ lengthOk (16 % 16) 16 = true
      ∧ goodChars (frameChars 16 (List.replicate 16 0)) = true := by
  decide +kernel

/-- The character 31 hex with mark bit 1 as its 11 bits; and the bits driven. -/
theorem witness_CharactersAreElevenBits :
    bitsOf ⟨0x31, true, true⟩ = [false, true, false, false, false, true, true, false, false, true, true]
      ∧ sampled [false, true, false, false, false, true, true, false, false, true, false] = some ⟨0x31, true, false⟩
      ∧ sampled (List.replicate 11 true) = none ∧ sampled (List.replicate 10 false) = none
      ∧ (after .transmitStart { head .ready with msg.queue := fill 1, link.bus := .idle }).driven.length = 11 * (13 + 4)
      ∧ (head .ready).driven = [] ∧ ({ head .ready with link.tx := .sendingStop } : State).driven = List.replicate 64 false := by
  decide +kernel

/-- The HEAD with its POSITION in flight. -/
def sending (tx : TxCond) (passing replaced : Bool) (failures : Nat) : State :=
  { head .ready with
    link.bus := .busy, link.tx := tx
    msg.queue := [⟨.answer ⟨1, 7, .setpoint, .wait⟩, 0, .waiting⟩, ⟨.position, failures, .inFlight passing replaced⟩] }

theorem witness_FramesAreWithdrawnOrCancelled :
    (sending .sendingTag true false 1).msg.flying = some 1
      ∧ (after (.frameWithdrawn 10) (sending .sendingTag true false 1)).msg.queue[1]? = some ⟨.position, 1, .waiting⟩
      ∧ (after (.frameCancelled 11) (sending .sendingTag true false 1)).msg.queue[1]? = some ⟨.position, 2, .waiting⟩
      ∧ (after (.frameCancelled 30) (sending .sendingBody true true 0)).msg.queue[1]? = some ⟨.position, 0, .waiting⟩
      ∧ (sending .sendingBody false false 2).msg.holdsNothing ∧ (sending .sendingBody false false 2).sender = some 1
      ∧ (after (.frameCancelled 30) (sending .sendingBody false false 2)).fault = some ⟨.linkTransmit, 16, .ready⟩
      ∧ (after (.frameCancelled 30) { sending .sendingBody false false 2 with stn := .configFault }).fault = none := by
  unfold Msg.holdsNothing; decide +kernel

/-- The third failure with a full queue: a held CEILING takes the entry and the FAULT is lost; with nothing held the FAULT takes it. -/
theorem witness_DroppedFrameFreesItsEntry :
    (after (.frameCancelled 30) { sending .sendingBody false false 2 with
        msg.queue := fill 11 ++ [⟨.position, 2, .inFlight false false⟩], msg.heldCeiling := some ⟨5, false, .dwell⟩ }).fault
        = some ⟨.linkOverrun, 5, .ready⟩
      ∧ (after (.frameCancelled 30) { sending .sendingBody false false 2 with
        msg.queue := fill 11 ++ [⟨.position, 2, .inFlight false false⟩], msg.heldCeiling := some ⟨5, false, .dwell⟩ }).msg
        = { Msg.reset with queue := fill 11 ++ [⟨.ceiling ⟨5, false, .dwell⟩, 0, .waiting⟩], lost := 2 }
      ∧ ((after (.frameCancelled 30) { sending .sendingBody false false 2 with
        msg.queue := fill 11 ++ [⟨.position, 2, .inFlight false false⟩] }).msg.queue[11]?).map (·.frame.kind) = some 5 := by
  decide +kernel

theorem witness_CompletionFreesTheEntry :
    (sending .sendingBody true false 0).msg.holdsNothing
      ∧ (after .frameComplete (sending .sendingBody true false 0)).msg.passCount = 1
      ∧ (after .frameComplete { sending .sendingBody true false 0 with msg.passCount := 2 }).msg.passCount = 2
      ∧ (after .frameComplete (sending .sendingTag false true 0)).msg.queue.length = 2
      ∧ ({ sending .sendingBody false false 0 with msg.queue := [⟨.answer ⟨1, 7, .setpoint, .wait⟩, 0, .inFlight false false⟩] }
          : State).msg.queue.findIdx? (fun q => !q.frame.isNotice) = some 0 := by
  unfold Msg.holdsNothing; decide +kernel

theorem witness_CompletionRefillsTheQueue :
    (after .frameComplete { sending .sendingBody false false 0 with msg.passCount := 1, msg.queue := [⟨.position, 0, .inFlight false false⟩] }).msg
        = { Msg.reset with queue := [], passCount := 0 }
      ∧ (after .frameComplete { sending .sendingBody false false 0 with msg.heldPosition := true }).msg.queue.length = 2
      ∧ (after .frameComplete { sending .sendingBody false false 0 with msg.heldPosition := true }).msg.heldPosition = false := by
  decide +kernel

theorem witness_BrokenFramesAreCounted :
    (head .ready).frameLatch = some (nowOf (head .ready)) ∧ isTag ⟨128, true, true⟩ = false ∧ isTag ⟨120, true, true⟩ = true
      ∧ (head .ready).accept 120 ≠ .off ∧ (head .ready).accept 119 = .off ∧ goodChars [⟨120, true, true⟩] = false
      ∧ (after (.brokenFrame [⟨120, true, true⟩]) { head .ready with link.broken := 254 }).link.broken = 255
      ∧ (after (.brokenFrame [⟨120, true, true⟩]) { head .ready with link.broken := 255 }).link.broken = 255
      ∧ (after (.brokenFrame [⟨119, true, true⟩]) (head .ready)).link.broken = 0
      ∧ goodChars (frameChars 120 [1, 0, 0, 0]) = true
      ∧ after (.brokenFrame (frameChars 120 [1, 0, 0, 0])) { head .ready with link.latch := some (nowOf (setter .ready)), link.bus := .busy }
        = { head .ready with link.bus := .busy } := by
  decide +kernel

/-! ## Notices, requests and answers -/

theorem witness_NoticesAreQueuedHeldOrLost :
    Frame.position.superseding = true
      ∧ ({ Msg.reset with queue := fill 11 }.supersede .position).queue.length = 12
      ∧ ({ Msg.reset with queue := fill 12 }.supersede .position).heldPosition = true
      ∧ ({ Msg.reset with queue := [⟨.position, 2, .inFlight true false⟩] }.supersede .position).queue
        = [⟨.position, 0, .inFlight true true⟩]
      ∧ (postLasting (.fault ⟨.eStop, 0, .halted⟩) { head .halted with msg.queue := fill 12, msg.lost := 254 }).msg.lost = 255
      ∧ (postLasting (.fault ⟨.eStop, 0, .halted⟩) { head .halted with msg.queue := fill 11 }).msg.queue.length = 12
      ∧ (postLasting (.fault ⟨.configBad, 0, .config⟩) { badStation with msg.queue := fill 12 }).msg.lost = 1 := by
  decide +kernel

/-- An order of the tests as a pending request, and its answer as an answered entry. -/
def anAnswered : Answered := ⟨7, 9, .setpoint, .done 0⟩

/-- Asks at 11 and 12 entries, and the order in which a freed entry is given. -/
theorem witness_AsksAreQueuedOrMarked :
    ({ Msg.reset with queue := fill 11 }.handAsk (.answer anAnswered.msg) (.answer 7 9)).queue.length = 12
      ∧ ({ Msg.reset with queue := fill 12 }.handAsk (.answer anAnswered.msg) (.answer 7 9)).unsent = [.answer 7 9]
      ∧ ({ Msg.reset with queue := fill 12, unsent := [.answer 7 9] }.handAsk (.answer anAnswered.msg) (.answer 7 9)).unsent = [.answer 7 9]
      ∧ ({ Msg.reset with queue := [⟨.answer anAnswered.msg, 1, .waiting⟩] }.handAsk (.answer anAnswered.msg) (.answer 7 9)).queue.length = 1
      ∧ ({ Msg.reset with queue := fill 11 }.handInterim ⟨9, 7, .rollLoad, .wait⟩).queue.length = 12
      ∧ ({ Msg.reset with queue := fill 12 }.handInterim ⟨9, 7, .rollLoad, .wait⟩).queue.length = 12
      ∧ ({ Msg.reset with queue := fill 12, heldPosition := true }.refill).heldPosition = true
      ∧ ({ Msg.reset with queue := fill 11, heldPosition := true, heldCeiling := some ⟨1, false, .dwell⟩ }.refill).heldCeiling.isSome = true
      ∧ ({ Msg.reset with queue := fill 11, heldCeiling := some ⟨1, false, .dwell⟩, unsent := [.answer 7 9] }.refill).heldCeiling = none
      ∧ ({ Msg.reset with answered := [anAnswered], unsent := [.answer 7 9] }.refill).queue = [⟨.answer anAnswered.msg, 0, .waiting⟩]
      ∧ ({ Msg.reset with pendings := [⟨2, 4, 1, .seamSlot 500 100, 1, .supplyUnit, some 50⟩], unsent := [.request 2] }.refill).queue
        = [⟨.request ⟨4, 1, .seamSlot 500 100, 2⟩, 0, .waiting⟩] := by
  decide +kernel

/-- A PANEL ORDER payload for a target: first id 5, count 2, slot 3, grade 0. -/
def orderPayload (target : Byte) : List Byte := [9, target, 2, 5, 0, 2, 0x33, 0]

/-- A SEAM SLOT payload for the HEAD: id 9, length 500, margin 100. -/
def slotPayload : List Byte := [9, 1, 1, 0xF4, 1, 0, 0, 100, 0, 0, 0]

theorem witness_RequestsAreExamined :
    (head .ready).hears 6 7 (orderPayload 1) (nowOf (head .ready)) ∧ (parseRequest .panelOrder (orderPayload 1)).isSome = true
      ∧ (after (.panelOrder 7 (orderPayload 2)) (head .ready)).msg.answered = []
      ∧ (after (.panelOrder 0 (orderPayload 1)) (head .ready)).msg.answered = [⟨0, 9, .panelOrder, .refused .notAllowed 0 0⟩]
      ∧ (after (.seamSlot 7 slotPayload) (head .ready)).msg.answered = [⟨7, 9, .seamSlot, .refused .notAllowed 0 0⟩]
      ∧ (after (.rollLoad 7 [9, 1, 7, 0, 1, 0, 60, 0]) (head .ready)).msg.answered = [⟨7, 9, .rollLoad, .refused .wrongRole 0 0⟩]
      ∧ (after (.panelOrder 0 (orderPayload 1)) (after (.panelOrder 0 (orderPayload 1)) (head .ready))).msg.queue.length = 1 := by
  unfold State.hears; decide +kernel

/-- The HEAD with a NEXT item and a delayed SEAM SLOT of the SUPPLY. -/
def delayedHead (result : Option Final) : State :=
  { laying .ready with msg.delayed := [⟨0, 9, .seamSlot 500 100, result, result.map fun _ => 1000⟩] }

theorem witness_DelayedRequestsAreAnswered :
    (delayedHead none).hears 6 0 slotPayload (nowOf (delayedHead none))
      ∧ parseRequest .seamSlot slotPayload = some ⟨9, stationByte (delayedHead none).conf.number, .seamSlot 500 100⟩
      ∧ (after (.seamSlot 0 slotPayload) (delayedHead none)).msg.queue = [⟨.answer ⟨9, 0, .seamSlot, .wait⟩, 0, .waiting⟩]
      ∧ (after (.rollLoad 0 [9, 1, 7, 0, 1, 0, 60, 0]) (delayedHead none)).msg.queue = [⟨.answer ⟨9, 0, .rollLoad, .busy⟩, 0, .waiting⟩]
      ∧ (after (.seamSlot 0 slotPayload) (delayedHead (some (.done 5100)))).msg.answered = [⟨0, 9, .seamSlot, .done 5100⟩]
      ∧ (after (.seamSlot 0 slotPayload) (delayedHead (some (.done 5100)))).msg.delayed = [] := by
  unfold State.hears; decide +kernel

/-- A second SEAM SLOT under another id is BUSY while one is delayed, and not answered with the queue full. -/
theorem witness_SecondDelayedRequestIsBusy :
    (delayedHead none).asked .seamSlot 0 ([8] ++ slotPayload.drop 1) ⟨8, 1, .seamSlot 500 100⟩
      ∧ (delayedHead none).msg.findDelayed 0 8 = none ∧ (delayedHead none).role = some ReqCode.seamSlot.role
      ∧ (after (.seamSlot 0 ([8] ++ slotPayload.drop 1)) (delayedHead none)).msg.queue = [⟨.answer ⟨8, 0, .seamSlot, .busy⟩, 0, .waiting⟩]
      ∧ (after (.seamSlot 0 ([8] ++ slotPayload.drop 1)) { delayedHead none with msg.queue := fill 12 }).msg.queue = fill 12 := by
  refine ⟨⟨⟨nowOf (delayedHead none), by unfold State.hears; decide +kernel⟩, by decide +kernel⟩, ?_⟩
  decide +kernel

/-- The SUPPLY waiting for the answer to its SEAM SLOT, at its attempt limit less `spare`. -/
def requesting (spare : Nat) : State :=
  { rolls .running with
    sup.splice := .requesting, sup.outstanding := some 2
    msg.pendings := [⟨2, 4, 1, .seamSlot 500 100, 16 - spare, .supplyUnit, some 50⟩], msg.nextId := 5 }

/-- An ANSWER payload to request 4 of station 0. -/
def answerPayload (code : Byte) (value : Word) : List Byte := [4, 0, code] ++ wordBytes value ++ [1, 0, 0]

theorem witness_AnswersAreTaken :
    (requesting 1).hears 7 1 (answerPayload 1 3000) (nowOf (requesting 1)) ∧ ((requesting 1).msg.findPending 4 1).isSome = true
      ∧ (after (.answerWait 1 (answerPayload 2 0)) (requesting 1)).msg.pendings.map (·.attempts) = [1]
      ∧ (after (.answerBusy 1 (answerPayload 3 0)) (requesting 1)).msg.pendings.map (·.attempts) = [15]
      ∧ (after (.answerDone 1 (answerPayload 1 2999)) (requesting 1)).sup.splice = .requesting
      ∧ (after (.answerDone 1 (answerPayload 1 3000)) (requesting 1)).sup.splice = .filling
      ∧ (after (.answerDone 1 (answerPayload 1 300000)) (requesting 1)).sup.splice = .filling
      ∧ (after (.answerDone 1 (answerPayload 1 300001)) (requesting 1)).sup.splice = .noSlot
      ∧ (after (.answerRefused 1 (answerPayload 4 0)) (requesting 1)).sup.splice = .noSlot
      ∧ ({ requesting 1 with msg.pendings := [] } : State).msg.findPending 4 1 = none := by
  unfold State.hears; decide +kernel

/-- An answer for station 5 changes nothing of station 0. -/
theorem witness_AnswersForOthersAreDiscarded :
    (parseAnswer ([4, 5, 1] ++ wordBytes 3000 ++ [1, 0, 0])).map (·.requester) = some 5 ∧ stationByte (requesting 1).conf.number = 0
      ∧ (after (.answerDone 1 ([4, 5, 1] ++ wordBytes 3000 ++ [1, 0, 0])) (requesting 1)).sup.splice = .requesting
      ∧ (after (.answerWait 1 ([4, 5, 2] ++ wordBytes 3000 ++ [1, 0, 0])) (requesting 1)).msg.pendings.map (·.attempts) = [15] := by
  decide +kernel

theorem witness_RequestsAndAnswersExpire :
    (requesting 1).msg.pendings.find? (fun x => x.entry == 2 && x.timer.isSome)
        = some ⟨2, 4, 1, .seamSlot 500 100, 15, .supplyUnit, some 50⟩
      ∧ (after (.repeatTimerExpiry 2) (requesting 1)).msg.queue.length = 1
      ∧ (after (.repeatTimerExpiry 2) { requesting 1 with msg.queue := fill 12 }).msg.unsent = [.request 2]
      ∧ (after (.repeatTimerExpiry 2) (requesting 0)).fault = some ⟨.requestUndelivered, 0x0104, .running⟩
      ∧ nextDue (delayedHead (some (.done 5100))) = none
      ∧ (after (.holdTimerExpiry 0 9) { delayedHead (some (.done 5100)) with lay.queued := [] }).lay.next = none
      ∧ (after (.holdTimerExpiry 0 8) { delayedHead (some (.done 5100)) with
          msg.delayed := [⟨0, 8, .seamSlot 1 1, some (.done 0), some 1⟩] }).msg.delayed = []
      ∧ (after (.holdTimerExpiry 7 8) { rolls .ready with
          msg.delayed := [⟨7, 8, .rollLoad 0 1 60, some (.done 0), some 1⟩] }).msg.delayed = [] := by
  decide +kernel

/-- Two pending entries of one id and target, the older one at its attempt limit and set aside, the younger one outstanding. -/
def twins : State :=
  { rolls .running with
    sup.splice := .requesting, sup.outstanding := some 1
    msg.pendings := [⟨0, 4, 1, .seamSlot 500 100, 16, .supplyUnit, some 50⟩, ⟨1, 4, 1, .seamSlot 500 100, 15, .supplyUnit, some 50⟩]
    msg.queue := [⟨.request ⟨4, 1, .seamSlot 500 100, 1⟩, 0, .waiting⟩, ⟨.request ⟨4, 1, .seamSlot 500 100, 0⟩, 0, .waiting⟩]
    msg.unsent := [.request 0, .request 1], msg.nextId := 5 }

/-- The repeat timer of either acts on that entry alone. -/
theorem witness_EntriesOfOneIdExpireApart :
    (after (.repeatTimerExpiry 0) twins).msg.pendings = [⟨1, 4, 1, .seamSlot 500 100, 15, .supplyUnit, some 50⟩]
      ∧ ⟨.request ⟨4, 1, .seamSlot 500 100, 1⟩, 0, .waiting⟩ ∈ (after (.repeatTimerExpiry 0) twins).msg.queue
      ∧ UnsentRef.request 0 ∉ (after (.repeatTimerExpiry 0) twins).msg.unsent
      ∧ (after (.repeatTimerExpiry 0) twins).sup.outstanding = some 1
      ∧ (after (.repeatTimerExpiry 1) twins).msg.pendings.map (·.attempts) = [16, 16]
      ∧ (after (.repeatTimerExpiry 1) (after (.repeatTimerExpiry 1) twins)).sup.outstanding = none
      ∧ (after (.repeatTimerExpiry 1) (after (.repeatTimerExpiry 1) twins)).msg.pendings.map (·.entry) = [0]
      ∧ (after (.answerWait 1 (answerPayload 2 0)) twins).msg.pendings.map (·.attempts) = [1, 15]
      ∧ (after (.answerDone 1 (answerPayload 1 3000)) twins).msg.pendings.map (·.entry) = [1]
      ∧ (after (.answerDone 1 (answerPayload 1 3000)) twins).sup.splice = .requesting
      ∧ twins.msg.freeEntry = 2 ∧ (requesting 1).msg.freeEntry = 0 := by
  decide +kernel

/-! ## Positions, registration and speeds -/

theorem witness_EdgesAreCountedAndMetered :
    (after (.encoderCount .ch0 .a 2) (head .ready)).pos.ch0 = ⟨1024, true, false⟩
      ∧ (after (.encoderCount .ch0 .b 2) (head .ready)).pos.ch0 = ⟨-1024, false, true⟩
      ∧ (after (.encoderCount .ch0 .a 1) (head .ready)) = head .ready
      ∧ (after (.encoderCount .ch1 .a 2) (head .ready)).pos.ch1 = ⟨512, true, false⟩
      ∧ (after (.bothAcceptedLevelsChange .ch0 2) (head .ready)).pos.ch0 = ⟨0, true, true⟩
      ∧ (after (.bothAcceptedLevelsChange .ch1 2) (head .ready)).pos.ch1 = ⟨0, true, true⟩ := by
  decide +kernel

theorem witness_CountsMeterTheRunningArm :
    (rolls .running).isRole .supply = true ∧ (rolls .running).sup.armA.state = .running ∧ (rolls .running).sup.armB.state ≠ .running
      ∧ (after (.encoderCount .ch0 .a 2) (rolls .running)).sup.armA.remaining = 399999
      ∧ (after (.encoderCount .ch0 .a 2) { rolls .running with sup.armA := ⟨.running, some 21, 600000, 1, false, none⟩ }).stn = .halted
      ∧ (after (.encoderCount .ch0 .a 2) { rolls .running with sup.armA := ⟨.running, some 21, 600000, 2, false, none⟩ }).stn = .running := by
  decide +kernel

/-- The HEAD one count before the end of its LAYING item and the start of the next one. -/
def dueHead : State :=
  { laying .running with
    pos.ch0 := ⟨5000 * 1024 - 1024, false, false⟩
    pos.watches := [⟨.flat, 5000, .itemStart⟩, ⟨.flat, 5000, .itemEnd⟩, ⟨.flat, 5001, .seamEnd⟩] }

theorem witness_ReachedWatchesFire :
    nextDue dueHead = none ∧ (takeCount .ch0 .a dueHead).luOf .ch0 ≠ dueHead.luOf .ch0
      ∧ (nextDue (takeCount .ch0 .a dueHead)).map (·.event) = some .itemEnd
      ∧ (after (.encoderCount .ch0 .a 2) dueHead).lay.next.map (·.flatStart) = some 5700
      ∧ ((after (.encoderCount .ch0 .a 2) dueHead).lay.laying.map (·.flatStart)) = some 5000
      ∧ (⟨.flat, 5001, .seamEnd⟩ : Watch) ∈ (after (.encoderCount .ch0 .a 2) dueHead).pos.watches
      ∧ (after (.encoderCount .ch1 .a 2) { head .ready with pos.ch1 := ⟨8191 * 512, false, false⟩ }).msg.hasKind 0 = true
      ∧ (after (.encoderCount .ch1 .a 2) { head .ready with pos.ch1 := ⟨8189 * 512, false, false⟩ }).msg.hasKind 0 = false
      ∧ (takeCount .ch1 .a (head .ready)).luOf .ch1 = (head .ready).luOf .ch1 := by
  decide +kernel

/-- The end of the LAYING item and the start of the next one fire, in this order, and no watch is due then. -/
theorem witness_WatchesFireInOrder : ∃ t, fires 2 (takeCount .ch0 .a dueHead) t :=
  ⟨_, ⟨.flat, 5000, .itemEnd⟩, by decide +kernel, ⟨.flat, 5000, .itemStart⟩, by decide +kernel, by decide +kernel, rfl⟩

theorem witness_CountsMeterArmB :
    (after (.encoderCount .ch0 .a 2) { rolls .running with
        sup.armA := ⟨.expired, some 21, 600000, 0, false, none⟩, sup.armB := ⟨.running, some 22, 700000, 1, false, none⟩ }).fault
        = some ⟨.rollRunout, 22, .running⟩
      ∧ (after (.encoderCount .ch0 .b 2) { rolls .running with sup.armA := ⟨.running, some 21, 600000, 600000, false, none⟩ }).sup.armA.remaining
        = 600000
      ∧ (after (.encoderCount .ch0 .a 2) { rolls .running with pos.ch0 := ⟨4095 * 1024, false, false⟩ }).msg.hasKind 0 = true
      ∧ (after (.encoderCount .ch0 .a 2) { rolls .running with pos.ch0 := ⟨4094 * 1024, false, false⟩ }).msg = (rolls .running).msg := by
  decide +kernel

theorem witness_SpeedTimerMeasures :
    (mapped .running).pos.speedTimer.isSome = true
      ∧ (after .speedTimerExpiry { mapped .running with pos.ch0 := ⟨7000 * 1024, false, false⟩ }).pos.measured = 65535
      ∧ (after .speedTimerExpiry { mapped .running with pos.prev := 1 }).pos.measured = 0
      ∧ ((after .speedTimerExpiry (mapped .running)).map.spans[0]?).map (·.phase) = some (.inChest 1000 (some 1400) 10)
      ∧ (after .speedTimerExpiry { rolls .running with sup.splice := .pressing, pos.measured := 10 }).sup.pressFire = true
      ∧ (after .speedTimerExpiry { rolls .ready with sup.splice := .pressing, pos.measured := 10 }).sup.brake = true := by
  decide +kernel

theorem witness_NoticesArePosted :
    (supply .ready).live = true ∧ (after .keepAliveTimerExpiry (supply .ready)).msg.hasKind 0 = true
      ∧ (after .postingTimerExpiry (supply .ready)).msg.hasKind 1 = true
      ∧ (after .rollStateTimerExpiry (supply .ready)).msg.hasKind 4 = true
      ∧ (reformOwn { supply .ready with spd.lastPosted := some 6001 }).spd.lastPosted = some 6000
      ∧ (reformOwn { supply .ready with spd.lastPosted := some 5818 }).spd.lastPosted = some 6000
      ∧ (reformOwn { supply .ready with spd.lastPosted := some 5819 }).spd.lastPosted = some 5819 := by
  decide +kernel

/-- A POSITION payload with a reference, a second position and a measured speed. -/
def positionPayload (ref second : Word) (measured : Half) : List Byte :=
  [4, 1] ++ wordBytes ref ++ wordBytes second ++ halfBytes 0 ++ halfBytes measured ++ [0, 0]

theorem witness_NeighbourPositionIsTaken :
    (supply .listen).hears 0 (supply .listen).neighbour (positionPayload 0 700 1200) (nowOf (supply .listen))
      ∧ parsePosition (positionPayload 0 700 1200) = some ⟨0, 700, 1200⟩
      ∧ (after (.position 1 (positionPayload 0 700 1200)) (supply .listen)).sup.offset = 200700
      ∧ (after (.position 1 (positionPayload 0 700 1200)) { supply .listen with ctl.consoleHeard := true }).stn = .ready
      ∧ (after (.position 0 (positionPayload 0 700 1200)) (head .listen)).ctl.neighbourHeard = true := by
  unfold State.hears; decide +kernel

/-- A SETTER in TRACKING, its map position 0, with an error run. -/
def tracking (run : Nat) : State := { setter .running with pos.reg := .tracking, pos.errorRun := run }

theorem witness_SetterRegistersToItsSource :
    (tracking 0).hears 0 (tracking 0).neighbour (positionPayload 1050 0 0) (nowOf (tracking 0))
      ∧ (after (.position 1 (positionPayload 1050 0 0)) (tracking 2)).pos.offset = 50
      ∧ (after (.position 1 (positionPayload 1051 0 0)) (tracking 2)).pos.offset = 50
      ∧ (after (.position 1 (positionPayload 949 0 0)) (tracking 2)).pos.offset = -50
      ∧ (after (.position 1 (positionPayload 3000 0 0)) (tracking 2)).pos.errorRun = 0
      ∧ (after (.position 1 (positionPayload 3001 0 0)) (tracking 1)).pos.errorRun = 2
      ∧ (after (.position 1 (positionPayload 3001 0 0)) (tracking 2)).fault = some ⟨.registrationLost, 2001, .running⟩
      ∧ nextDue { tracking 2 with pos.offset := 50 } = none
      ∧ (after (.position 1 (positionPayload 66535 0 0)) (tracking 2)).fault = some ⟨.registrationLost, 65535, .running⟩
      ∧ (after (.position 1 (positionPayload 66536 0 0)) (tracking 2)).fault = some ⟨.registrationLost, 65535, .running⟩
      ∧ (after (.position 1 (positionPayload 3001 0 0)) (setter .listen)).pos.offset = 2001
      ∧ (after (.position 1 (positionPayload 3001 0 0)) { setter .halted with pos.reg := .suspended }).pos.offset = 0 := by
  unfold State.hears; decide +kernel

/-- A capture drops an APPROACHING span that starts 5,001 lu ahead of the map position, with its watch, and keeps one at 5,000. -/
def waitingMap (start : Word) : State :=
  { setter .listen with
    pos.watches := [⟨.map, start, .spanEntry start⟩]
    map.spans := [⟨.panel 5 3 0, start, 2000, PanelFlags.none, PanelFlags.none, false, .approaching⟩] }

theorem witness_CaptureTestsTheWindow :
    (waitingMap 5001).pos.reg = .uncaptured
      ∧ (after (.position 1 (positionPayload 1000 0 0)) (waitingMap 5001)).map.spans = []
      ∧ (after (.position 1 (positionPayload 1000 0 0)) (waitingMap 5001)).pos.watches = []
      ∧ (after (.position 1 (positionPayload 1000 0 0)) (waitingMap 5000)).map.spans = (waitingMap 5000).map.spans
      ∧ (after (.position 1 (positionPayload 0 700 1200)) { supply .listen with sup.festoon := .lost }).freeCount = 1
      ∧ (after (.position 1 (positionPayload 0 700 1200)) { supply .listen with sup.festoon := .good, sup.content := 7 }).sup.offset
        = 200707 := by
  decide +kernel

theorem witness_CeilingEntriesFollowNotices :
    (head .running).infeedLawful ∧ (head .running).hears 1 0 [0xC4, 0x09, 1, 4] (nowOf (head .running))
      ∧ (after (.ceiling 0 [0xC4, 0x09, 1, 4]) (head .running)).lay.infeedLimit = 2500
      ∧ (after (.ceiling 0 [0xC4, 0x09, 1, 0]) (head .running)).lay.infeedLimit = 0
      ∧ (after (.lapseTimerExpiry 0) (after (.ceiling 0 [0xC4, 0x09, 1, 4]) (head .running))).lay.infeedLimit = 0
      ∧ (after (.ceiling 3 [0xC4, 0x09, 0, 6]) (setter .running)).entry 3 = .current ⟨2500, false, .dwell⟩ 500
      ∧ (after (.lapseTimerExpiry 3) (after (.ceiling 3 [0xC4, 0x09, 0, 6]) (setter .running))).entry 3
        = .lapsed ⟨2500, false, .dwell⟩ := by
  unfold State.hears State.infeedLawful; decide +kernel

theorem witness_RampAndDuties :
    (head .running).spd.rampTimer.isSome = true
      ∧ (after .rampTimerExpiry { head .stopping with spd.fine := 101 }).spd.fine = 1
      ∧ (after .rampTimerExpiry { head .stopping with spd.fine := 100 }).stn = .listen
      ∧ (after .rampTimerExpiry { head .halted with spd.fine := 600 }).spd.fine = 100
      ∧ (after .rampTimerExpiry { supply .halted with spd.fine := 599 }).sup.brake = true
      ∧ (after .rampTimerExpiry { supply .running with spd.fine := 599 }).spd.fine = 599
      ∧ (after .pwmPeriodStart { head .running with spd.fine := 300000, lay.infeedRef := 3000 }).port.refDuty.toList = [1023, 512, 0]
      ∧ (after .pwmPeriodStart (setter .running)).port.valveDuty.toList = [500, 0, 0, 0]
      ∧ (after .pwmPeriodStart { supply .running with sup.unwindRef := 6000 }).port.refDuty.toList = [1023, 0, 0] := by
  decide +kernel

theorem witness_OutputsFollowTheRole :
    ({ rolls .running with sup.pressFire := true, sup.brake := true }).isRole .supply = true
      ∧ (List.range 9).map { rolls .running with sup.pressFire := true, sup.brake := true }.output
        = [false, true, true, false, true, false, false, false, false]
      ∧ (List.range 9).map { head .running with lay.pulseRight := some 5 }.output
        = [false, false, true, false, false, false, false, false, false]
      ∧ (List.range 9).map { setter .halted with set.vent := true }.output
        = [false, true, false, false, false, false, false, false, false]
      ∧ ({ setter .config with set.vent := true }).live = false ∧ ({ setter .config with set.vent := true }).output 1 = false := by
  decide +kernel

/-! ## The Pattern Store -/

/-- A PATTERN BLOCK payload for slot 3 with one record, or two. -/
def blockPayload (first : Byte) (two : Bool) : List Byte :=
  [9, 1, 4, 0x33, first] ++ knife.bytes ++ (if two then box.bytes else [])

theorem witness_PatternBlockWritesSteps :
    (head .ready).asked .patternBlock 7 (blockPayload 47 false) ⟨9, 1, .patternBlock 0x33 47 knife none⟩
      ∧ (head .ready).serves .patternBlock 7 ⟨9, 1, .patternBlock 0x33 47 knife none⟩
      ∧ (((after (.patternBlock 7 (blockPayload 47 false)) (head .ready)).slot 3).places[47]?) = some ⟨true, knife⟩
      ∧ (after (.patternBlock 7 (blockPayload 48 false)) (head .ready)).msg.answered = [⟨7, 9, .patternBlock, .refused .badStep 0 0⟩]
      ∧ (after (.patternBlock 7 (blockPayload 47 true)) (head .ready)).msg.answered = [⟨7, 9, .patternBlock, .refused .badStep 0 0⟩]
      ∧ (((after (.patternBlock 7 (blockPayload 46 true)) (head .ready)).slot 3).places[47]?) = some ⟨true, box⟩
      ∧ (after (.patternBlock 7 (blockPayload 0 false)) (laying .ready)).msg.answered = [⟨7, 9, .patternBlock, .refused .inUse 0 0⟩] := by
  refine ⟨⟨⟨nowOf (head .ready), by unfold State.hears; decide +kernel⟩, by decide +kernel⟩, by unfold State.serves; decide +kernel, ?_⟩
  decide +kernel

/-- A slot with one written step. -/
def oneStep (r : StepRec) : Slot := { Slot.blank with state := .loading, places := Slot.blank.places.set 0 ⟨true, r⟩ }

theorem witness_PatternCommitIsChecked :
    (head .ready).asked .patternCommit 7 [9, 1, 5, 3, 1] ⟨9, 1, .patternCommit 3 1⟩
      ∧ (head .ready).serves .patternCommit 7 ⟨9, 1, .patternCommit 3 1⟩
      ∧ ((after (.patternCommit 7 [9, 1, 5, 3, 1]) { head .ready with
          slots := (Vector.replicate 16 Slot.blank).set 3 (oneStep knife) }).slot 3).lf = List.replicate 8 4000
      ∧ (oneStep knife).failure 0 = some (255, 1) ∧ (oneStep knife).failure 49 = some (255, 1)
      ∧ (oneStep knife).failure 2 = some (1, 1) ∧ (oneStep knife).failure 1 = none
      ∧ (oneStep { knife with pitch := 99 }).failure 1 = some (0, 2)
      ∧ (oneStep { knife with pitch := 4800, increment := 50 }).failure 1 = some (0, 3)
      ∧ (oneStep { box with increment := 1 }).failure 1 = some (0, 3)
      ∧ (oneStep { knife with depth := 701 }).failure 1 = some (0, 4) ∧ (oneStep { knife with depth := 700 }).failure 1 = none := by
  refine ⟨⟨⟨nowOf (head .ready), by unfold State.hears; decide +kernel⟩, by decide +kernel⟩, by unfold State.serves; decide +kernel, ?_⟩
  decide +kernel

/-- The ends of the ranges of checks 2 to 4. -/
theorem witness_StepRangesAreChecked :
    [{ knife with pitch := 100, depth := 100 }, { knife with pitch := 5000 }, { knife with direction := 2 }, { box with pitch := 5000 },
        ⟨0, 0, 100, 0, 0, 1⟩, ⟨0, 0, 50000, 0, 0, 255⟩, { knife with depth := 4000, increment := 500 }].all StepRec.fieldsOk = true
      ∧ [{ knife with pitch := 99 }, { knife with pitch := 5001 }, { knife with direction := 0 }, { knife with direction := 3 },
        { knife with depth := 99 }, { box with depth := 4001 }, { box with increment := 501 }, { box with increment := -501 },
        { knife with repeats := 0 }, ⟨0, 0, 99, 0, 0, 1⟩, ⟨0, 0, 50001, 0, 0, 1⟩, ⟨0, 0, 100, 0, 1, 1⟩,
        { knife with fold := 3 }].any StepRec.fieldsOk = false
      ∧ ({ knife with pitch := 4650, increment := 50 } : StepRec).pitchesOk = true
      ∧ ({ knife with pitch := 4651, increment := 50 } : StepRec).pitchesOk = false
      ∧ ({ knife with pitch := 4800, increment := 50 } : StepRec).fieldsOk = true
      ∧ (⟨0, 0, 49993, 1, 0, 1⟩ : StepRec).pitchesOk = true ∧ (⟨0, 0, 49994, 1, 0, 1⟩ : StepRec).pitchesOk = false
      ∧ (⟨0, 0, 100, -1, 0, 1⟩ : StepRec).pitchesOk = false ∧ (⟨0, 0, 100, 0, 0, 1⟩ : StepRec).fits = true
      ∧ ({ box with pitch := 801 } : StepRec).pitchesOk = false
      ∧ ({ box with pitch := 800, depth := 1400 } : StepRec).fits = true
      ∧ ({ box with pitch := 800, depth := 1401 } : StepRec).fits = false := by
  decide +kernel

/-- Pleated lengths of 1,000,000 lu, 1,004,000 lu and, in a second step, 1,002,000 lu. -/
theorem witness_LengthsAreChecked :
    (oneStep { knife with pitch := 4000, repeats := 250 }).failure 1 = none
      ∧ (oneStep { knife with pitch := 4000, repeats := 251 }).failure 1 = some (0, 5)
      ∧ ({ oneStep { knife with pitch := 4000, repeats := 250 } with
          places := (oneStep { knife with pitch := 4000, repeats := 250 }).places.set 1 ⟨true, knife⟩ }).failure 2 = some (1, 5) := by
  decide +kernel

theorem witness_PatternClearEmptiesTheSlot :
    (head .ready).asked .patternClear 7 [9, 1, 6, 0xF3] ⟨9, 1, .patternClear 0xF3⟩
      ∧ (head .ready).serves .patternClear 7 ⟨9, 1, .patternClear 0xF3⟩
      ∧ (after (.patternClear 7 [9, 1, 6, 0xF3]) { head .ready with
          slots := (Vector.replicate 16 Slot.blank).set 3 (readySlot knife) }).slot 3 = Slot.blank
      ∧ (after (.patternClear 7 [9, 1, 6, 0xF3]) (laying .ready)).msg.answered = [⟨7, 9, .patternClear, .refused .inUse 0 0⟩] := by
  refine ⟨⟨⟨nowOf (head .ready), by unfold State.hears; decide +kernel⟩, by decide +kernel⟩, by unfold State.serves; decide +kernel, ?_⟩
  decide +kernel

/-! ## The Laying Unit -/

/-- The HEAD with an empty queue and a READY slot 3. -/
def idleHead : State := { head .ready with slots := (Vector.replicate 16 Slot.blank).set 3 (readySlot knife) }

theorem witness_PanelOrderAppendsPanels :
    idleHead.asked .panelOrder 7 (orderPayload 1) ⟨9, 1, .panelOrder 5 2 0x33 0⟩
      ∧ idleHead.serves .panelOrder 7 ⟨9, 1, .panelOrder 5 2 0x33 0⟩ ∧ nextDue idleHead = none
      ∧ ahead (plannedStart idleHead) idleHead.pos.ch0.lu = true
      ∧ (after (.panelOrder 7 (orderPayload 1)) idleHead).panels.map (·.id) = [5, 6]
      ∧ (after (.panelOrder 7 (orderPayload 1)) (laying .ready)).msg.answered = [⟨7, 9, .panelOrder, .refused .duplicate 0 0⟩]
      ∧ (after (.panelOrder 7 (orderPayload 1)) (head .ready)).msg.answered = [⟨7, 9, .panelOrder, .refused .noPattern 0 0⟩]
      ∧ orderRefusal idleHead 65535 1 3 7 = none ∧ orderRefusal idleHead 65535 2 3 7 = some .duplicate
      ∧ orderRefusal idleHead 1 8 3 0 = none ∧ orderRefusal idleHead 1 9 3 0 = some .queueFull
      ∧ orderRefusal idleHead 1 1 3 8 = some .badGrade := by
  refine ⟨⟨⟨nowOf idleHead, by unfold State.hears; decide +kernel⟩, by decide +kernel⟩, by unfold State.serves; decide +kernel, ?_⟩
  decide +kernel

theorem witness_OrderCancelRemovesQueuedPanels :
    (laying .ready).asked .orderCancel 7 [9, 1, 3, 5, 0, 2] ⟨9, 1, .orderCancel 5 2⟩
      ∧ (laying .ready).serves .orderCancel 7 ⟨9, 1, .orderCancel 5 2⟩
      ∧ (∀ x, cancels 5 2 x = true ↔ 1 ≤ (2 : Byte).toNat ∧ (2 : Byte).toNat ≤ 32 ∧ (5 : Half).toNat ≤ x.id
          ∧ x.id ≤ (5 : Half).toNat + (2 : Byte).toNat - 1)
      ∧ (after (.orderCancel 7 [9, 1, 3, 5, 0, 2]) (laying .ready)).lay.queued = []
      ∧ ((after (.orderCancel 7 [9, 1, 3, 5, 0, 2]) (laying .ready)).slot 3).inUse = 1
      ∧ (after (.orderCancel 7 [9, 1, 3, 5, 0, 33]) (laying .ready)).msg.answered = [⟨7, 9, .orderCancel, .done 0⟩]
      ∧ (after (.orderCancel 7 [9, 1, 3, 5, 0, 32]) (laying .ready)).msg.answered = [⟨7, 9, .orderCancel, .done 1⟩] := by
  refine ⟨⟨⟨nowOf (laying .ready), by unfold State.hears; decide +kernel⟩, by decide +kernel⟩, by unfold State.serves; decide +kernel,
    by intro x; simp [cancels, within], ?_⟩
  decide +kernel

theorem witness_SeamSlotIsPlacedOrDelayed :
    idleHead.asked .seamSlot 0 slotPayload ⟨9, 1, .seamSlot 500 100⟩ ∧ idleHead.serves .seamSlot 0 ⟨9, 1, .seamSlot 500 100⟩
      ∧ (after (.seamSlot 0 slotPayload) idleHead).msg.answered = [⟨0, 9, .seamSlot, .done 1100⟩]
      ∧ (after (.seamSlot 0 slotPayload) idleHead).lay.next = some ⟨.gap ⟨.planned 0 9, 700, false⟩, 1000⟩
      ∧ (after (.seamSlot 0 slotPayload) (laying .ready)).msg.delayed = [⟨0, 9, .seamSlot 500 100, none, none⟩] := by
  refine ⟨⟨⟨nowOf idleHead, by unfold State.hears; decide +kernel⟩, by decide +kernel⟩, by unfold State.serves; decide +kernel, ?_⟩
  decide +kernel

/-- The GAP planned for slotPayload lies from 1,000 to 1,700. -/
theorem witness_PlannedGapIsUsed :
    overlapping { idleHead with lay.seams := [⟨1699, 1, false, 0, none⟩] } 1000 1700 ≠ []
      ∧ ((after (.seamSlot 0 slotPayload) { idleHead with lay.seams := [⟨1699, 1, false, 0, none⟩] }).lay.next.map (·.item.flags.used))
        = some true
      ∧ ((after (.seamSlot 0 slotPayload) { idleHead with lay.seams := [⟨1700, 1, false, 0, none⟩] }).lay.next.map (·.item.flags.used))
        = some false
      ∧ ((after (.seamSlot 0 slotPayload) { idleHead with lay.evicted := some ⟨900, 1001⟩ }).lay.next.map (·.item.flags.used))
        = some true
      ∧ ((commitRule { delayedHead none with
          lay.next := none, lay.seams := [⟨5699, 1, false, 0, none⟩] }).lay.next.map (·.item.flags.used)) = some true := by
  decide +kernel

/-- A SEAM payload. -/
def seamPayload (pos length : Word) (flags : Byte) (margin : Word) : List Byte :=
  wordBytes pos ++ wordBytes length ++ [flags] ++ wordBytes margin

theorem witness_SeamEntersTheHead :
    (laying .running).hears 3 (laying .running).neighbour (seamPayload 4900 200 0 100) (nowOf (laying .running))
      ∧ parseSeam (seamPayload 4900 200 0 100) = some ⟨4900, 200, false, false, 100⟩ ∧ nextDue (laying .running) = none
      ∧ ((after (.seamAtHead 0 (seamPayload 4900 200 0 100)) (laying .running)).lay.laying.map (·.item.flags.seam)) = some true
      ∧ ((after (.seamAtHead 0 (seamPayload 4900 200 0 100)) (laying .running)).lay.next.map (·.item.flags.used)) = some true
      ∧ ((after (.seamAtHead 0 (seamPayload 4900 100 0 100)) (laying .running)).lay.next.map (·.item.flags.used)) = some false
      ∧ (after (.seamAtHead 0 (seamPayload 4900 200 0 100)) (laying .running)).pos.watches.length = 2 := by
  unfold State.hears; decide +kernel

/-- The HEAD with a full seam list. -/
def fullSeams (evicted : Option FlatRange) : State :=
  { laying .running with
    lay.seams := [⟨6000, 100, true, 50, none⟩, ⟨7000, 100, false, 50, none⟩, ⟨8000, 100, false, 50, none⟩, ⟨9000, 100, false, 50, none⟩]
    lay.evicted := evicted
    pos.watches := [⟨.flat, 6000, .seamArrival⟩, ⟨.flat, 6100, .seamEnd⟩, ⟨.flat, 7000, .seamArrival⟩] }

theorem witness_OldestSeamIsEvicted :
    (fullSeams none).lay.seams.length = 4 ∧ nextDue (fullSeams none) = none
      ∧ (after (.seamAtHead 0 (seamPayload 20000 200 0 100)) (fullSeams none)).lay.evicted = some ⟨6000, 6150⟩
      ∧ (after (.seamAtHead 0 (seamPayload 20000 200 0 100)) (fullSeams (some ⟨6100, 6149⟩))).lay.evicted = some ⟨6000, 6150⟩
      ∧ (after (.seamAtHead 0 (seamPayload 20000 200 0 100)) (fullSeams (some ⟨5900, 6200⟩))).lay.evicted = some ⟨5900, 6200⟩
      ∧ (after (.seamAtHead 0 (seamPayload 20000 200 0 100)) (fullSeams none)).msg.queue = [⟨.seam ⟨0, 0, true, true, 0⟩, 0, .waiting⟩]
      ∧ (after (.seamAtHead 0 (seamPayload 20000 200 0 100)) (fullSeams none)).pos.watches.map (·.event)
        = [.seamArrival, .evictedEnd, .seamArrival, .seamEnd]
      ∧ (after (.seamAtHead 0 (seamPayload 20000 200 0 100)) { laying .running with lay.laying := none, lay.next := none }).lay.laying
        = none := by
  decide +kernel

theorem witness_SeamsAreCapturedAndPassed :
    (fullSeams none).lay.seams.findIdx? (fun x => x.a == 6000 && x.captured.isNone) = some 0
      ∧ ((deliver ⟨.flat, 6000, .seamArrival⟩ (fullSeams none)).lay.seams[0]?).map (·.captured) = some (some 550)
      ∧ (deliver ⟨.flat, 6100, .seamEnd⟩ { fullSeams none with lay.seams := [⟨6000, 100, true, 50, some 500⟩] }).msg.queue
        = [⟨.seam ⟨500, 50, true, false, 0⟩, 0, .waiting⟩]
      ∧ (deliver ⟨.flat, 6100, .seamEnd⟩ { fullSeams none with lay.seams := [⟨6000, 100, true, 50, some 551⟩] }).msg.queue
        = [⟨.seam ⟨551, 0, true, false, 0⟩, 0, .waiting⟩]
      ∧ (deliver ⟨.flat, 6100, .seamEnd⟩ (fullSeams none)).freeCount = 1
      ∧ (deliver ⟨.flat, 6150, .evictedEnd⟩ (fullSeams (some ⟨6000, 6150⟩))).lay.evicted = none := by
  decide +kernel

/-- The HEAD with the second panel already NEXT. -/
def nextPanel : State :=
  { laying .running with lay.next := some ⟨.panel ⟨6, 3, 0, 2000, 4000, PanelFlags.none⟩, 5000⟩, lay.queued := [] }

theorem witness_SeamReturnsTheNextPanel :
    nextPanel.hears 3 nextPanel.neighbour (seamPayload 8999 200 0 100) (nowOf nextPanel) ∧ nextDue nextPanel = none
      ∧ nextPanel.lay.laying.map LayingItem.flatEnd = some 5000
      ∧ (after (.seamAtHead 0 (seamPayload 8999 200 0 100)) nextPanel).lay.next = some ⟨.gap ⟨.emergency, 4299, true⟩, 5000⟩
      ∧ (after (.seamAtHead 0 (seamPayload 8999 200 0 100)) nextPanel).lay.queued = [⟨6, 3, 0, 2000, 4000, PanelFlags.none⟩]
      ∧ (after (.seamAtHead 0 (seamPayload 9000 200 0 100)) nextPanel).lay.queued = [] := by
  unfold State.hears; decide +kernel

/-- A SEAM with its start at the flat position 1,100 is captured as it enters, and one whose end is reached too is reported and gone. A
returned panel with a SEAM SLOT delayed gives way to its PLANNED GAP. -/
theorem witness_ReachedSeamFires :
    (laying .running).pos.ch0.lu = 1100
      ∧ (after (.seamAtHead 0 (seamPayload 1100 200 0 100)) (laying .running)).lay.seams.map (·.captured) = [some 550]
      ∧ (after (.seamAtHead 0 (seamPayload 1101 200 0 100)) (laying .running)).lay.seams.map (·.captured) = [none]
      ∧ (after (.seamAtHead 0 (seamPayload 1000 100 0 100)) (laying .running)).lay.seams = []
      ∧ (after (.seamAtHead 0 (seamPayload 1000 100 0 100)) (laying .running)).msg.hasKind 3 = true
      ∧ (after (.seamAtHead 0 (seamPayload 8999 200 0 100)) { nextPanel with
          msg.delayed := [⟨0, 9, .seamSlot 500 100, none, none⟩] }).lay.next = some ⟨.gap ⟨.planned 0 9, 700, false⟩, 5000⟩
      ∧ ∃ v, fires 1 (enterSeam ⟨1100, 200, false, 100, none⟩ (laying .running)) v :=
  ⟨by decide +kernel, by decide +kernel, by decide +kernel, by decide +kernel, by decide +kernel, by decide +kernel,
    _, ⟨.flat, 1100, .seamArrival⟩, by decide +kernel, by decide +kernel, rfl⟩

/-- A SEAM frame ends at a SUPPLY, where its entry is OFF: its latch goes, and no later frame finds it. -/
theorem witness_UncollectedFrameDropsItsLatch :
    (after .frameStart { supply .running with link.bus := .idle }).link.latch.isSome = true
      ∧ (after (.seamAtHead 1 (seamPayload 0 0 0 0)) (after .frameStart { supply .running with link.bus := .idle })).link.latch = none
      ∧ (after (.seamAtSetter 1 (seamPayload 0 0 0 0)) (after .frameStart { supply .running with link.bus := .idle })).link.latch = none
      ∧ (after (.panelPassStart 1 [0, 5, 0, 2, 0, 0]) (after .frameStart { mapped .running with link.bus := .idle })).link.latch
        = none := by
  decide +kernel

theorem witness_CommitRuleChoosesTheNextItem :
    (commitRule (laying .ready)).lay = (laying .ready).lay
      ∧ (commitRule { laying .ready with lay.next := none }).lay.next
        = some ⟨.panel ⟨6, 3, 0, 2000, 4000, PanelFlags.none⟩, 5000⟩
      ∧ (commitRule { laying .ready with
          lay.next := none, lay.seams := [⟨5999, 1, false, 50, none⟩] }).lay.next
        = some ⟨.gap ⟨.emergency, 1050, true⟩, 5000⟩
      ∧ (commitRule { laying .ready with lay.next := none, lay.seams := [⟨9000, 1, false, 50, none⟩] }).lay.queued = []
      ∧ (commitRule { delayedHead none with lay.next := none }).msg.delayed
        = [⟨0, 9, .seamSlot 500 100, some (.done 5100), some 1000⟩] := by
  decide +kernel

theorem witness_ItemsStartAndEnd :
    (laying .halted).lay.next.isSome = true
      ∧ ((deliver ⟨.flat, 5000, .itemStart⟩ { laying .halted with
          lay.laying := none, lay.next := some ⟨.panel ⟨6, 3, 0, 2000, 4000, PanelFlags.none⟩, 5000⟩ }).lay.laying.map
          (·.item.flags.halt)) = some true
      ∧ (deliver ⟨.flat, 5000, .itemEnd⟩ (laying .running)).lay.laying = none
      ∧ ((deliver ⟨.flat, 5000, .itemEnd⟩ (laying .running)).slot 3).inUse = 1
      ∧ ⟨.passEnd ⟨false, 5, { PanelFlags.none with pleat := true }, .none, .none⟩, 0, .waiting⟩
        ∈ (deliver ⟨.flat, 5000, .itemEnd⟩ (laying .running)).msg.queue := by
  decide +kernel

theorem witness_StrokePointsAreTaken :
    (stepInForce (laying .running)).map (·.1) = some ⟨200, 2, 1, 400⟩ ∧ (laying .running).lay.mark = some 1000
      ∧ (deliver ⟨.pleated, 700, .cascade⟩ (laying .running)).lay.pulseLeft = some 5
      ∧ (deliver ⟨.pleated, 700, .cascade⟩ (laying .running)).lay.mark = some 1400
      ∧ (deliver ⟨.pleated, 700, .cascade⟩ (laying .halted)).lay.inFlight = false
      ∧ ((deliver ⟨.pleated, 700, .cascade⟩ { laying .running with lay.inFlight := true }).lay.laying.map (·.item.flags.pleat))
        = some true := by
  decide +kernel

/-- A PLAIN step: length 200, ten times. -/
def plain : StepRec := ⟨0, 0, 200, 0, 0, 10⟩

/-- The panel of the tests at a flat position, its mark at 1,000: the next stroke point's error is that position less 1,400. -/
def slipping (flat : Nat) (st : StationState) : State := { laying st with pos.ch0 := ⟨BitVec.ofNat 42 (flat * 1024), false, false⟩ }

theorem witness_SlipAndOverrunAreRaised :
    (deliver ⟨.pleated, 700, .cascade⟩ (slipping 1900 .running)).fault = none
      ∧ (deliver ⟨.pleated, 700, .cascade⟩ (slipping 1901 .running)).fault = some ⟨.pleatSlip, 5, .running⟩
      ∧ (deliver ⟨.pleated, 700, .cascade⟩ { slipping 1901 .running with lay.inFlight := true }).fault
        = some ⟨.strokeOverrun, 5, .running⟩
      ∧ (deliver ⟨.pleated, 700, .cascade⟩ { slipping 1901 .halted with lay.inFlight := true }).fault = some ⟨.pleatSlip, 5, .halted⟩
      ∧ (deliver ⟨.pleated, 700, .cascade⟩ (deliver ⟨.pleated, 700, .cascade⟩ (slipping 3000 .halted))).msg.queue.length = 1 := by
  decide +kernel

theorem witness_NextStepPointIsWatched :
    (deliver ⟨.pleated, 700, .cascade⟩ (laying .running)).pos.watches = [⟨.pleated, 900, .cascade⟩]
      ∧ stepInForce (deliver ⟨.pleated, 2500, .cascade⟩ { laying .running with
          lay.laying := some ⟨.panel ⟨5, 3, 0, 2000, 4000, PanelFlags.none⟩, 1000, 500, 0, 9, 0, false, false⟩ }) = none
      ∧ (deliver ⟨.pleated, 2500, .cascade⟩ { laying .running with
          lay.laying := some ⟨.panel ⟨5, 3, 0, 2000, 4000, PanelFlags.none⟩, 1000, 500, 0, 9, 0, false, false⟩ }).pos.watches = []
      ∧ (deliver ⟨.pleated, 2500, .cascade⟩ { laying .running with
          slots := (Vector.replicate 16 Slot.blank).set 3 { readySlot plain with inUse := 2 } }).lay.mark = some 3000
      ∧ (⟨.pleated, 750, .cascade⟩ : Watch) ∈ (deliver ⟨.flat, 5000, .itemStart⟩ { laying .running with
          lay.laying := none, lay.next := some ⟨.panel ⟨6, 3, 0, 2000, 4000, PanelFlags.none⟩, 5000⟩ }).pos.watches := by
  decide +kernel

theorem witness_FeedTimerFormsTheInfeed :
    (after .feedTimerExpiry { laying .running with spd.fine := 100000, lay.infeedLimit := 6000 }).lay.infeedRef = 1994
      ∧ (after .feedTimerExpiry { laying .running with spd.fine := 100000, lay.infeedLimit := 1993 }).lay.infeedRef = 1993
      ∧ (after .feedTimerExpiry { head .running with spd.fine := 100000, lay.infeedLimit := 6000 }).lay.infeedRef = 1000
      ∧ stepInForce (head .running) = none := by
  decide +kernel

/-- The HEAD with a stroke in flight. -/
def striking (st : StationState) : State := { laying st with lay.inFlight := true, lay.bladeTimer := some 300, lay.pulseRight := some 5 }

theorem witness_BladeAndPulsesEnd :
    (after (.bladeHomeBecomesActive ⟨0, 3, []⟩) (striking .running)).lay.bladeTimer = none
      ∧ (after .bladeHomeTimerExpiry (striking .running)).fault = some ⟨.bladeJam, 5, .running⟩
      ∧ nextDue (haltRole (striking .running)) = none
      ∧ (after .bladeHomeTimerExpiry (striking .halted)).fault = some ⟨.bladeJam, 5, .halted⟩
      ∧ (after .bladeHomeTimerExpiry (striking .halted)).link = (striking .halted).link
      ∧ (after .bladeHomeTimerExpiry { striking .running with lay.inFlight := false }).stn = .running
      ∧ (after (.strokePulseEnd .right) (striking .running)).lay.pulseRight = none := by
  decide +kernel

theorem witness_BladeHomeActsOncePerLevel :
    ({ striking .running with port.input3 := true } : State).isRole .head = true
      ∧ (after (.bladeHomeBecomesActive ⟨2, 3, []⟩) { striking .running with port.input3 := true }).lay.inFlight = true
      ∧ (after (.bladeHomeBecomesActive ⟨3, 3, []⟩) { striking .running with port.input3 := true }).lay.inFlight = false
      ∧ after (.bladeHomeBecomesActive ⟨3, 2, []⟩) { striking .running with port.input3 := true } = striking .running := by
  decide +kernel

/-! ## The Supply Unit -/

/-- A ROLL LOAD payload of roll 7 on arm B. -/
def loadPayload (length : Half) : List Byte := [9, 0, 7, 1, 7, 0] ++ halfBytes length

theorem witness_RollsAreLoaded :
    (supply .ready).asked .rollLoad 7 (loadPayload 60000) ⟨9, 0, .rollLoad 1 7 60000⟩
      ∧ (supply .ready).serves .rollLoad 7 ⟨9, 0, .rollLoad 1 7 60000⟩
      ∧ (after (.rollLoad 7 (loadPayload 60000)) (supply .ready)).sup.armB = ⟨.loading, some 7, 600000000, 0, false, some 60000⟩
      ∧ (after (.rollLoad 7 (loadPayload 1)) (supply .ready)).sup.armB.loaded = 10000
      ∧ (after (.rollLoad 7 (loadPayload 60001)) (supply .ready)).msg.answered = [⟨7, 9, .rollLoad, .refused .badLength 0 0⟩]
      ∧ (after (.rollLoad 7 (loadPayload 0)) (supply .ready)).msg.answered = [⟨7, 9, .rollLoad, .refused .badLength 0 0⟩]
      ∧ (after (.rollLoad 7 (loadPayload 5)) (rolls .ready)).msg.answered = [⟨7, 9, .rollLoad, .refused .armBusy 0 0⟩] := by
  refine ⟨⟨⟨nowOf (supply .ready), by unfold State.hears; decide +kernel⟩, by decide +kernel⟩, by unfold State.serves; decide +kernel, ?_⟩
  decide +kernel

/-- The SUPPLY with arm B LOADING for a delayed ROLL LOAD. -/
def threading (a : ArmState) : State :=
  { supply .ready with
    sup.armA := ⟨a, some 21, 600000, 400000, false, none⟩
    sup.armB := ⟨.loading, some 7, 500000, 0, false, some 60000⟩
    msg.delayed := [⟨7, 9, .rollLoad 1 7 50, none, none⟩] }

theorem witness_ThreadingCompletesRollLoad :
    (threading .running).isRole .supply = true ∧ ((threading .running).sup.arm .b).state = .loading
      ∧ (after (.armReadyBecomesActive .b ⟨0, 3, []⟩) (threading .running)).sup.armB = ⟨.loaded, some 7, 500000, 500000, false, none⟩
      ∧ (after (.armReadyBecomesActive .b ⟨0, 3, []⟩) (threading .expired)).sup.armB.state = .running
      ∧ (after (.threadingTimerExpiry .b) (threading .running)).msg.delayed
        = [⟨7, 9, .rollLoad 1 7 50, some (.refused .notThreaded 0 0), some 1000⟩] := by
  decide +kernel

theorem witness_ArmReadyActsOncePerLevel :
    ({ threading .running with port.input4 := true } : State).input 4 = true
      ∧ (after (.armReadyBecomesActive .b ⟨2, 3, []⟩) { threading .running with port.input4 := true }).sup.armB.state = .loading
      ∧ (after (.armReadyBecomesActive .b ⟨3, 3, []⟩) { threading .running with port.input4 := true }).sup.armB.state = .loaded
      ∧ after (.armReadyBecomesActive .b ⟨3, 2, []⟩) { threading .running with port.input4 := true } = threading .running
      ∧ (after (.armReadyBecomesActive .a ⟨0, 3, []⟩) (threading .running)).input 3 = true := by
  decide +kernel

/-- A sound report of 16-bit value 0x0064, 100 mm, or 0x0063, on channel 0. -/
def report (low status : Byte) : SensorReport := ⟨0, low, 0, status⟩

theorem witness_FestoonIsFollowed :
    (rolls .running).isRole .supply = true
      ∧ (after (.festoonReading ⟨300, (chars (report 100 0))⟩) (rolls .running)).sup.content = 10000
      ∧ (after (.festoonReading ⟨300, (chars (report 100 0))⟩) (rolls .running)).stn = .running
      ∧ (after (.festoonReading ⟨300, (chars (report 99 0))⟩) (rolls .running)).fault = some ⟨.festoonEmpty, 99, .running⟩
      ∧ (after (.festoonReading ⟨300, (chars (report 99 0))⟩) (rolls .ready)).sup.emptyMark = false
      ∧ (after (.festoonReading ⟨300, (chars (report 99 0))⟩) { rolls .running with sup.emptyMark := true }).stn = .running
      ∧ (after (.festoonReading ⟨300, (chars (report 99 1))⟩) (rolls .running)).sup.festoon = .holding
      ∧ (after .festoonHoldTimerExpiry { rolls .running with sup.festoonHold := some 500, sup.unwindRef := 1 }).stn = .stopping
      ∧ (after .festoonHoldTimerExpiry { rolls .running with sup.festoonHold := some 500 }).stn = .listen := by
  decide +kernel

/-- A report on channel 1 is none of the SUPPLY's, and none is heard without an idle line before it. -/
theorem witness_OtherReportsAreNotTaken :
    (rolls .running).heardReport ⟨299, (chars (report 100 0))⟩ = none
      ∧ (rolls .running).heardReport ⟨300, (chars (report 100 0))⟩ = some (report 100 0)
      ∧ (after (.festoonReading ⟨299, (chars (report 99 0))⟩) (rolls .running)).sup.content = 40000
      ∧ (after (.festoonReading ⟨300, (chars ⟨1, 99, 0, 0⟩)⟩) (rolls .running)).sup.content = 40000
      ∧ (after (.festoonReading ⟨300, (chars (report 99 0))⟩) (setter .running)).sup = (setter .running).sup := by
  decide +kernel

theorem witness_SupplyTimerFormsTheUnwind :
    (rolls .running).sup.supplyTimer.isSome = true
      ∧ (after .supplyTimerExpiry { rolls .running with sup.content := 30000 }).sup.unwindRef = 1300
      ∧ (after .supplyTimerExpiry { rolls .ready with sup.content := 30000 }).sup.unwindRef = 1200
      ∧ (after .supplyTimerExpiry { rolls .running with sup.content := 3000000 }).sup.unwindRef = 200
      ∧ (after .supplyTimerExpiry { rolls .running with sup.splice := .pressing, sup.fineUnwind := 1000 }).sup.unwindRef = 8
      ∧ (after .supplyTimerExpiry { rolls .halted with sup.unwindRef := 7 }).sup.unwindRef = 7
      ∧ (after .supplyTimerExpiry { rolls .running with sup.splice := .pressing }).sup.pressFire = true := by
  decide +kernel

theorem witness_SpliceSequenceIsEvaluated :
    (rolls .running).sup.running = some .a ∧ (rolls .running).role = some .supply
      ∧ (after .supplyTimerExpiry { rolls .running with sup.armA := ⟨.running, none, 600000, 100000, false, none⟩ }).sup.emergency = true
      ∧ (after .supplyTimerExpiry { rolls .running with sup.armA := ⟨.running, none, 600000, 100001, false, none⟩ }).sup.outstanding
        = some 0
      ∧ (after .supplyTimerExpiry { rolls .running with sup.armA := ⟨.running, none, 600000, 500001, false, none⟩ }).sup.splice = .run
      ∧ (after .supplyTimerExpiry { rolls .running with sup.armB := Arm.blank }).sup.armA.noSpare = true
      ∧ (after .supplyTimerExpiry { rolls .running with sup.splice := .requesting }).msg.nextId = 1
      ∧ (after .supplyTimerExpiry { rolls .running with sup.splice := .noSlot }).sup.splice = .noSlot := by
  decide +kernel

/-- At the threshold without a spare NO SPARE ROLL is raised with the roll id, at the next evaluation not again. -/
theorem witness_NoSpareRollIsRaisedOnce :
    ((rolls .running).sup.arm .a).noSpare = false ∧ ((rolls .running).sup.arm .a).roll = some 21 ∧ (rolls .running).msg.room = true
      ∧ (after .supplyTimerExpiry { rolls .running with sup.armB := Arm.blank }).fault = some ⟨.noSpareRoll, 21, .running⟩
      ∧ (after .supplyTimerExpiry { rolls .running with sup.armB := Arm.blank }).msg.queue
        = [⟨.fault ⟨.noSpareRoll, 21, .running⟩, 0, .waiting⟩]
      ∧ (after .supplyTimerExpiry (after .supplyTimerExpiry { rolls .running with sup.armB := Arm.blank })).msg.queue.length = 1
      ∧ ⟨.fault ⟨.noSpareRoll, 21, .stopping⟩, 0, .waiting⟩
        ∈ (after .supplyTimerExpiry { rolls .stopping with sup.armB := Arm.blank, sup.vHead := 0, port.eStop := true }).msg.queue
      ∧ (after .supplyTimerExpiry { rolls .running with sup.armB := Arm.blank, sup.armA.noSpare := true }).fault
        = (rolls .running).fault := by
  decide +kernel

theorem witness_SpliceFillsAndPresses :
    (after .supplyTimerExpiry { rolls .running with sup.splice := .filling, sup.fpos := some 9000, sup.content := 79000 }).sup.splice
        = .armed
      ∧ (after .supplyTimerExpiry { rolls .running with sup.splice := .filling, sup.fpos := some 9000, sup.content := 78999 }).sup.splice
        = .filling
      ∧ (after .supplyTimerExpiry { rolls .running with sup.splice := .armed, sup.fpos := some 25000, pos.measured := 1000 }).sup.splice
        = .pressing
      ∧ (after .supplyTimerExpiry { rolls .running with sup.splice := .armed, sup.fpos := some 25001, pos.measured := 1000 }).sup.splice
        = .armed
      ∧ (after .supplyTimerExpiry { rolls .running with sup.splice := .accelerating, sup.content := 41000 }).sup.splice = .run
      ∧ (after .supplyTimerExpiry { rolls .running with sup.splice := .accelerating, sup.content := 41001 }).sup.splice
        = .accelerating := by
  decide +kernel

/-- An arm at the runout reserve with a spare loaded. -/
def emptying (splice : SpliceState) : State :=
  { rolls .running with sup.armA := ⟨.running, none, 600000, 100000, false, none⟩, sup.splice := splice }

theorem witness_EmergencyComesAfterTheThreshold :
    (after .supplyTimerExpiry (emptying .run)).sup.splice = .pressing
      ∧ (after .supplyTimerExpiry (emptying .run)).msg.pendings.map (·.body) = [.seamSlot 500 100]
      ∧ (after .supplyTimerExpiry (emptying .requesting)).sup.splice = .pressing
      ∧ (after .supplyTimerExpiry (emptying .requesting)).msg.pendings = []
      ∧ (after .supplyTimerExpiry (emptying .accelerating)).sup.splice = .run
      ∧ (after .supplyTimerExpiry { rolls .running with
          sup.splice := .filling, sup.fpos := some 9000, sup.content := 79000, sup.festoon := .lost }).sup.splice = .filling
      ∧ (after .supplyTimerExpiry { rolls .running with sup.splice := .accelerating, sup.festoon := .lost }).sup.splice = .accelerating := by
  decide +kernel

theorem witness_SupplyTimerAtRestInPressing :
    (after .supplyTimerExpiry { rolls .ready with sup.splice := .pressing }).sup.brake = true
      ∧ (after .supplyTimerExpiry { rolls .ready with sup.splice := .pressing }).sup.pressFire = false
      ∧ (after .supplyTimerExpiry { rolls .running with
          sup.splice := .pressing, sup.pressFire := true, sup.pressTimer := some 1 }).sup.pressTimer = some 1 := by
  decide +kernel

/-- A fired press, Fpos 100 lu behind the arrival estimate, or 101. -/
def pressed (fpos : Word) : State :=
  { rolls .running with
    sup.splice := .pressing, sup.pressFire := true, sup.pressTimer := some 3000, sup.brake := true, sup.offset := 1100
    sup.fpos := some fpos }

theorem witness_PressEndsOrTimesOut :
    (pressed 1000).isRole .supply = true ∧ (pressed 1000).msg.room = true
      ∧ (after (.pressDone ⟨0, 3, []⟩) (pressed 1000)).sup.armA.state = .expired ∧ (after (.pressDone ⟨0, 3, []⟩) (pressed 1000)).sup.armB.state = .running
      ∧ ⟨.seam ⟨1100, 500, false, false, 100⟩, 0, .waiting⟩ ∈ (after (.pressDone ⟨0, 3, []⟩) (pressed 1000)).msg.queue
      ∧ ⟨.seam ⟨1100, 500, true, false, 100⟩, 0, .waiting⟩ ∈ (after (.pressDone ⟨0, 3, []⟩) (pressed 999)).msg.queue
      ∧ (after .pressTimerExpiry (pressed 1000)).fault = some ⟨.pressTimeout, 22, .running⟩
      ∧ (after .pressTimerExpiry { pressed 1000 with stn := .halted }).fault = some ⟨.pressTimeout, 22, .halted⟩ := by
  decide +kernel

theorem witness_PressDoneActsOncePerLevel :
    (after (.pressDone ⟨2, 3, []⟩) { pressed 1000 with port.input5 := true }).sup.splice = .pressing
      ∧ (after (.pressDone ⟨3, 3, []⟩) { pressed 1000 with port.input5 := true }).sup.splice = .accelerating
      ∧ after (.pressDone ⟨0, 3, []⟩) { pressed 1000 with sup.pressFire := false }
        = { pressed 1000 with sup.pressFire := false, port.input5 := true }
      ∧ after (.pressDone ⟨3, 2, []⟩) { pressed 1000 with port.input5 := true } = pressed 1000 := by
  decide +kernel

/-- E-stop and web break are active at the pin's high, the others at its low; the readings of a row, through the filter of three, give the
level it leaves. -/
theorem witness_PinsAreActiveAtTheirLevel :
    (List.range 9).map State.reset.pin = [true, false, false, true, true, true, true, true, true]
      ∧ pinReadings (.eStopBecomesActive 3) 1 = [true, true, true] ∧ pinReadings (.webBreakBecomesInactive 2) 2 = [false, false]
      ∧ pinReadings (.pressDone ⟨3, 2, [⟨7, false, 3⟩]⟩) 5 = [true, true, true, false, false]
      ∧ pinReadings (.pressDone ⟨3, 2, [⟨7, false, 3⟩]⟩) 7 = [false, false, false]
      ∧ (after (.eStopBecomesActive 3) (setter .running)).pin 1 = true ∧ (after (.eStopBecomesActive 2) (setter .running)).pin 1 = false
      ∧ (after (.pressDone ⟨0, 3, []⟩) (pressed 1000)).pin 5 = false
      ∧ (after (.restart ⟨0, 3, []⟩) badStation).pin 8 = false
      ∧ filterReadings true [false, false, true, false, false] = true ∧ filterReadings true [false, false, false, true, true] = false := by
  decide +kernel

/-- Filtered levels of inputs that no row changes: three samples, unused inputs either way, used ones released, inputs 3 to 7 not before
the end of CONFIG. -/
theorem witness_InputsFollowTheirSamples :
    [(samplePins [⟨3, false, 3⟩] (setter .running)).input 3, (samplePins [⟨3, false, 2⟩] (setter .running)).input 3,
      (samplePins [⟨3, false, 3⟩] (head .running)).input 3, (samplePins [⟨4, false, 3⟩] (head .running)).input 4,
      (samplePins [⟨5, false, 3⟩] (supply .running)).input 5, (samplePins [⟨6, false, 3⟩] (supply .running)).input 6,
      (samplePins [⟨7, false, 3⟩] (setter .running)).input 7, (samplePins [⟨7, false, 3⟩] badStation).input 7,
      (samplePins [⟨8, false, 3⟩] (setter .running)).input 8]
      = [true, false, false, true, false, true, true, false, false]
      ∧ samplePins [⟨3, false, 3⟩, ⟨3, true, 3⟩, ⟨1, true, 3⟩, ⟨2, true, 3⟩, ⟨9, false, 3⟩] (setter .running) = setter .running
      ∧ samplePins [⟨8, true, 3⟩] { badStation with port.restartIn := true } = badStation
      ∧ (after (.pressDone ⟨0, 3, [⟨3, true, 3⟩, ⟨7, false, 3⟩]⟩) { pressed 1000 with port.input3 := true }).sup.splice = .accelerating
      ∧ (after (.pressDone ⟨0, 3, [⟨3, true, 3⟩, ⟨7, false, 3⟩]⟩) { pressed 1000 with port.input3 := true }).port.input3 = false
      ∧ (after (.restart ⟨0, 0, [⟨7, false, 3⟩]⟩) (head .listen)).input 7 = true := by
  decide +kernel

/-! ## The Setting Unit -/

theorem witness_SetpointIsClampedAndStored :
    (setter .ready).asked .setpoint 7 [9, 2, 8, 0, 0xFF, 0x7F] ⟨9, 2, .setpoint 0 0x7FFF⟩
      ∧ (setter .ready).serves .setpoint 7 ⟨9, 2, .setpoint 0 0x7FFF⟩
      ∧ (after (.setpoint 7 [9, 2, 8, 0, 0xFF, 0x7F]) (setter .ready)).msg.answered = [⟨7, 9, .setpoint, .done 2200⟩]
      ∧ ((after (.setpoint 7 [9, 2, 8, 0, 0xFF, 0xFF]) (setter .ready)).set.zones[0]?).map (·.duty) = some 0
      ∧ ((after (.setpoint 7 [9, 2, 8, 0, 0xDC, 0x05]) (setter .ready)).set.zones[0]?).map (·.duty) = some 500
      ∧ ((after (.setpoint 7 [9, 2, 8, 1, 0xDC, 0x05]) (setter .ready)).set.zones[1]?).map (·.setpoint) = some 1500
      ∧ (after (.setpoint 7 [9, 2, 8, 2, 0xFF, 0x7F]) (setter .ready)).msg.answered = [⟨7, 9, .setpoint, .refused .badZone 0 0⟩] := by
  refine ⟨⟨⟨nowOf (setter .ready), by unfold State.hears; decide +kernel⟩, by decide +kernel⟩, by unfold State.serves; decide +kernel, ?_⟩
  decide +kernel

/-- A zone report of a value on channel 0. -/
def zoneValue (v : Half) : SensorReport := ⟨0, v.extractLsb' 0 8, v.extractLsb' 8 8, 0⟩

theorem witness_ZonesFollowTheirSensors :
    (setter .running).isRole .setter = true ∧ (setter .running).set.zones.length = 2
      ∧ ((after (.zoneReport ⟨300, (chars (zoneValue 1400))⟩) (setter .running)).set.zones[0]?).map (·.duty) = some 26
      ∧ ((after (.zoneReport ⟨300, (chars (zoneValue 1400))⟩) (setter .halted)).set.zones[0]?).map (·.duty) = some 500
      ∧ (after (.zoneReport ⟨300, (chars (zoneValue 2300))⟩) (setter .running)).stn = .running
      ∧ (after (.zoneReport ⟨300, (chars (zoneValue 2301))⟩) (setter .running)).fault = some ⟨.overtemp, 0, .running⟩
      ∧ (after (.zoneReport ⟨300, (chars ⟨1, 0xFD, 8, 0⟩)⟩) (setter .halted)).fault = some ⟨.overtemp, 1, .halted⟩
      ∧ ((after (.zoneReport ⟨300, (chars (zoneValue 2501))⟩) (setter .running)).set.zones[0]?).map (·.cond) = some .holding
      ∧ ((after (.zoneReport ⟨300, (chars (zoneValue (-500)))⟩) (setter .running)).set.zones[0]?).map (·.reading) = some (some (-500))
      ∧ ((after (.zoneReport ⟨300, (chars (zoneValue (-501)))⟩) (setter .running)).set.zones[0]?).map (·.cond) = some .holding := by
  decide +kernel

/-- The zone of the tests reads 1,400; its setpoint falls to 1,379, 1,380 and 1,400, and its reading rises to 1,521 and 1,520. -/
theorem witness_VentFollowsTheBand :
    (after (.setpoint 7 [9, 2, 8, 0, 0x63, 5]) (setter .ready)).set.vent = true
      ∧ (after (.setpoint 7 [9, 2, 8, 0, 0x64, 5]) (setter .ready)).set.vent = false
      ∧ (after (.setpoint 7 [9, 2, 8, 0, 0x64, 5]) { setter .ready with set.vent := true }).set.vent = true
      ∧ (after (.setpoint 7 [9, 2, 8, 0, 0x78, 5]) { setter .ready with set.vent := true }).set.vent = false
      ∧ (after (.zoneReport ⟨300, (chars (zoneValue 1521))⟩) (setter .running)).set.vent = true
      ∧ (after (.zoneReport ⟨300, (chars (zoneValue 1520))⟩) (setter .running)).set.vent = false
      ∧ (after (.zoneReport ⟨300, (chars (zoneValue 1501))⟩) { setter .running with set.vent := true }).set.vent = true
      ∧ (after (.zoneReport ⟨300, (chars (zoneValue 1500))⟩) { setter .running with set.vent := true }).set.vent = false := by
  decide +kernel

/-- A trip at 2,301 halts a SETTER from UNCAPTURED and the seam at 2,000 enters the chest: its T_low is the T_cold before the report. -/
theorem witness_TripKeepsTheOldColdest :
    ((after (.zoneReport ⟨300, (chars (zoneValue 2301))⟩) { mapped .running with
        pos.reg := .uncaptured, pos.held := 500, pos.offset := 2000
        pos.watches := [⟨.map, 2000, .spanEntry 2000⟩] }).map.spans[1]?).map (·.phase) = some (.inChest 0 (some 1400) 0)
      ∧ ((after (.zoneReport ⟨300, (chars (zoneValue 2301))⟩) (mapped .running)).set.zones[0]?).map (·.reading) = some (some 2301) := by
  decide +kernel

theorem witness_ZoneSensorsAreLost :
    (after (.zoneHoldTimerExpiry 0) { setter .running with set.zones := [⟨1500, some 1400, .holding, 3, 500, some 2000⟩] }).set.zones
        = [⟨1500, none, .lost, 0, 0, none⟩]
      ∧ (after (.zoneHoldTimerExpiry 0) { setter .running with
          set.zones := [⟨1500, some 1400, .holding, 3, 500, some 2000⟩] }).fault = some ⟨.sensorLost, 0, .running⟩
      ∧ (after (.zoneReport ⟨300, (chars ⟨0, 0, 0, 1⟩)⟩) { setter .running with
          set.zones := [⟨1500, none, .lost, 0, 0, none⟩] }).set.zones = [⟨1500, none, .lost, 0, 0, none⟩] := by
  decide +kernel

theorem witness_DwellRequirementInterpolates :
    (∃ pts : Nat → DwellPoint, (setter .ready).conf.dwell = (List.range 8).map pts) ∧ dwellValid (setter .ready).conf.dwell = true
      ∧ dwellRequirement (setter .ready) 999 = none ∧ dwellRequirement (setter .ready) 1000 = some 600
      ∧ dwellRequirement (setter .ready) 1501 = some 100 ∧ dwellRequirement (setter .ready) 1503 = some 99
      ∧ dwellRequirement (setter .ready) 1700 = some 51 ∧ dwellRequirement (setter .ready) 2500 = some 51 :=
  ⟨⟨fun i => ((setter .ready).conf.dwell[i]?).getD ⟨0, 0⟩, rfl⟩, by decide +kernel⟩

theorem witness_StaleChannelsAndDroppedReports :
    ((rolls .running).staleTimer 0).isSome = true ∧ ((rolls .running).staleTimer 7).isSome = true
      ∧ (after (.stalenessTimerExpiry 0) (rolls .running)).sup.festoon = .holding
      ∧ (after (.stalenessTimerExpiry 7) (rolls .running)).sup.festoon = .good
      ∧ ((after (.stalenessTimerExpiry 0) (setter .running)).set.zones[0]?).map (·.cond) = some .holding
      ∧ (after (.stalenessTimerExpiry 0) (head .running)).staleTimer 0 = none
      ∧ after (.sensorReportDropped ⟨300, [⟨0, true⟩]⟩) (setter .running)
        = { setter .running with port.report := some [⟨0, true⟩] } := by
  decide +kernel

/-- A report in two commands; one with a low stop bit; one on channel 8; three characters cut off by an idle line; nothing outside LISTEN
to HALTED. -/
theorem witness_ReceiverCollectsReports :
    (hearSensor ⟨300, [⟨0, true⟩, ⟨1, true⟩]⟩ (setter .running)).port.report = some [⟨0, true⟩, ⟨1, true⟩]
      ∧ (hearSensor ⟨300, [⟨0, true⟩, ⟨1, true⟩]⟩ (setter .running)).heardReport ⟨299, [⟨2, true⟩, ⟨0, true⟩]⟩ = some ⟨0, 1, 2, 0⟩
      ∧ (hearSensor ⟨300, [⟨0, true⟩, ⟨1, true⟩]⟩ (setter .running)).heardReport ⟨300, [⟨2, true⟩, ⟨0, true⟩]⟩ = none
      ∧ (setter .running).heardReport ⟨300, [⟨0, true⟩, ⟨1, false⟩, ⟨2, true⟩, ⟨0, true⟩]⟩ = none
      ∧ (setter .running).heardReport ⟨300, (chars ⟨8, 0, 0, 0⟩)⟩ = none
      ∧ (setter .running).heardReport ⟨300, (chars ⟨7, 0, 0, 0⟩)⟩ = some ⟨7, 0, 0, 0⟩
      ∧ (setter .running).port.report = none ∧ (hearSensor ⟨299, (chars ⟨0, 0, 0, 0⟩)⟩ (setter .running)).port.report = none
      ∧ badStation.heardReport ⟨300, (chars ⟨0, 0, 0, 0⟩)⟩ = none
      ∧ (after (.restart ⟨0, 3, []⟩) (hearSensor ⟨300, [⟨0, true⟩]⟩ (setter .running))).port.report = none := by
  decide +kernel

/-! ## The Map Unit -/

/-- A PANEL PASS START payload of a pleated length. -/
def longStart (kind : Byte) (id : Half) (start length : Word) : List Byte :=
  [kind] ++ halfBytes id ++ [3, 0] ++ wordBytes start ++ wordBytes length ++ [0]

/-- A PANEL PASS START payload. -/
def startPayload (kind : Byte) (id : Half) (start : Word) : List Byte := longStart kind id start 2000

/-- The map of the tests with 24 spans. -/
def fullMap : State :=
  { mapped .running with
    map.spans := (List.range 24).map fun i => ⟨.gap false false, word32 (10 * i), 5, PanelFlags.none, PanelFlags.none, false, .approaching⟩ }

theorem witness_PassNoticesAreMapped :
    (mapped .running).hears 2 (mapped .running).neighbour (startPayload 0 7 6000) (nowOf (mapped .running))
      ∧ nextDue (mapped .running) = none ∧ ahead (6000 : Word) (mapped .running).mapPos = true
      ∧ (after (.panelPassStart 1 (startPayload 0 7 6000)) (mapped .running)).map.spans.length = 4
      ∧ (after (.panelPassStart 1 (startPayload 0 7 6001)) (mapped .running)).map.spans.length = 3
      ∧ (after (.panelPassStart 1 (startPayload 0 6 6000)) (mapped .running)).map.spans.length = 3
      ∧ (after (.panelPassStart 1 (startPayload 1 0 3000)) (mapped .running)).map.spans.length = 3
      ∧ (after (.panelPassStart 1 (startPayload 0 7 6000)) fullMap).fault = some ⟨.mapOverflow, 7, .running⟩
      ∧ ((after (.panelPassStart 1 (startPayload 0 7 1001)) (mapped .running)).map.spans.map (·.own.seam)).count true = 1 := by
  unfold State.hears; decide +kernel

/-- The map position is 1,000: a pass start there is in the chest at once, one at 1,001 approaches, and both lie between the spans that
start at 0 and at 2,000. -/
theorem witness_PassStartBehindTheMapPosition :
    ahead (1000 : Word) (mapped .running).mapPos = false
      ∧ (after (.panelPassStart 1 (startPayload 0 7 1000)) (mapped .running)).map.spans.map (·.start) = [0, 1000, 2000, 3000]
      ∧ ((after (.panelPassStart 1 (startPayload 0 7 1000)) (mapped .running)).map.spans[1]?).map (·.phase)
        = some (.inChest 0 (some 1400) 0)
      ∧ ((after (.panelPassStart 1 (startPayload 0 7 1001)) (mapped .running)).map.spans[1]?).map (·.phase) = some .approaching
      ∧ (after (.seamAtSetter 1 (wordBytes 2500 ++ wordBytes 10 ++ [0] ++ wordBytes 0)) (mapped .running)).map.spans.map (·.start)
        = [0, 2000, 2500, 3000]
      ∧ ((after (.seamAtSetter 1 (wordBytes 1000 ++ wordBytes 10 ++ [0] ++ wordBytes 0)) (mapped .running)).map.spans[1]?).map (·.phase)
        = some (.inChest 0 (some 1400) 0)
      ∧ ((after (.seamAtSetter 1 (wordBytes 1001 ++ wordBytes 10 ++ [0] ++ wordBytes 0)) (mapped .running)).map.spans[1]?).map (·.phase)
        = some .approaching := by
  decide +kernel

/-- A start exactly 2^31 ahead of the map position, of a length that reaches past it: not ahead and not reached, so APPROACHING; one lu
more and it is behind, and in the chest. -/
theorem witness_StartHalfTheRangeAway :
    ahead (0x800003E8 : Word) (mapped .running).mapPos = false ∧ sdiff (mapped .running).mapPos 0x800003E8 < 0
      ∧ 0 ≤ sdiff (mapped .running).mapPos 0x800003E9
      ∧ (after (.panelPassStart 1 (longStart 0 7 0x800003E8 0x80000001)) (mapped .running)).map.spans.length = 4
      ∧ (after (.panelPassStart 1 (longStart 0 7 0x800003E8 0x80000001)) (mapped .running)).pos.watches
        = [⟨.map, 0x800003E8, .spanEntry 0x800003E8⟩]
      ∧ (after (.panelPassStart 1 (longStart 0 7 0x800003E8 0x80000001)) (mapped .running)).map.spans.all
          (fun x => x.start != 0x800003E8 || decide (x.phase = .approaching)) = true
      ∧ (after (.panelPassStart 1 (longStart 0 7 0x800003E9 0x80000001)) (mapped .running)).map.spans.all
          (fun x => x.start != 0x800003E9 || decide (x.phase = .inChest 0 (some 1400) 0)) = true
      ∧ (after (.seamAtSetter 1 (seamPayload 0x800003E8 0x80000001 0 0)) (mapped .running)).map.spans.length = 4
      ∧ (after (.seamAtSetter 1 (seamPayload 0x800003E8 0x80000001 0 0)) (mapped .running)).pos.watches
        = [⟨.map, 0x800003E8, .spanEntry 0x800003E8⟩]
      ∧ (after (.seamAtSetter 1 (seamPayload 0x800003E9 0x80000001 0 0)) (mapped .running)).map.spans.all
          (fun x => x.start != 0x800003E9 || decide (x.phase = .inChest 0 (some 1400) 0)) = true := by
  decide +kernel

theorem witness_PassEndsAreMerged :
    (mapped .running).hears 2 (mapped .running).neighbour [0, 5, 0, 2, 0, 0] (nowOf (mapped .running))
      ∧ ((after (.panelPassEnd 1 [0, 5, 0, 2, 0, 0]) (mapped .running)).map.spans[0]?).map (·.received.pleat) = some true
      ∧ (after (.panelPassEnd 1 [0, 8, 0, 2, 0, 0]) (mapped .running)).map = (mapped .running).map
      ∧ ((after (.panelPassEnd 1 [1, 0, 0, 16, 0, 0]) fullMap).map.spans[0]?).map (·.kind) = some (.gap false true) := by
  unfold State.hears; decide +kernel

theorem witness_SeamsAreMappedOrForwarded :
    (mapped .running).hears 3 (mapped .running).neighbour (seamPayload 4000 10 0 0) (nowOf (mapped .running))
      ∧ (after (.seamAtSetter 1 (seamPayload 4000 10 0 0)) (mapped .running)).map.spans.length = 4
      ∧ ((after (.seamAtSetter 1 (seamPayload 4000 10 0 0)) (mapped .running)).map.spans[2]?).map (·.own.seam) = some true
      ∧ (after (.seamAtSetter 1 (seamPayload 4000 10 2 0)) (mapped .running)).msg.queue
        = [⟨.seam ⟨4000, 10, false, true, 0⟩, 0, .waiting⟩]
      ∧ (after (.seamAtSetter 1 (seamPayload 6001 10 0 0)) (mapped .running)).msg.queue
        = [⟨.seam ⟨6001, 10, false, false, 0⟩, 0, .waiting⟩]
      ∧ (after (.seamAtSetter 1 (seamPayload 3000 10 0 0)) (mapped .running)).msg.queue
        = [⟨.seam ⟨3000, 10, false, true, 0⟩, 0, .waiting⟩]
      ∧ (after (.seamAtSetter 1 (seamPayload 4000 10 0 0)) fullMap).fault = some ⟨.mapOverflow, 0, .running⟩ := by
  unfold State.hears; decide +kernel

theorem witness_SpansPassTheChest :
    (mapped .running).map.sampleTimer.isSome = true
      ∧ ((after .sampleTimerExpiry { mapped .running with
          set.zones := [⟨1500, some 1300, .good, 0, 0, none⟩] }).map.spans[0]?).map (·.phase) = some (.inChest 1000 (some 1300) 0)
      ∧ ((deliver ⟨.map, 3000, .spanEntry 3000⟩ (mapped .running)).map.spans[2]?).map (·.phase) = some (.inChest 0 (some 1400) 0)
      ∧ ((deliver ⟨.map, 3000, .spanEntry 3000⟩ (mapped .halted)).map.spans[2]?).map (·.own.halt) = some true
      ∧ (deliver ⟨.map, 2000, .spanEntry 2000⟩ (mapped .running)).msg.queue = []
      ∧ (deliver ⟨.map, 302000, .spanLeave 0⟩ (mapped .running)).msg.queue
        = [⟨.passEnd ⟨false, 5, { PanelFlags.none with noEnd := true }, .set, .noEnd⟩, 0, .waiting⟩]
      ∧ verdictOf (mapped .running) 1000 (some 1400) 60001 = .overset ∧ verdictOf (mapped .running) 1000 (some 1400) 60000 = .set
      ∧ verdictOf (mapped .running) 1501 (some 1400) 0 = .underset ∧ verdictOf (mapped .running) 1500 (some 1400) 0 = .set := by
  decide +kernel

end Sys2Proof.Tests
end

section
/-! PROOFS. O41, ORDER CANCEL (R120): a request that reaches its serving block runs it, a final answer is recorded and waits to be sent, and
the in-use counts fall by one for each panel record that leaves the queue. -/

namespace Sys2Proof.Machine

/-! ## A request that reaches its serving block (R32, R45) -/

theorem receive_of_hears {s : State} {kind : Nat} {sender : Station} {p : List Byte} {l : Latch} (h : s.hears kind sender p l)
    (deliver : Latch → State → State) : receive kind sender p deliver s = deliver l (dropLatch s) := by
  obtain ⟨hlatch, haccept, hlength⟩ := h
  simp [receive, hlatch, haccept, hlength]

theorem examine_of_serves {s : State} {code : ReqCode} {sender : Station} {r : RequestIn}
    (htarget : r.target = stationByte s.conf.number) (h : s.serves code sender r) (serve : Byte → ReqBody → State → State) :
    examine code sender r serve s = serve r.id r.body s := by
  obtain ⟨hanswered, hdelayed, hrole, hallowed, hdelays⟩ := h
  have hfree : ¬(code.delayable && s.msg.delays sender code) = true := by simpa using hdelays
  simp [examine, htarget, hanswered, hdelayed, hrole, hallowed, hfree]

/-- The serving block of a request works on the state in which the frame's latch is gone. -/
theorem receiveRequest_of_serves {s : State} {code : ReqCode} {sender : Station} {p : List Byte} {r : RequestIn}
    (hasked : s.asked code sender p r) (hserves : s.serves code sender r) (serve : Byte → ReqBody → State → State) :
    receiveRequest code sender p serve s = serve r.id r.body (dropLatch s) := by
  obtain ⟨⟨l, hhears⟩, hparse, htarget⟩ := hasked
  rw [receiveRequest, receive_of_hears hhears]
  simp only [hparse]
  exact examine_of_serves (s := dropLatch s) htarget hserves serve

/-! ## A final answer (R41, R47, R48) -/

theorem answersOnly_refl (m : Msg) : m.answersOnly m := ⟨rfl, List.prefix_rfl⟩

theorem Msg.answersOnly.trans {m m' m'' : Msg} (h : m.answersOnly m') (h' : m'.answersOnly m'') : m.answersOnly m'' := by
  obtain ⟨e, hpre⟩ := h
  obtain ⟨e', hpre'⟩ := h'
  refine ⟨?_, hpre.trans hpre'⟩
  rw [e] at e'
  exact e'

theorem recordAnswer_answersOnly (m : Msg) (a : Answered) : m.answersOnly (m.recordAnswer a) := by
  unfold Msg.recordAnswer
  simp only
  repeat' split
  all_goals exact answersOnly_refl _

/-- Whichever entry an answer replaces or displaces, it is the newest of the list. -/
theorem recordAnswer_newest (m : Msg) (a : Answered) : (m.recordAnswer a).answered.getLast? = some a := by
  unfold Msg.recordAnswer
  simp only
  repeat' split
  all_goals simp [Msg.unmark]

@[simp] theorem handAsk_answered (m : Msg) (f : Frame) (u : UnsentRef) : (m.handAsk f u).answered = m.answered := by
  unfold Msg.handAsk Msg.markUnsent
  repeat' split
  all_goals rfl

theorem handAsk_answersOnly (m : Msg) (f : Frame) (u : UnsentRef) : m.answersOnly (m.handAsk f u) := by
  unfold Msg.handAsk Msg.markUnsent
  repeat' split
  · exact answersOnly_refl m
  · exact ⟨rfl, List.prefix_append ..⟩
  · exact answersOnly_refl m
  · exact ⟨rfl, List.prefix_rfl⟩

theorem markUnsent_mem (m : Msg) (u : UnsentRef) : u ∈ (m.markUnsent u).unsent := by
  unfold Msg.markUnsent
  split
  · next hmarked => exact List.contains_iff_mem.mp hmarked
  · simp

/-- A frame handed over waits in the queue, or, the queue full, its record is marked unsent (R41). -/
theorem handAsk_waits (m : Msg) (f : Frame) (u : UnsentRef) :
    (m.handAsk f u).copyWaits f = true ∨ u ∈ (m.handAsk f u).unsent := by
  unfold Msg.handAsk
  split
  · next hcopy => exact .inl hcopy
  · split
    · exact .inl (by simp [Msg.copyWaits, Msg.place, QEntry.isWaiting])
    · exact .inr (markUnsent_mem m u)

theorem finish_answersOnly (m : Msg) (a : Answered) : m.answersOnly (m.finish a) :=
  (recordAnswer_answersOnly m a).trans (handAsk_answersOnly ..)

theorem finish_gives (m : Msg) (a : Answered) : (m.finish a).gives a :=
  ⟨by rw [Msg.finish, handAsk_answered, recordAnswer_newest], handAsk_waits ..⟩

/-! ## The in-use counts of a queue that loses panels (R96) -/

theorem slot_slotLoses (s : State) (k : Nat) {n : Nat} (hn : n < 16) :
    (slotLoses k s).slot n = if k = n then { s.slot n with inUse := (s.slot n).inUse - 1 } else s.slot n := by
  unfold slotLoses modifySlot State.slot
  split
  · next h => subst h; simp [hn]
  · next h => simp [Vector.getElem?_setIfInBounds_ne h]

theorem foldl_slotLoses_eq (gone : List Panel) (s : State) :
    gone.foldl (fun t p => slotLoses p.slot t) s
      = { s with slots := (gone.foldl (fun t p => slotLoses p.slot t) s).slots } := by
  induction gone generalizing s with
  | nil => rfl
  | cons p gone ih => exact ih (slotLoses p.slot s)

/-- Each panel lowers the count of its own slot, and no other part of a slot. -/
theorem slot_foldl_slotLoses (gone : List Panel) (s : State) {n : Nat} (hn : n < 16) :
    (gone.foldl (fun t p => slotLoses p.slot t) s).slot n
      = { s.slot n with inUse := (s.slot n).inUse - gone.countP fun p => p.slot == n } := by
  induction gone generalizing s with
  | nil => rfl
  | cons p gone ih =>
    rw [List.foldl_cons, ih, slot_slotLoses s p.slot hn, List.countP_cons]
    by_cases h : p.slot = n
    · simp [h, Nat.sub_sub, Nat.add_comm]
    · simp [h]

/-! ## ORDER CANCEL (R120) -/

theorem cancels_iff (first count : Nat) (x : Panel) :
    cancels first count x = true ↔ 1 ≤ count ∧ count ≤ 32 ∧ first ≤ x.id ∧ x.id ≤ first + count - 1 := by
  simp [cancels, within, and_assoc]

theorem cancelOrder_eq (first count : Nat) (s : State) :
    cancelOrder first count s
      = { s with
          lay.queued := s.lay.queued.filter fun x => !cancels first count x
          slots := (cancelOrder first count s).slots } :=
  foldl_slotLoses_eq ..

theorem slot_cancelOrder (first count : Nat) (s : State) {n : Nat} (hn : n < 16) :
    (cancelOrder first count s).slot n
      = { s.slot n with inUse := (s.slot n).inUse - s.lay.queued.countP fun x => cancels first count x && x.slot == n } := by
  simp only [cancelOrder, slot_foldl_slotLoses _ _ hn, List.countP_filter, Bool.and_comm]
  rfl

theorem exec_orderCancel_of_serves {s : State} {sender : Station} {p : List Byte} {r : RequestIn} {first : Half} {count : Byte}
    (hasked : s.asked .orderCancel sender p r) (hserves : s.serves .orderCancel sender r)
    (hbody : r.body = .orderCancel first count) :
    exec (.orderCancel sender p) s = .next (answer sender r.id .orderCancel
      (.done (word32 (s.lay.queued.countP (cancels first.toNat count.toNat))))
      (cancelOrder first.toNat count.toNat (dropLatch s))) := by
  have harm : exec (.orderCancel sender p) s = execOrderCancel sender p s := rfl
  rw [harm, execOrderCancel, receiveRequest_of_serves hasked hserves, hbody, List.countP_eq_length_filter]
  rfl

/-- Settles O41: the panels of the range are those `cancels` holds of, and what ORDER CANCEL does is `cancelOrder` and then the answer. -/
theorem orderCancelRemovesQueuedPanels : Obligations.OrderCancelRemovesQueuedPanels := by
  unfold Obligations.OrderCancelRemovesQueuedPanels
  intro s sender p r first count hit hasked hserves hbody hhit
  obtain rfl : hit = cancels first.toNat count.toNat :=
    funext fun x => Bool.eq_iff_iff.mpr ((hhit x).trans (cancels_iff ..).symm)
  have hmsg : (cancelOrder first.toNat count.toNat (dropLatch s)).msg = s.msg := by rw [cancelOrder_eq]; rfl
  refine ⟨_, exec_orderCancel_of_serves hasked hserves hbody, ?frame, ?answers, ?queued, ?counts, ?gives⟩
  case frame => rw [answer, cancelOrder_eq]; rfl
  case answers => simpa only [answer, hmsg] using finish_answersOnly s.msg _
  case queued => rw [answer_lay, cancelOrder_eq]; rfl
  case counts => exact fun n hn => slot_cancelOrder first.toNat count.toNat (dropLatch s) hn
  case gives => exact finish_gives _ _

end Sys2Proof.Machine
end

section
/-! PROOFS. O56, the dwell requirement (R153): a valid table rises in T and falls in D from point to point, so the walk of `dwellFrom` passes
every point that is not above T and stops in the interval T lies in. -/

namespace Sys2Proof.Machine

/-! ## A valid dwell table (R4) -/

theorem one_le_dwell_of_dwellValid {ps : List DwellPoint} (hvalid : dwellValid ps = true) {p : DwellPoint} (hp : p ∈ ps) : 1 ≤ p.dwell := by
  simp only [dwellValid, within, Bool.and_eq_true, List.all_eq_true, decide_eq_true_eq] at hvalid
  obtain ⟨hranges, -⟩ := hvalid
  exact (hranges p hp).2.1

theorem neighbours_of_dwellValid {ps : List DwellPoint} (hvalid : dwellValid ps = true) {i : Nat} (hi : i + 1 < ps.length) :
    ps[i].temp < ps[i + 1].temp ∧ ps[i + 1].dwell ≤ ps[i].dwell := by
  have hpair : (ps[i], ps[i + 1]) ∈ ps.zip (ps.drop 1) := by
    rw [List.mem_iff_getElem]
    exact ⟨i, by simp; omega, by simp⟩
  simp only [dwellValid, Bool.and_eq_true, List.all_eq_true, decide_eq_true_eq] at hvalid
  obtain ⟨-, horder⟩ := hvalid
  exact horder _ hpair

/-! ## The walk along the table (R153) -/

/-- The fourth column of R153's table between the points `p` and `q`. -/
def dwellBetween (p q : DwellPoint) (t : Int) : Nat :=
  p.dwell - (((p.dwell : Int) - q.dwell) * (t - p.temp) / (q.temp - p.temp)).toNat

theorem dwellFrom_of_lt_first {p : DwellPoint} {t : Int} (rest : List DwellPoint) (ht : t < p.temp) :
    dwellFrom (p :: rest) t = none := by
  cases rest with
  | nil => simp [dwellFrom, Int.not_le.mpr ht]
  | cons q rest => simp [dwellFrom, ht]

theorem dwellFrom_last {p : DwellPoint} {t : Int} (ht : p.temp ≤ t) : dwellFrom [p] t = some p.dwell := by
  simp [dwellFrom, ht]

theorem dwellFrom_of_between {p q : DwellPoint} {t : Int} (rest : List DwellPoint) (hp : p.temp ≤ t) (hq : t < q.temp) :
    dwellFrom (p :: q :: rest) t = some (dwellBetween p q t) := by
  simp [dwellFrom, dwellBetween, Int.not_lt.mpr hp, hq]

theorem dwellFrom_of_second_le {p q : DwellPoint} {t : Int} (rest : List DwellPoint) (hp : p.temp ≤ t) (hq : q.temp ≤ t) :
    dwellFrom (p :: q :: rest) t = dwellFrom (q :: rest) t := by
  simp [dwellFrom, Int.not_lt.mpr hp, Int.not_lt.mpr hq]

/-- The points before one that is not above T play no part. -/
theorem dwellFrom_eq_drop {ps : List DwellPoint} (hvalid : dwellValid ps = true) {t : Int} {i : Nat} (hi : i < ps.length)
    (ht : ps[i].temp ≤ t) : dwellFrom ps t = dwellFrom (ps.drop i) t := by
  induction i with
  | zero => rfl
  | succ i ih =>
    have hprev : ps[i].temp ≤ t := (neighbours_of_dwellValid hvalid hi).1.le.trans ht
    calc dwellFrom ps t
        = dwellFrom (ps[i] :: ps[i + 1] :: ps.drop (i + 2)) t := by
          rw [ih (by omega) hprev, List.drop_eq_getElem_cons (by omega), List.drop_eq_getElem_cons hi]
      _ = dwellFrom (ps.drop (i + 1)) t := by
          rw [dwellFrom_of_second_le _ hprev ht, ← List.drop_eq_getElem_cons hi]

/-! ## The amount subtracted (R153) -/

/-- A proper fraction of a fall is at most the whole fall, and its floor too. -/
theorem floored_share_le {fall part whole : Int} (hfall : 0 ≤ fall) (hpart : 0 ≤ part) (hless : part < whole) :
    0 ≤ fall * part / whole ∧ fall * part / whole ≤ fall := by
  have hwhole : 0 < whole := hpart.trans_lt hless
  exact ⟨Int.ediv_nonneg (mul_nonneg hfall hpart) hwhole.le,
    Int.ediv_le_of_le_mul hwhole (mul_le_mul_of_nonneg_left hless.le hfall)⟩

/-- Natural-number subtraction loses nothing in `dwellBetween`, and D(T) lies between the dwells of the two points. -/
theorem dwellBetween_spec {p q : DwellPoint} {t : Int} (hfall : q.dwell ≤ p.dwell) (hp : p.temp ≤ t) (hq : t < q.temp) :
    (dwellBetween p q t : Int) = p.dwell - ((p.dwell : Int) - q.dwell) * (t - p.temp) / (q.temp - p.temp)
      ∧ q.dwell ≤ dwellBetween p q t ∧ dwellBetween p q t ≤ p.dwell := by
  obtain ⟨hnonneg, hle⟩ := floored_share_le (fall := (p.dwell : Int) - q.dwell) (part := t - p.temp) (whole := q.temp - p.temp)
    (by omega) (by omega) (by omega)
  unfold dwellBetween
  omega

/-- Settles O56: the point of the table T stands at or behind is found by `dwellFrom_eq_drop`, and what is left of the table there is the
last point or an interval. -/
theorem dwellRequirementInterpolates : Obligations.DwellRequirementInterpolates := by
  unfold Obligations.DwellRequirementInterpolates
  intro s pts T htable hvalid
  have hlength : s.conf.dwell.length = 8 := by simp [htable]
  have hpoint : ∀ (i : Nat) (hi : i < s.conf.dwell.length), s.conf.dwell[i] = pts i := by simp [htable]
  refine ⟨?tooCold, ?lastPoint, ?interval⟩
  case tooCold =>
    intro hT
    rw [dwellRequirement, htable]
    exact dwellFrom_of_lt_first _ hT
  case lastPoint =>
    intro hT
    rw [dwellRequirement, dwellFrom_eq_drop hvalid (i := 7) (by omega) (by rwa [hpoint]), htable]
    exact dwellFrom_last hT
  case interval =>
    intro i hi hlow hhigh
    have hnext : i + 1 < s.conf.dwell.length := by omega
    have hrest : s.conf.dwell.drop i = pts i :: pts (i + 1) :: s.conf.dwell.drop (i + 2) := by
      rw [List.drop_eq_getElem_cons (by omega), List.drop_eq_getElem_cons hnext, hpoint, hpoint]
    obtain ⟨-, hfall⟩ := neighbours_of_dwellValid hvalid hnext
    have hone := one_le_dwell_of_dwellValid hvalid (List.getElem_mem hnext)
    rw [hpoint, hpoint] at hfall
    rw [hpoint] at hone
    obtain ⟨hformula, hleast, hmost⟩ := dwellBetween_spec hfall hlow hhigh
    refine ⟨dwellBetween (pts i) (pts (i + 1)) T, ?_, hformula, hleast, hmost, hone.trans hleast⟩
    rw [dwellRequirement, dwellFrom_eq_drop hvalid (i := i) (by omega) (by rwa [hpoint]), hrest]
    exact dwellFrom_of_between _ hlow hhigh

end Sys2Proof.Machine
end

section
/-! PROOFS. O1 to O4, the step and the state after power-on (R3): a step is its command's meaning, an idle step ends a tag character at
most, and a blank machine meets every law because its queues, tables, zones and maps are empty. -/

namespace Sys2Proof.Machine

/-! ## The step -/

theorem step_of_pending {s : State} {c : Instr} {rest : List Instr} (h : s.pending = c :: rest) :
    step s = exec c { s with pending := rest } := by
  simp [step, h]

theorem step_of_idle {s : State} (h : s.pending = []) : step s = .next (idle s) := by
  simp [step, h]

/-- Settles O1: the front command runs by the definition of the step. -/
theorem stepRunsTheFrontCommand : Obligations.StepRunsTheFrontCommand := by
  unfold Obligations.StepRunsTheFrontCommand
  exact fun c rest s h => step_of_pending h

/-- Settles O2: an idle step looks at the transmitter condition alone. -/
theorem emptyQueueIdles : Obligations.EmptyQueueIdles := by
  unfold Obligations.EmptyQueueIdles
  intro s h
  rw [step_of_idle h]
  exact ⟨fun htag => by simp [idle, htag], fun htag => by simp [idle, htag]⟩

/-! ## The state after power-on -/

theorem reset_slot (n : Nat) : State.reset.slot n = Slot.blank := by
  simp only [State.slot, State.reset, Vector.getElem?_replicate]
  split <;> rfl

theorem reset_accept (tag : Nat) : State.reset.accept tag = .off := by
  simp only [State.accept, State.reset, Link.reset, Vector.getElem?_replicate]
  split <;> rfl

theorem reset_input (n : Nat) : State.reset.input n = false := by
  unfold State.input
  split <;> rfl

/-- Settles O3: the blank machine has no role, no frames, no panels, no requests, no zones and no spans. -/
theorem resetIsLawful : Obligations.ResetIsLawful := by
  unfold Obligations.ResetIsLawful
  refine ⟨?queue, ?mode, ?items, ?slots, ?infeed, ?arms, ?map, ?order, ?tables, ?heat, ?ceiling, ?counts⟩
  case queue => unfold Msg.queueLawful; decide
  case mode => unfold State.modeLawful; exact ⟨by decide, (fun c h => nomatch h)⟩
  case items => exact ⟨by decide, by decide, (fun l n h => nomatch h)⟩
  case slots =>
    refine ⟨(fun p h => nomatch h), fun n _ => ?_⟩
    rw [reset_slot]
    exact ⟨rfl, by decide⟩
  case infeed => exact fun h => nomatch h
  case arms => exact ⟨by decide, by decide⟩
  case map => exact ⟨by decide, .nil⟩
  case order => exact .nil
  case tables =>
    unfold State.tablesLawful
    exact ⟨by decide, fun _ => rfl, (fun p h => nomatch h), (fun p h => nomatch h), .nil, by decide, (fun d h => nomatch h)⟩
  case heat => unfold State.heatLawful; exact ⟨.inl rfl, by decide, (fun z h => nomatch h)⟩
  case ceiling => exact ⟨(fun h => nomatch h), (fun h => nomatch h)⟩
  case counts => unfold State.countsLawful; decide

/-- Settles O4: POWER_ON leaves the machine's own queue of commands and count of free values, and all else as it is after power-on. -/
theorem powerOnStartsConfig : Obligations.PowerOnStartsConfig := by
  unfold Obligations.PowerOnStartsConfig
  intro s
  refine ⟨{ State.reset with pending := s.pending, freeCount := s.freeCount }, rfl, ?_⟩
  have haccept : ∀ tag, State.accept { State.reset with pending := s.pending, freeCount := s.freeCount } tag = .off := reset_accept
  have hslot : ∀ n, State.slot { State.reset with pending := s.pending, freeCount := s.freeCount } n = Slot.blank := reset_slot
  have hpins : ∀ n, State.input { State.reset with pending := s.pending, freeCount := s.freeCount } n = false
      ∧ State.output { State.reset with pending := s.pending, freeCount := s.freeCount } n = false :=
    fun n => ⟨reset_input n, rfl⟩
  simp only [haccept, hslot, hpins, implies_true, and_true, true_and]
  repeat' apply And.intro
  all_goals rfl

end Sys2Proof.Machine
end

section
/-! PROOFS. O22, O26 and O47: the bus condition (R20, R28), broken frames (R30, R31) and the infeed reference (R101, R102, R107). -/

namespace Sys2Proof.Machine

/-! ## The bus (R20, R28) -/

theorem receives_iff (s : State) : s.receives = true ↔ s.stn ≠ .config := by simp [State.receives]

theorem noteEdge_idle {s : State} (h : s.link.bus = .idle) :
    noteEdge s = { s with link.bus := .busy, link.latch := some s.latchNow } := if_pos h

theorem noteEdge_busy {s : State} (h : s.link.bus = .busy) : noteEdge s = s := by simp [noteEdge, h]

theorem exec_busIdle_of_receives {s : State} {n : Nat} (h : s.receives = true) (hn : 12 ≤ n) :
    exec (.busIdle n) s = .next { s with link.bus := .idle } := by
  have harm : exec (.busIdle n) s = execBusIdle n s := rfl
  rw [harm, execBusIdle, if_pos ⟨h, hn⟩]

theorem exec_lineStopPatternEnd_of_sending {s : State} {n : Nat} (h : s.link.tx = .sendingStop) (hn : 64 ≤ n) :
    exec (.lineStopPatternEnd n) s = .next { s with link.tx := .waiting } := by
  have harm : exec (.lineStopPatternEnd n) s = execLineStopPatternEnd n s := rfl
  rw [harm, execLineStopPatternEnd, if_pos ⟨h, hn⟩]

theorem exec_frameStart_of_receives {s : State} (h : s.receives = true) : exec .frameStart s = .next (noteEdge s) := by
  have harm : exec .frameStart s = execFrameStart s := rfl
  rw [harm, execFrameStart, if_pos h]

/-- Settles O22: the receiver runs outside CONFIG, and a dominant edge matters on an IDLE bus alone. -/
theorem busFollowsTheMedium : Obligations.BusFollowsTheMedium := by
  unfold Obligations.BusFollowsTheMedium
  refine ⟨fun s n => ⟨fun hstn => exec_busIdle_of_receives ((receives_iff s).mpr hstn), exec_lineStopPatternEnd_of_sending⟩, ?_⟩
  intro s hstn
  rw [exec_frameStart_of_receives ((receives_iff s).mpr hstn)]
  exact ⟨fun hidle => by rw [noteEdge_idle hidle]; rfl, fun hbusy => by rw [noteEdge_busy hbusy]⟩

/-! ## Broken frames (R30, R31) -/

theorem satInc_eq_min {n : Nat} (h : n ≤ 255) : satInc n = min 255 (n + 1) := by
  unfold satInc
  split <;> omega

theorem exec_brokenFrame_of_latch {s : State} {l : Latch} (h : s.frameLatch = some l) (cs : List LinkChar) :
    exec (.brokenFrame cs) s = .next (if s.countsBroken cs then countBroken (dropLatch s) else dropLatch s) := by
  have harm : exec (.brokenFrame cs) s = execBrokenFrame cs s := rfl
  rw [harm, execBrokenFrame]
  simp only [h]

theorem countsBroken_cons_iff (s : State) (tag : LinkChar) (rest : List LinkChar) :
    s.countsBroken (tag :: rest) = true
      ↔ isTag tag = false ∨ (s.accept tag.data.toNat ≠ .off ∧ goodChars (tag :: rest) = false) := by
  simp [State.countsBroken]

/-- Settles O26: a frame whose start was seen is counted exactly when `countsBroken` holds of its characters. -/
theorem brokenFramesAreCounted : Obligations.BrokenFramesAreCounted := by
  unfold Obligations.BrokenFramesAreCounted
  rintro s cs l tag rest hlatch hbroken rfl
  rw [exec_brokenFrame_of_latch hlatch]
  constructor
  · intro hbad
    rw [if_pos ((countsBroken_cons_iff s tag rest).mpr hbad), countBroken, dropLatch, satInc_eq_min hbroken]
  · intro htag hgood
    have hnot : ¬s.countsBroken (tag :: rest) = true := by
      rw [countsBroken_cons_iff, htag]
      rcases hgood with h | h <;> simp [h]
    rw [if_neg hnot]
    rfl

/-! ## The infeed reference (R98, R101, R107) -/

theorem foldedStep_of_folded {s : State} {g : Geom} {r : StepRec} (h : stepInForce s = some (g, r)) (hk : g.k ≠ 0) :
    foldedStep s = some g := by
  simp [foldedStep, h, hk]

theorem foldedStep_eq_none {s : State} (h : ∀ g r, stepInForce s = some (g, r) → g.k = 0) : foldedStep s = none := by
  unfold foldedStep
  split
  · next g r hstep => simp [h g r hstep]
  · rfl

/-- Settles O47: the ratio class of the step in force is FOLDED, or it is not, and each class has its speed and its trim. -/
theorem feedTimerFormsTheInfeed : Obligations.FeedTimerFormsTheInfeed := by
  unfold Obligations.FeedTimerFormsTheInfeed
  intro s vIn trim htimer hfolded hother
  have harm : exec .feedTimerExpiry s = execFeedTimerExpiry s := rfl
  have hspeed : vIn = untrimmed s.commanded (foldedStep s)
      ∧ trim = trimNow (untrimmed s.commanded (foldedStep s)) s.lay.error (foldedStep s) := by
    by_cases h : ∀ g r, stepInForce s = some (g, r) → g.k = 0
    · obtain ⟨rfl, rfl⟩ := hother h
      simp [foldedStep_eq_none h, untrimmed, trimNow, State.commanded]
    · push Not at h
      obtain ⟨g, r, hstep, hk⟩ := h
      obtain ⟨rfl, rfl⟩ := hfolded g r hstep hk
      simp [foldedStep_of_folded hstep hk, untrimmed, trimNow, State.commanded]
  obtain ⟨rfl, rfl⟩ := hspeed
  rw [harm, execFeedTimerExpiry, if_pos htimer]

end Sys2Proof.Machine
end

section
/-! PROOFS. What a step can do, said once for the laws of the device: a command's meaning is a chain of effects (`Effects`), each of which
writes what some law reads and says under which conditions; everything else is quiet: it writes what no law reads, and hands notices. -/

namespace Sys2Proof.Machine

/-! ## What the laws read -/

/-- An item without its flags: what Laws 1 and 2 and R104 read of it. -/
def Item.bare : Item → Item
  | .panel p => .panel { p with flags := PanelFlags.none }
  | .gap g => .gap { g with used := false }

/-- A LAYING item without its flags, counters and marks. -/
def LayingItem.bare (l : LayingItem) : LayingItem := ⟨l.item.bare, l.flatStart, 0, 0, 0, 0, false, false⟩

/-- A NEXT item without its flags. -/
def NextItem.bare (n : NextItem) : NextItem := ⟨n.item.bare, n.flatStart⟩

/-- A span's kind without what notices and seams change of it. -/
def SpanKind.bare : SpanKind → SpanKind
  | .panel id _ _ => .panel id 0 0
  | .gap _ _ => .gap false false
  | .seam _ => .seam false

/-- A span without its flags and phase: what Law 7 reads of it. -/
def Span.bare (sp : Span) : Span := ⟨sp.kind.bare, sp.start, 0, PanelFlags.none, PanelFlags.none, false, .approaching⟩

/-- A state without what no law of the device reads, and without the Message Unit. -/
def State.lawView (s : State) : State :=
  { State.reset with
    stn := s.stn
    cfg := s.cfg
    link.broken := s.link.broken
    pos.errorRun := s.pos.errorRun
    pos.measured := s.pos.measured
    spd := { Speed.reset with
      table := s.spd.table, setSpeed := s.spd.setSpeed, ownValue := s.spd.ownValue, ownReason := s.spd.ownReason }
    slots := s.slots
    lay := { Laying.reset with
      laying := s.lay.laying.map LayingItem.bare
      next := s.lay.next.map NextItem.bare
      queued := s.lay.queued
      infeedLimit := s.lay.infeedLimit
      infeedRef := s.lay.infeedRef }
    sup := { Supply.reset with
      armA := { Arm.blank with state := s.sup.armA.state }
      armB := { Arm.blank with state := s.sup.armB.state }
      splice := s.sup.splice
      pressFire := s.sup.pressFire
      content := s.sup.content }
    set := { s.set with vent := false }
    map.spans := s.map.spans.map Span.bare }

/-- A zone record meets Law 10 in a station state. -/
def Zone.lawful (stn : StationState) (z : Zone) : Prop :=
  (z.setpoint = 0 → z.duty = 0) ∧ (z.cond = .lost → z.duty = 0) ∧ z.duty ≤ 1023
    ∧ (stn.coldState = true → z.duty = 0) ∧ (stn = .halted → z.integral = 0)

/-! ## What a command does to the Message Unit beside handing notices -/

/-- What of the Message Unit the laws read, but for the frames' flights and failures. -/
def Msg.sameForLaws (m m' : Msg) : Prop :=
  m'.queue.map (·.frame) = m.queue.map (·.frame) ∧ m'.heldPosition = m.heldPosition ∧ m'.heldCeiling = m.heldCeiling
    ∧ m'.heldRollState = m.heldRollState ∧ m'.passCount = m.passCount ∧ m'.lost = m.lost ∧ m'.pendings = m.pendings
    ∧ m'.delayed = m.delayed

/-- One change of the Message Unit by its own commands, by an answer or by a request (spec/03). -/
inductive MsgEdit (s : State) : Msg → Prop
  | still (m : Msg) : s.msg.sameForLaws m → MsgEdit s m
  | ask (f : Frame) (u : UnsentRef) : f.isNotice = false → MsgEdit s (s.msg.handAsk f u)
  | interim (a : AnswerMsg) : MsgEdit s (s.msg.handInterim a)
  | free (i : Nat) : MsgEdit s (s.msg.free i)
  | complete (i : Nat) (e : QEntry) : s.msg.queue[i]? = some e → MsgEdit s ((s.msg.countPass e).completeAt i e)
  | undelay (keep : Delayed → Bool) : MsgEdit s { s.msg with delayed := s.msg.delayed.filter keep }
  | delay (d : Delayed) : s.mayDelay d → s.msg.delays d.requester d.body.code = false →
      MsgEdit s { s.msg with delayed := s.msg.delayed ++ [d] }
  | request (body : ReqBody) : s.live = true → s.msg.pendings.length < Config.tableSize →
      MsgEdit s { s.msg with pendings := s.msg.pendings ++ [newRequest s body], nextId := s.msg.nextId + 1 }
  | wait (entry : Nat) : MsgEdit s (s.msg.onPending entry fun q => { q with attempts := 1 })
  | again (p : PendingReq) : p ∈ s.msg.pendings → p.attempts < s.conf.attemptLimit →
      MsgEdit s (s.msg.onPending p.entry (PendingReq.repeated s.conf.repeatInterval))
  | close (keep : PendingReq → Bool) : MsgEdit s { s.msg with pendings := s.msg.pendings.filter keep }

/-! ## The effects -/

/-- One effect of a command on what the laws read. -/
inductive Effect (s : State) : State → Prop
  | quiet (t : State) : t.lawView = s.lawView → s.msg.Hands t.msg → Effect s t
  | message (m : Msg) : MsgEdit s m → Effect s { s with msg := m }
  | power : Effect s { State.reset with pending := s.pending, freeCount := s.freeCount }
  | configFault : s.live = false → Effect s { s with stn := .configFault, link.broken := 0 }
  | start (cfg : Option Cfg) (levels0 levels1 : Levels) (link : Link) :
      (s.live = true ∧ cfg = s.cfg) ∨ (∃ r : List Byte, r.length = 150 ∧ recordFailure r = none ∧ cfg = some (decodeRecord r)) →
      link.broken = 0 →
      Effect s (setOwn { startWork (cfg.getD Cfg.blank) levels0 levels1 { s with cfg := cfg, link := link } with stn := .listen })
  | state (x : StationState) : s.live = true → x.live = true → x ≠ .halted →
      (s.stn = .halted → s.role = some .setter → s.set.overMark = false) → Effect s { s with stn := x }
  | halt : s.live = true → Effect s (haltRole { s with stn := .halted })
  | unmark : Effect s { s with set.overMark := false }
  | mark : s.stn = .halted → s.role = some .setter → Effect s { s with set.overMark := true }
  | commitGap (g : Gap) : s.lay.next = none → Effect s (setOwn { s with lay.next := some ⟨.gap g, plannedStart s⟩ })
  | commitPanel (p : Panel) (rest : List Panel) : s.lay.next = none → s.lay.queued = p :: rest →
      Effect s (setOwn { s with lay.next := some ⟨.panel p, plannedStart s⟩, lay.queued := rest })
  | endPanel (l : LayingItem) (p : Panel) : s.lay.laying = some l → l.item = .panel p →
      Effect s (setOwn (slotLoses p.slot { s with lay.laying := none }))
  | endGap (l : LayingItem) (g : Gap) : s.lay.laying = some l → l.item = .gap g → Effect s (setOwn { s with lay.laying := none })
  | startItem (n : NextItem) (l : LayingItem) : s.lay.next = some n → s.lay.laying = none → l.item.bare = n.item.bare →
      l.flatStart = n.flatStart → Effect s (setOwn { s with lay.laying := some l, lay.next := none })
  | returnNext (p : Panel) (w : Word) : s.lay.next = some ⟨.panel p, w⟩ →
      Effect s (setOwn { s with lay.next := none, lay.queued := p :: s.lay.queued })
  | withdrawGap (g : Gap) (w : Word) : s.lay.next = some ⟨.gap g, w⟩ → Effect s (setOwn { s with lay.next := none })
  | order (first count slot grade : Nat) : orderRefusal s first count slot grade = none → slot < 16 →
      Effect s (slotGains slot count
        { s with lay.queued := s.lay.queued ++ orderedPanels (s.slot slot) first count slot grade })
  | cancel (first count : Nat) : Effect s (cancelOrder first count s)
  | store (n : Nat) (sl : Slot) : n < 16 → sl.inUse = (s.slot n).inUse →
      (0 < (s.slot n).inUse → (s.slot n).state = .ready → sl = s.slot n) → Effect s (putSlot n sl s)
  | table (tb : Vector CeilingEntry 7) : Effect s (reformInfeed { s with spd.table := tb })
  | feed (x : Int) : Effect s { s with lay.infeedRef := (clampInt 0 s.lay.infeedLimit x).toNat }
  | setSpeed (v : Nat) : v ≤ s.roleMax → Effect s { s with spd.setSpeed := v }
  | measure (v : Nat) : v ≤ 65535 → Effect s { s with pos.measured := v }
  | spans (l : List Span) : (l.map Span.bare).Sublist (s.map.spans.map Span.bare) → Effect s { s with map.spans := l }
  | errorRun (n : Nat) : n ≤ 2 → Effect s { s with pos.errorRun := n }
  | broken : Effect s { s with link.broken := satInc s.link.broken }
  | arms (a b : Arm) : (¬(s.sup.armA.state = .running ∧ s.sup.armB.state = .running) → ¬(a.state = .running ∧ b.state = .running)) →
      Effect s { s with sup.armA := a, sup.armB := b }
  | splice (x : SpliceState) : s.sup.splice ≠ .pressing ∨ s.sup.pressFire = false →
      Effect s (setOwn { s with sup.splice := x })
  | pressOff : Effect s { s with sup.pressFire := false }
  | content (c : Nat) : c ≤ 3276700 → Effect s { s with sup.content := c }
  | zones (zs : List Zone) : (s.set.zones = [] → zs = []) →
      ((∀ z ∈ s.set.zones, z.lawful s.stn) → ∀ z ∈ zs, z.lawful s.stn) → Effect s (setOwn { s with set.zones := zs })
  | shut : Effect s { s with set.zones := s.set.zones.map Zone.shut }

/-- A chain of effects. -/
def Effects (s t : State) : Prop := Relation.ReflTransGen Effect s t

/-- A span enters the map (R157, R158): its start and its panel id are new there, and a place is free. `l` is the map with the marks the
span makes. -/
inductive Maps (s : State) : State → Prop
  | mk (sp : Span) (l : List Span) : l.map Span.bare = s.map.spans.map Span.bare → s.map.spans.length < Config.mapPlaces →
      (∀ x ∈ s.map.spans, x.start ≠ sp.start) → (∀ x ∈ s.map.spans, ∀ id, ¬(x.isPanel id = true ∧ sp.isPanel id = true)) →
      Maps s { s with map.spans := insertSpan sp l }

/-- The press is fired (R139). -/
structure Fires (s t : State) : Prop where
  view : t.lawView = { s with sup.pressFire := true }.lawView
  msg : t.msg = s.msg
  running : s.stn = .running
  pressing : s.sup.splice = .pressing
  rest : s.pos.measured = 0

/-- What a command can do: a chain of effects, with at most one span mapped on the way, or the press fired at the end. -/
inductive Does (s : State) : State → Prop
  | effects {t : State} : Effects s t → Does s t
  | maps {u v t : State} : Effects s u → Maps u v → Effects v t → Does s t
  | fires {u t : State} : Effects s u → Fires u t → Does s t

end Sys2Proof.Machine
end

section
/-! PROOFS. The shared operations as chains of effects: handing and recording are quiet, a fired watch is an item's start or end, a commit
or nothing a law reads, and a transition writes the station state and what the role units do at it. -/

namespace Sys2Proof.Machine

/-! ## Chains -/

section
variable {o s t : State}

theorem Effects.refl (s : State) : Effects s s := Relation.ReflTransGen.refl

theorem Effects.then (h : Effects o s) (e : Effect s t) : Effects o t := Relation.ReflTransGen.tail h e

theorem Effects.trans {u : State} (h : Effects o s) (h' : Effects s u) : Effects o u := Relation.ReflTransGen.trans h h'

theorem Effects.quietly (h : Effects o s) (hview : t.lawView = s.lawView) (hmsg : s.msg.Hands t.msg) : Effects o t :=
  h.then (.quiet t hview hmsg)

/-- A write of what no law reads. -/
theorem Effects.silently (h : Effects o s) (hview : t.lawView = s.lawView) (hmsg : t.msg = s.msg) : Effects o t :=
  h.quietly hview (hmsg ▸ .refl)

end

/-! ## What is quiet -/

@[simp] theorem postLasting_lawView (f : Frame) (s : State) : (postLasting f s).lawView = s.lawView := by
  unfold postLasting; split_ifs <;> rfl
@[simp] theorem recordFault_lawView (c : FaultCode) (d : Nat) (s : State) : (recordFault c d s).lawView = s.lawView := by
  unfold recordFault; split
  · rw [postLasting_lawView]; rfl
  · rfl
@[simp] theorem handPosition_lawView (s : State) : (handPosition s).lawView = s.lawView := by
  unfold handPosition; split <;> rfl
@[simp] theorem cadence_lawView (w : Word) (s : State) : (cadence w s).lawView = s.lawView := by
  unfold cadence; split <;> simp
@[simp] theorem handCeiling_lawView (s : State) : (handCeiling s).lawView = s.lawView := rfl
@[simp] theorem handRollState_lawView (s : State) : (handRollState s).lawView = s.lawView := by
  unfold handRollState; split <;> rfl
@[simp] theorem setWatch_lawView (w : Watch) (s : State) : (setWatch w s).lawView = s.lawView := rfl
@[simp] theorem dropWatch_lawView (w : Watch) (s : State) : (dropWatch w s).lawView = s.lawView := rfl
@[simp] theorem dropEvent_lawView (e : WatchEvent) (s : State) : (dropEvent e s).lawView = s.lawView := rfl
@[simp] theorem noteEdge_lawView (s : State) : (noteEdge s).lawView = s.lawView := by unfold noteEdge; split <;> rfl
@[simp] theorem sendPattern_lawView (s : State) : (sendPattern s).lawView = s.lawView := by
  unfold sendPattern; split
  · rfl
  · rw [noteEdge_lawView]; rfl
@[simp] theorem uncapture_lawView (s : State) : (uncapture s).lawView = s.lawView := by unfold uncapture; split <;> rfl
@[simp] theorem dropLatch_lawView (s : State) : (dropLatch s).lawView = s.lawView := rfl
@[simp] theorem stopDriving_lawView (s : State) : (stopDriving s).lawView = s.lawView := rfl
@[simp] theorem reformVent_lawView (s : State) : (reformVent s).lawView = s.lawView := rfl
@[simp] theorem answer_lawView (n : Station) (id : Byte) (c : ReqCode) (f : Final) (s : State) :
    (answer n id c f s).lawView = s.lawView := rfl
@[simp] theorem interim_lawView (n : Station) (id : Byte) (c : ReqCode) (b : AnswerBody) (s : State) :
    (interim n id c b s).lawView = s.lawView := rfl
@[simp] theorem hearSensor_lawView (b : SensorBurst) (s : State) : (hearSensor b s).lawView = s.lawView := rfl
@[simp] theorem samplePins_lawView (rs : List PinRun) (s : State) : (samplePins rs s).lawView = s.lawView := by
  rw [samplePins_eq]; rfl
@[simp] theorem setArmReady_lawView (n : ArmName) (b : Bool) (s : State) : (setArmReady n b s).lawView = s.lawView := rfl
@[simp] theorem freshReport_lawView (c : Nat) (s : State) : (freshReport c s).lawView = s.lawView := rfl

theorem Item.bare_flag (f : PanelFlags → PanelFlags) (i : Item) : (i.flag f).bare = i.bare := by cases i <;> rfl
theorem Item.bare_markUsed (i : Item) : i.markUsed.bare = i.bare := by cases i <;> rfl

/-- A change of the LAYING item's flags, counters and marks is quiet. -/
theorem onLaying_lawView {f : LayingItem → LayingItem} (hf : ∀ l, (f l).bare = l.bare) (s : State) :
    (onLaying f s).lawView = s.lawView := by
  have e : (s.lay.laying.map f).map LayingItem.bare = s.lay.laying.map LayingItem.bare := by
    rw [Option.map_map]; exact congrArg (s.lay.laying.map ·) (funext hf)
  have hview : (onLaying f s).lawView = { s.lawView with lay.laying := (s.lay.laying.map f).map LayingItem.bare } := rfl
  rw [hview, e]
  rfl

@[simp] theorem flagLaying_lawView (f : PanelFlags → PanelFlags) (s : State) : (flagLaying f s).lawView = s.lawView :=
  onLaying_lawView (fun l => by simp [LayingItem.bare, Item.bare_flag]) s

/-! ## The own ceiling rests on what the laws read -/

theorem itemTerms_lawView (s : State) (i : Item) : itemTerms s.lawView i.bare = itemTerms s i := by cases i <;> rfl

theorem headCeiling_lawView (s : State) : headCeiling s.lawView = headCeiling s := by
  have hlaying : (match s.lawView.lay.laying with
      | some l => itemTerms s.lawView l.item
      | none => [(s.lay.infeedLimit, Reason.infeed)])
      = match s.lay.laying with
        | some l => itemTerms s l.item
        | none => [(s.lay.infeedLimit, Reason.infeed)] := by
    show (match s.lay.laying.map LayingItem.bare with
      | some l => itemTerms s.lawView l.item
      | none => [(s.lay.infeedLimit, Reason.infeed)]) = _
    cases s.lay.laying with
    | none => rfl
    | some l => exact itemTerms_lawView s l.item
  have hnext : (match s.lawView.lay.next with
      | some n => itemTerms s.lawView n.item
      | none => [])
      = match s.lay.next with
        | some n => itemTerms s n.item
        | none => [] := by
    show (match s.lay.next.map NextItem.bare with
      | some n => itemTerms s.lawView n.item
      | none => []) = _
    cases s.lay.next with
    | none => rfl
    | some n => exact itemTerms_lawView s n.item
  unfold headCeiling
  simp only
  exact congrArg₂ (fun a b => (a ++ b).foldl lesserTerm (s.conf.outfeedMax, Reason.outfeedMax)) hlaying hnext

theorem roleCeiling_lawView (s : State) : roleCeiling s.lawView = roleCeiling s := by
  unfold roleCeiling
  show (match s.role with
    | some .head => headCeiling s.lawView
    | some .supply => supplyCeiling s.lawView
    | some .setter => chestCeiling s.lawView
    | none => _) = _
  rw [headCeiling_lawView]
  rfl

theorem setOwn_lawView (s : State) :
    (setOwn s).lawView = { s.lawView with
      spd := { s.lawView.spd with ownValue := (roleCeiling s.lawView).1, ownReason := (roleCeiling s.lawView).2 } } := by
  rw [roleCeiling_lawView]; rfl

theorem setOwn_lawView_congr {s t : State} (h : t.lawView = s.lawView) : (setOwn t).lawView = (setOwn s).lawView := by
  rw [setOwn_lawView, setOwn_lawView, h]

theorem reformOwn_lawView (s : State) : (reformOwn s).lawView = (setOwn s).lawView := by
  unfold reformOwn; simp only; split <;> rfl

@[simp] theorem reformOwn_lay (s : State) : (reformOwn s).lay = s.lay := by
  unfold reformOwn; simp only; split <;> rfl

theorem reformOwn_lawView_congr {s t : State} (h : t.lawView = s.lawView) : (reformOwn t).lawView = (setOwn s).lawView := by
  rw [reformOwn_lawView, setOwn_lawView_congr h]

theorem slotLoses_lawView (n : Nat) (s : State) : (slotLoses n s).lawView = slotLoses n s.lawView := rfl

section
variable {o s t : State}

/-- A write followed by the re-forming of the own ceiling is one effect, and a handed CEILING. -/
theorem Effects.reform (h : Effects o s) {u : State} (e : Effect s (setOwn u)) (hview : t.lawView = u.lawView)
    (hhands : u.msg.Hands t.msg) : Effects o (reformOwn t) :=
  (h.then e).quietly (reformOwn_lawView_congr hview)
    (reformOwn_hands (show (setOwn u).msg.Hands t.msg from hhands))

/-! ## Notices, faults and watches -/

theorem postLasting_effects {f : Frame} (hf : f.lasting = true) (h : Effects o s) : Effects o (postLasting f s) :=
  h.quietly (by simp) (postLasting_hands hf .refl)

theorem recordFault_effects {c : FaultCode} {d : Nat} (h : Effects o s) : Effects o (recordFault c d s) :=
  h.quietly (by simp) (recordFault_hands .refl)

theorem handPosition_effects (h : Effects o s) : Effects o (handPosition s) := h.quietly (by simp) (handPosition_hands .refl)
theorem cadence_effects {w : Word} (h : Effects o s) : Effects o (cadence w s) := h.quietly (by simp) (cadence_hands .refl)
theorem handCeiling_effects (h : Effects o s) : Effects o (handCeiling s) := h.quietly (by simp) (handCeiling_hands .refl)
theorem handRollState_effects (h : Effects o s) : Effects o (handRollState s) := h.quietly (by simp) (handRollState_hands .refl)
theorem sendPattern_effects (h : Effects o s) : Effects o (sendPattern s) := h.quietly (by simp) (sendPattern_hands .refl)

/-! ## The panel queue -/

theorem commitAt_gap_effects {g : Gap} (hnext : s.lay.next = none) (h : Effects o s) :
    Effects o (commitAt (.gap g) (plannedStart s) s) :=
  h.reform (.commitGap g hnext) rfl .refl

theorem commitPanel_effects {p : Panel} {rest : List Panel} (hnext : s.lay.next = none) (hqueued : s.lay.queued = p :: rest)
    (h : Effects o s) : Effects o (commitPanel p rest s) := by
  unfold commitPanel
  simp only
  split
  · exact h.reform (.commitPanel p rest hnext hqueued) rfl .refl
  · exact commitAt_gap_effects hnext h

theorem commitRule_effects (h : Effects o s) : Effects o (commitRule s) := by
  unfold commitRule
  split
  · exact h
  · next hnext =>
    split
    · next r id length margin res hold hslot =>
      exact (commitAt_gap_effects hnext h).quietly rfl (.complete _ _ _ _ _ .refl)
    · split
      · next p rest hqueued => exact commitPanel_effects hnext hqueued h
      · exact h

theorem commitRule_of_next {n : NextItem} (h : s.lay.next = some n) : commitRule s = s := by simp [commitRule, h]

theorem setCascade_lawView (s : State) : (setCascade s).lawView = s.lawView := by
  unfold setCascade; split
  · split <;> rfl
  · rfl

/-- The LAYING item as its end reports it: a panel cut short in a FOLDED step takes PLEAT (R115). -/
def endedItem (s : State) (l : LayingItem) : Item :=
  if (match stepInForce s with
    | some (g, _) => decide (g.k ≠ 0)
    | none => false) then l.item.flag fun f => { f with pleat := true } else l.item

/-- An item leaves the queue: a panel's slot is used by one panel less (R96). -/
def releaseItem (i : Item) (s : State) : State :=
  match i with
  | .panel p => slotLoses p.slot s
  | .gap _ => s

theorem itemEnd_of_laying {l : LayingItem} (h : s.lay.laying = some l) :
    itemEnd s = commitRule (reformOwn (releaseItem (endedItem s l)
      (postLasting (passEndOf (endedItem s l)) { dropEvent .cascade s with lay.laying := none, lay.error := 0 }))) := by
  simp only [itemEnd, h]
  rfl

theorem itemEnd_of_none (h : s.lay.laying = none) : itemEnd s = s := by simp [itemEnd, h]

theorem endedItem_panel {l : LayingItem} {p : Panel} (h : l.item = .panel p) :
    ∃ f : PanelFlags, endedItem s l = .panel { p with flags := f } := by
  unfold endedItem
  split_ifs
  · exact ⟨_, by rw [h]; rfl⟩
  · exact ⟨_, h⟩

theorem endedItem_gap {l : LayingItem} {g : Gap} (h : l.item = .gap g) : endedItem s l = .gap g := by
  unfold endedItem
  split_ifs
  · rw [h]; rfl
  · exact h

@[simp] theorem releaseItem_lay (i : Item) (s : State) : (releaseItem i s).lay = s.lay := by cases i <;> rfl

theorem itemEnd_effects (h : Effects o s) : Effects o (itemEnd s) := by
  cases hlaying : s.lay.laying with
  | none => rwa [itemEnd_of_none hlaying]
  | some l =>
    rw [itemEnd_of_laying hlaying]
    refine commitRule_effects ?_
    cases hitem : l.item with
    | panel p =>
      obtain ⟨f, hended⟩ := endedItem_panel (s := s) hitem
      rw [hended]
      refine h.reform (.endPanel l p hlaying hitem) ?_ (postLasting_hands rfl .refl)
      rw [releaseItem, slotLoses_lawView, postLasting_lawView]
      rfl
    | gap g =>
      rw [endedItem_gap hitem]
      refine h.reform (.endGap l g hlaying hitem) ?_ (postLasting_hands rfl .refl)
      rw [releaseItem, postLasting_lawView]
      rfl

/-- The end of an item leaves the NEXT one as it is, and nothing LAYING (R115). -/
theorem itemEnd_lay_of_next {n : NextItem} (h : s.lay.next = some n) :
    (itemEnd s).lay.laying = none ∧ (itemEnd s).lay.next = some n := by
  cases hlaying : s.lay.laying with
  | none => rw [itemEnd_of_none hlaying]; exact ⟨hlaying, h⟩
  | some l =>
    rw [itemEnd_of_laying hlaying, commitRule_of_next (n := n) (by simp [h])]
    simp [h]

theorem startItem_effects {n : NextItem} (hnext : s.lay.next = some n) (hlaying : s.lay.laying = none) (h : Effects o s) :
    Effects o (startItem n s) := by
  unfold startItem
  simp only
  refine commitRule_effects (postLasting_effects rfl ?_)
  refine h.reform (.startItem n ⟨if s.stn = .halted then n.item.flag fun f => { f with halt := true } else n.item, n.flatStart,
    s.posOf .pleated, 0, 0, 0, false, false⟩ hnext hlaying ?_ rfl) ?_ ?_
  · simp only; split
    · exact Item.bare_flag _ _
    · rfl
  · rw [setWatch_lawView, setCascade_lawView]; rfl
  · rw [setWatch_msg, setCascade_msg]; exact .refl

theorem itemStart_effects (h : Effects o s) : Effects o (itemStart s) := by
  unfold itemStart
  split
  · exact h
  · next n hnext =>
    split
    · next hlaying => exact startItem_effects hnext hlaying h
    · obtain ⟨hlaying, hnext'⟩ := itemEnd_lay_of_next (s := dropEvent .itemEnd s) (n := n) hnext
      exact startItem_effects hnext' hlaying (itemEnd_effects (h.silently rfl rfl))

/-! ## The cascade, seams and spans -/

@[simp] theorem advanceMark_lawView (g : Geom) (s : State) : (advanceMark g s).lawView = s.lawView := by
  unfold advanceMark; split <;> rfl
@[simp] theorem giveStroke_lawView (x : Side) (s : State) : (giveStroke x s).lawView = s.lawView := by cases x <;> rfl

@[simp] theorem slipTest_lawView (s : State) : (slipTest s).lawView = s.lawView := by
  unfold slipTest; split
  · split
    · rw [recordFault_lawView]; exact onLaying_lawView (fun l => by simp [LayingItem.bare, Item.bare_flag]) s
    · rfl
  · rfl

@[simp] theorem overrun_lawView (s : State) : (overrun s).lawView = s.lawView := by
  unfold overrun; simp only; split
  · split
    · exact flagLaying_lawView _ s
    · rw [recordFault_lawView, onLaying_lawView, flagLaying_lawView]
      exact fun _ => rfl
  · exact flagLaying_lawView _ s

@[simp] theorem strokeAt_lawView (x : Side) (s : State) : (strokeAt x s).lawView = s.lawView := by
  unfold strokeAt; split_ifs <;> simp

theorem countStroke_bare (g : Geom) (r : StepRec) (l : LayingItem) : (countStroke g r l).bare = l.bare := by
  unfold countStroke; split_ifs <;> rfl

@[simp] theorem cascadeFires_lawView (s : State) : (cascadeFires s).lawView = s.lawView := by
  unfold cascadeFires; split
  · split
    · rw [setCascade_lawView, onLaying_lawView]
      · rfl
      · exact fun _ => rfl
    · rw [setCascade_lawView, onLaying_lawView (countStroke_bare _ _), strokeAt_lawView, slipTest_lawView, advanceMark_lawView]
  · rfl

@[simp] theorem seamArrival_lawView (a : Word) (s : State) : (seamArrival a s).lawView = s.lawView := by
  unfold seamArrival; split <;> rfl

@[simp] theorem seamPassed_lawView (w : Word) (s : State) : (seamPassed w s).lawView = s.lawView := by
  unfold seamPassed; split
  · rfl
  · split
    · rfl
    · simp only; split
      · rw [postLasting_lawView]; rfl
      · simp only [postLasting_lawView]; rfl

/-- Spans whose starts and ids are those of the spans of before are one effect. -/
theorem Effects.remap (h : Effects o s) {l : List Span} (hl : (l.map Span.bare).Sublist (s.map.spans.map Span.bare))
    (hview : t.lawView = { s with map.spans := l }.lawView) (hmsg : s.msg.Hands t.msg) : Effects o t :=
  (h.then (.spans l hl)).quietly hview hmsg

theorem map_bare_set {l : List Span} {i : Nat} {sp sp' : Span} (hi : l[i]? = some sp) (hsp : sp'.bare = sp.bare) :
    (l.set i sp').map Span.bare = l.map Span.bare := by
  obtain ⟨hlt, rfl⟩ := List.getElem?_eq_some_iff.mp hi
  rw [List.map_set, hsp]
  apply List.ext_getElem (by simp)
  intro n h1 h2
  simp only [List.getElem_set, List.getElem_map]
  split
  · next hn => subst hn; rfl
  · rfl

theorem spanEntry_effects {w : Word} (h : Effects o s) : Effects o (spanEntry w s) := by
  unfold spanEntry
  split
  · exact h
  · next i hfind =>
    split
    · exact h
    · next sp hget =>
      have hview : ∀ u : State, u.lawView = s.lawView → ∀ l : List Span, l.map Span.bare = s.map.spans.map Span.bare →
          { u with map.spans := l }.lawView = s.lawView := by
        intro u hu l hl
        have e : { u with map.spans := l }.lawView = { u.lawView with map.spans := l.map Span.bare } := rfl
        rw [e, hu, hl]; rfl
      have hspans : (s.map.spans.set i { sp with
          phase := .inChest s.pos.measured (coldest s) 0
          own := if s.stn = .halted then { sp.own with halt := true } else sp.own }).map Span.bare = s.map.spans.map Span.bare :=
        map_bare_set hget rfl
      simp only
      split
      · next f hf =>
        split
        · exact h.silently (hview s rfl _ hspans) rfl
        · exact h.quietly (by rw [postLasting_lawView]; exact hview s rfl _ hspans) (postLasting_hands (spanStart_lasting hf) .refl)
      · exact h.silently (hview s rfl _ hspans) rfl

theorem spanLeave_effects {w : Word} (h : Effects o s) : Effects o (spanLeave w s) := by
  unfold spanLeave
  split
  · exact h
  · next i hfind =>
    split
    · exact h
    · next sp hget =>
      refine h.remap (l := s.map.spans.eraseIdx i) ((List.eraseIdx_sublist ..).map _) ?_ (postLasting_hands (spanEnd_lasting ..) .refl)
      have e : ∀ u : State, { u with map.spans := s.map.spans.eraseIdx i }.lawView
          = { u.lawView with map.spans := (s.map.spans.eraseIdx i).map Span.bare } := fun _ => rfl
      exact (e (postLasting _ s)).trans (by rw [postLasting_lawView]; rfl)

theorem windowTest_effects (h : Effects o s) : Effects o (windowTest s) :=
  h.remap (l := s.map.spans.filter fun sp => sp.inChest || inWindow s sp.start) (List.filter_sublist.map _) rfl .refl

theorem deliver_effects {w : Watch} (h : Effects o s) : Effects o (deliver w s) := by
  unfold deliver
  split
  · exact itemStart_effects h
  · exact itemEnd_effects h
  · exact h.quietly (by simp) (cascadeFires_hands .refl)
  · exact h.silently (by simp) (seamArrival_msg ..)
  · exact h.quietly (by simp) (seamPassed_hands .refl)
  · exact h.silently rfl rfl
  · exact spanEntry_effects h
  · exact spanLeave_effects h

theorem fire_effects (n : Nat) (h : Effects o s) : Effects o (fire n s) := by
  induction n generalizing s with
  | zero => exact h
  | succ n ih =>
    unfold fire
    split
    · exact h
    · exact ih (deliver_effects (h.silently rfl rfl))

theorem settle_effects (h : Effects o s) : Effects o (settle s) := fire_effects _ h

end

end Sys2Proof.Machine
end

section
/-! PROOFS. The transitions, the Supply and Setting Unit's operations and the Message Unit's own as chains of effects. -/

namespace Sys2Proof.Machine

section
variable {o s t : State}

/-! ## Transitions -/

theorem haltRole_lawView (s : State) :
    (haltRole s).lawView = if s.role = some .setter then
      { s.lawView with pos.errorRun := 0, set.zones := s.set.zones.map Zone.shut } else s.lawView := by
  unfold haltRole
  split
  · next h => rw [h]; exact flagLaying_lawView _ s
  · next h => rw [h]; rfl
  · next h =>
    have hspans : (haltSpans s.map.spans).map Span.bare = s.map.spans.map Span.bare := by
      rw [haltSpans, List.map_map]
      exact List.map_congr_left fun sp _ => by simp only [Function.comp_apply]; split <;> rfl
    have hview : (haltSetter s).lawView = { s.lawView with
        pos.errorRun := 0, set.zones := s.set.zones.map Zone.shut, map.spans := (haltSpans s.map.spans).map Span.bare } := rfl
    rw [h, if_pos rfl, hview, hspans]
    rfl
  · next h => rw [h]; rfl

theorem haltRole_lawView_congr {s t : State} (h : t.lawView = s.lawView) : (haltRole t).lawView = (haltRole s).lawView := by
  have hrole : t.role = s.role := by show t.lawView.role = s.lawView.role; rw [h]
  have hzones : t.set.zones = s.set.zones := congrArg (fun u => u.set.zones) h
  rw [haltRole_lawView, haltRole_lawView, hrole, hzones, h]

/-- Behind the role units' part of an entry to HALTED stand notices and watches alone. -/
theorem enterHalted_effects_of_haltRole (h : Effects o (haltRole { s with stn := .halted })) : Effects o (enterHalted s) := by
  have hrole : Effects o (haltRole { s with stn := .halted, ctl.entryClear := s.ctl.lastClear, ctl.quiet := some Config.quietMs }) :=
    h.silently (haltRole_lawView_congr rfl) (by rw [haltRole_msg, haltRole_msg])
  unfold enterHalted
  refine cadence_effects (settle_effects ?_)
  simp only
  split
  · exact handCeiling_effects (handPosition_effects hrole)
  · exact handPosition_effects hrole

theorem enterHalted_effects (hlive : s.live = true) (h : Effects o s) : Effects o (enterHalted s) :=
  enterHalted_effects_of_haltRole (h.then (.halt hlive))

theorem localCause_effects {c : FaultCode} {d : Nat} {latched : Bool} (h : Effects o s) : Effects o (localCause c d latched s) := by
  unfold localCause
  split
  · exact h
  · next hlive =>
    split
    · refine recordFault_effects ?_
      split
      · exact h.silently rfl rfl
      · exact h
    · refine postLasting_effects rfl (sendPattern_effects (enterHalted_effects ?_ (h.silently rfl rfl)))
      show s.live = true
      simpa using hlive

/-- A live station takes another live state. From HALTED a SETTER's overtemperature mark is cleared before. -/
theorem Effects.enter (h : Effects o s) {x : StationState} (hlive : s.live = true) (hx : x.live = true) (hne : x ≠ .halted)
    (hmark : s.stn = .halted → s.role = some .setter → s.set.overMark = false) (hview : t.lawView = { s with stn := x }.lawView)
    (hmsg : s.msg.Hands t.msg) : Effects o t :=
  (h.then (.state x hlive hx hne hmark)).quietly hview hmsg

theorem enterListen_effects (hlive : s.live = true) (hmark : s.stn = .halted → s.role = some .setter → s.set.overMark = false)
    (h : Effects o s) : Effects o (enterListen s) := by
  have hentered : Effects o (handCeiling (handPosition
      (uncapture { s with stn := .listen, ctl.consoleHeard := false, ctl.neighbourHeard := false }))) := by
    refine handCeiling_effects (handPosition_effects (h.enter (x := .listen) hlive rfl (by decide) hmark ?_ ?_))
    · rw [uncapture_lawView]; rfl
    · rw [uncapture_msg]; exact .refl
  unfold enterListen
  simp only
  split
  · exact localCause_effects hentered
  · split
    · exact localCause_effects hentered
    · exact hentered

theorem enterReady_effects (hlive : s.live = true) (hmark : s.stn = .halted → s.role = some .setter → s.set.overMark = false)
    (h : Effects o s) : Effects o (enterReady s) :=
  handPosition_effects (h.enter (t := { s with stn := .ready }) hlive rfl (by decide) hmark rfl .refl)

theorem enterReadyOrListen_effects (hlive : s.live = true)
    (hmark : s.stn = .halted → s.role = some .setter → s.set.overMark = false) (h : Effects o s) :
    Effects o (enterReadyOrListen s) := by
  unfold enterReadyOrListen
  split
  · exact enterReady_effects hlive hmark h
  · exact enterListen_effects hlive hmark h

theorem enterRunning_effects (hlive : s.live = true) (hne : s.stn ≠ .halted) (h : Effects o s) : Effects o (enterRunning s) :=
  handCeiling_effects (handPosition_effects
    (h.enter (t := { s with stn := .running }) hlive rfl (by decide) (fun e => absurd e hne) rfl .refl))

theorem stoppingEnd_effects (h : Effects o s) : Effects o (stoppingEnd s) := by
  unfold stoppingEnd
  split
  · next hstop =>
    obtain ⟨hstn, -⟩ := hstop
    exact enterReadyOrListen_effects (live_of_stn hstn) (fun e => by simp [hstn] at e) h
  · exact h

theorem enterStopping_effects (hlive : s.live = true) (hne : s.stn ≠ .halted) (h : Effects o s) : Effects o (enterStopping s) :=
  stoppingEnd_effects (handCeiling_effects (handPosition_effects
    (h.enter (t := { s with stn := .stopping }) hlive rfl (by decide) (fun e => absurd e hne) rfl .refl)))

theorem stopCause_effects (h : Effects o s) : Effects o (stopCause s) := by
  unfold stopCause
  split
  · next hstn => exact enterStopping_effects (live_of_stn hstn) (by simp [hstn]) h
  · exact h

theorem listenTest_effects (h : Effects o s) : Effects o (listenTest s) := by
  unfold listenTest
  split
  · next hlisten =>
    obtain ⟨hstn, -⟩ := hlisten
    exact enterReady_effects (live_of_stn hstn) (fun e => by simp [hstn] at e) h
  · exact h

/-- Leaving HALTED clears a SETTER's overtemperature mark (R150). -/
theorem releaseRole_effects (h : Effects o s) : Effects o (releaseRole s) := by
  unfold releaseRole
  split
  · exact h.silently rfl rfl
  · exact (h.then .unmark).silently (by rw [uncapture_lawView]; rfl) (uncapture_msg _)
  · exact h

theorem releaseRole_unmarks (hrole : s.role = some .setter) : (releaseRole s).set.overMark = false := by
  unfold releaseRole
  rw [hrole]
  simp

theorem haltedExit_effects (h : Effects o s) : Effects o (haltedExit s) := by
  unfold haltedExit
  split
  · next hleave =>
    have hrelease : Effects o (releaseRole { s with ctl.quiet := none, ctl.entryClear := none }) :=
      releaseRole_effects (h.silently rfl rfl)
    refine enterReadyOrListen_effects ?_ (fun _ hrole => releaseRole_unmarks ?_) hrelease
    · rw [live_congr (releaseRole_stn _)]; exact (show s.live = true from mayLeave_live hleave)
    · rwa [role_congr (releaseRole_cfg _)] at hrole
  · exact h

theorem haltHeard_effects (hlive : s.live = true) (h : Effects o s) : Effects o (haltHeard s) :=
  postLasting_effects rfl (enterHalted_effects hlive (h.silently rfl rfl))

theorem runStateActs_effects {run : Bool} (h : Effects o s) : Effects o (runStateActs run s) := by
  unfold runStateActs
  split
  · exact listenTest_effects h
  · next hstn =>
    split
    · exact enterRunning_effects (live_of_stn hstn) (by simp [hstn]) h
    · exact h
  · next hstn =>
    split
    · exact h
    · exact enterStopping_effects (live_of_stn hstn) (by simp [hstn]) h
  · exact haltedExit_effects h
  · exact h

theorem silence_effects {c : FaultCode} {d : Nat} (h : Effects o s) : Effects o (silence c d s) := by
  unfold silence
  split
  · next hstn =>
    exact enterListen_effects (live_of_stn (x := .ready) (by simp [hstn])) (fun e => by simp [hstn] at e) (recordFault_effects h)
  · next hstn =>
    exact enterStopping_effects (live_of_stn (x := .running) (by simp [hstn])) (by simp [hstn]) (recordFault_effects h)
  · exact recordFault_effects h
  · exact h

/-! ## The Message Unit -/

theorem Effects.edit (h : Effects o s) {m : Msg} (e : MsgEdit s m) : Effects o { s with msg := m } := h.then (.message m e)

theorem answer_effects {n : Station} {id : Byte} {c : ReqCode} {f : Final} (h : Effects o s) : Effects o (answer n id c f s) := by
  obtain ⟨hq, hp, hc, hr, hpend, hdel, hpass, hlost, -⟩ := recordAnswer_frame s.msg ⟨n, id, c, f⟩
  exact (h.edit (.still (s.msg.recordAnswer ⟨n, id, c, f⟩) ⟨by rw [hq], hp, hc, hr, hpass, hlost, hpend, hdel⟩)).edit (.ask _ _ rfl)

theorem interim_effects {n : Station} {id : Byte} {c : ReqCode} {b : AnswerBody} (h : Effects o s) :
    Effects o (interim n id c b s) := h.edit (.interim _)

theorem delay_effects {n : Station} {id : Byte} {b : ReqBody} (hmay : s.mayDelay ⟨n, id, b, none, none⟩)
    (hnone : s.msg.delays n b.code = false) (h : Effects o s) : Effects o (delay n id b s) :=
  interim_effects (h.edit (.delay ⟨n, id, b, none, none⟩ hmay hnone))

theorem withdrawUpTo_effects (f : Frame) (n : Nat) {m : Msg} (h : Effects o { s with msg := m }) :
    Effects o { s with msg := Msg.withdrawUpTo f n m } := by
  induction n generalizing m with
  | zero => exact h
  | succ n ih =>
    unfold Msg.withdrawUpTo
    split
    · next i hfind => exact ih (h.edit (.free i))
    · exact h

theorem closeRequest_effects (p : PendingReq) (h : Effects o s) : Effects o { s with msg := s.msg.closeRequest p } :=
  withdrawUpTo_effects _ _ ((h.edit (.close fun q => q.entry != p.entry)).edit
    (.still _ ⟨rfl, rfl, rfl, rfl, rfl, rfl, rfl, rfl⟩))

/-! ## The Supply Unit -/

theorem setSplice_effects {x : SpliceState} (hsafe : s.sup.splice ≠ .pressing ∨ s.sup.pressFire = false) (h : Effects o s) :
    Effects o (setSplice x s) :=
  handRollState_effects (h.reform (.splice x hsafe) rfl .refl)

@[simp] theorem reformOwn_sup (s : State) : (reformOwn s).sup = s.sup := by
  unfold reformOwn; simp only; split <;> rfl

@[simp] theorem setSplice_splice (x : SpliceState) (s : State) : (setSplice x s).sup.splice = x :=
  congrArg (fun u => u.sup.splice) (setSplice_sansNotices x s)

@[simp] theorem setSplice_stn (x : SpliceState) (s : State) : (setSplice x s).stn = s.stn :=
  congrArg (fun u => u.stn) (setSplice_sansNotices x s)

@[simp] theorem requestSlot_splice (s : State) : (requestSlot s).sup.splice = s.sup.splice := by
  unfold requestSlot; split <;> rfl

theorem requestSlot_effects (hlive : s.live = true) (h : Effects o s) : Effects o (requestSlot s) := by
  unfold requestSlot
  split
  · next hroom => exact ((h.edit (.request _ hlive hroom)).edit (.ask _ _ rfl)).silently rfl rfl
  · exact h

theorem enterPressing_effects {emergency : Bool} (hsafe : s.sup.splice ≠ .pressing) (h : Effects o s) :
    Effects o (enterPressing emergency s) :=
  setSplice_effects (.inl hsafe) (h.silently rfl rfl)

/-- A change of an arm that makes it RUNNING only beside one that is not. -/
theorem onArm_effects {n : ArmName} {f : Arm → Arm}
    (hf : (f (s.sup.arm n)).state = .running → (s.sup.arm n).state ≠ .running → (s.sup.arm (otherOf n)).state ≠ .running)
    (h : Effects o s) : Effects o (onArm n f s) := by
  cases n with
  | a =>
    exact h.then (.arms (f s.sup.armA) s.sup.armB fun hlaw ⟨ha, hb⟩ =>
      hlaw ⟨by_contra fun hna => hf ha hna hb, hb⟩)
  | b =>
    exact h.then (.arms s.sup.armA (f s.sup.armB) fun hlaw ⟨ha, hb⟩ =>
      hlaw ⟨ha, by_contra fun hnb => hf hb hnb ha⟩)

theorem evalRun_effects (hlive : s.live = true) (hrun : s.sup.splice = .run) (h : Effects o s) : Effects o (evalRun s) := by
  unfold evalRun
  split
  · exact h
  · next n hn =>
    split
    · exact h
    · split
      · exact requestSlot_effects (by rw [live_congr (setSplice_stn ..)]; exact hlive)
          (setSplice_effects (.inl (by simp [hrun])) h)
      · split
        · exact h
        · exact recordFault_effects (onArm_effects (fun hstate hne => absurd hstate hne) h)

theorem onArm_splice (n : ArmName) (f : Arm → Arm) (s : State) : (onArm n f s).sup.splice = s.sup.splice := by cases n <;> rfl

theorem evalRun_splice_ne (hrun : s.sup.splice = .run) : (evalRun s).sup.splice ≠ .pressing := by
  unfold evalRun
  split
  · simp [hrun]
  · split
    · simp [hrun]
    · split
      · simp
      · split <;> simp [hrun, onArm_splice]

theorem unlessEmergency_effects {f : State → State} (hne : s.sup.splice ≠ .pressing) (hf : Effects o (f s)) (h : Effects o s) :
    Effects o (unlessEmergency f s) := by
  unfold unlessEmergency
  split
  · exact enterPressing_effects hne h
  · exact hf

theorem evalFilling_effects (hsplice : s.sup.splice = .filling ∨ s.sup.splice = .armed) (h : Effects o s) :
    Effects o (evalFilling s) := by
  have hne : s.sup.splice ≠ .pressing := by rcases hsplice with e | e <;> simp [e]
  unfold evalFilling
  simp only
  split
  · have harmed : Effects o (setSplice .armed s) := setSplice_effects (.inl hne) h
    split
    · exact enterPressing_effects (by simp) harmed
    · exact harmed
  · split
    · exact enterPressing_effects hne h
    · exact h

theorem evalSplice_effects (h : Effects o s) : Effects o (evalSplice s) := by
  unfold evalSplice
  split
  · next hstn =>
    have hlive : s.live = true := by rcases hstn with e | e | e <;> exact live_of_stn e
    split
    · exact h
    · next hsplice =>
      unfold evalAccelerating
      split
      · exact setSplice_effects (.inl (by simp [hsplice])) h
      · exact h
    · next hsplice =>
      have hrun := evalRun_effects hlive hsplice h
      exact unlessEmergency_effects (evalRun_splice_ne hsplice) hrun hrun
    · next hsplice =>
      refine unlessEmergency_effects (by simp [hsplice]) ?_ h
      unfold evalRequesting
      split
      · exact requestSlot_effects hlive h
      · exact h
    · next hsplice => exact unlessEmergency_effects (by simp [hsplice]) h h
    · next hsplice => exact unlessEmergency_effects (by simp [hsplice]) h h
    · next hsplice => exact unlessEmergency_effects (by simp [hsplice]) (evalFilling_effects (.inl hsplice) h) h
    · next hsplice => exact unlessEmergency_effects (by simp [hsplice]) (evalFilling_effects (.inr hsplice) h) h
  · exact h

theorem formUnwind_effects (h : Effects o s) : Effects o (formUnwind s) := by
  unfold formUnwind
  split
  · exact h
  · split <;> exact h.silently rfl rfl

/-- The press is fired, or the brake at most comes on. -/
theorem pressCheck_does (h : Effects o s) : Effects o (pressCheck s) ∨ Fires s (pressCheck s) := by
  unfold pressCheck
  split
  · next hrest =>
    obtain ⟨hsplice, hmeasured⟩ := hrest
    split
    · next hfire =>
      obtain ⟨hstn, -⟩ := hfire
      exact .inr ⟨rfl, rfl, hstn, hsplice, hmeasured⟩
    · exact .inl (h.silently rfl rfl)
  · exact .inl h

theorem handRollState_arm (n : ArmName) (s : State) : (handRollState s).sup.arm n = s.sup.arm n := by
  unfold handRollState; split <;> rfl

theorem onArm_arm_other (n : ArmName) (f : Arm → Arm) (s : State) : (onArm n f s).sup.arm (otherOf n) = s.sup.arm (otherOf n) := by
  cases n <;> rfl

theorem onArm_arm (n : ArmName) (f : Arm → Arm) (s : State) : (onArm n f s).sup.arm n = f (s.sup.arm n) := by cases n <;> rfl

theorem otherOf_otherOf (n : ArmName) : otherOf (otherOf n) = n := by cases n <;> rfl

theorem arm_not_running {u : Supply} (h : u.running = none) (n : ArmName) : (u.arm n).state ≠ .running := by
  unfold Supply.running at h
  split_ifs at h with ha hb
  cases n <;> assumption

theorem threadArm_effects {n : ArmName} (h : Effects o s) : Effects o (threadArm n s) := by
  have hloaded : Effects o (handRollState (onArm n (fun a => { a with state := .loaded, remaining := a.loaded, threading := none }) s)) :=
    handRollState_effects (onArm_effects (nomatch ·) h)
  unfold threadArm
  simp only
  split
  · next hnone =>
    refine handRollState_effects (onArm_effects (fun _ _ => ?_) hloaded)
    rw [handRollState_arm, onArm_arm_other]
    exact arm_not_running hnone _
  · exact hloaded

theorem completeLoad_effects {f : Final} (h : Effects o s) : Effects o (completeLoad f s) := by
  unfold completeLoad
  split
  · exact h.quietly rfl (.complete _ _ _ _ _ .refl)
  · exact h

theorem changeOver_effects (h : Effects o s) : Effects o (changeOver s) := by
  unfold changeOver
  split
  · refine onArm_effects (fun _ _ => ?_) (onArm_effects (nomatch ·) h)
    next n _ =>
    rw [otherOf_otherOf, onArm_arm]
    exact (nomatch ·)
  · exact h

theorem completeSplice_effects (h : Effects o s) : Effects o (completeSplice s) := by
  have hover : Effects o (handRollState (changeOver (postLasting (spliceSeam s) s))) :=
    handRollState_effects (changeOver_effects (postLasting_effects rfl h))
  exact setSplice_effects (.inr rfl) ((hover.then .pressOff).silently rfl rfl)

theorem setFestoon_effects {f : Festoon} (h : Effects o s) : Effects o (setFestoon f s) := by
  unfold setFestoon
  split
  · exact h
  · exact handRollState_effects (h.silently rfl rfl)

theorem festoonDoubt_effects (h : Effects o s) : Effects o (festoonDoubt s) := by
  unfold festoonDoubt
  split
  · exact setFestoon_effects (h.silently rfl rfl)
  · exact h

theorem contentOf_le (v : Int) : contentOf v ≤ 3276700 := by
  unfold contentOf clampInt
  split_ifs <;> omega

theorem goodFestoon_effects {mm : Int} (h : Effects o s) : Effects o (goodFestoon mm s) := by
  have hread : Effects o (setFestoon .good { s with sup.content := contentOf mm, sup.festoonHold := none }) :=
    setFestoon_effects ((h.then (.content _ (contentOf_le mm))).silently rfl rfl)
  unfold goodFestoon emptyTest
  split
  · split
    · exact localCause_effects (hread.silently rfl rfl)
    · exact hread
  · exact hread.silently rfl rfl

theorem slotOutcome_effects {entry : Nat} {out : Outcome} (h : Effects o s) : Effects o (slotOutcome entry out s) := by
  unfold slotOutcome
  split
  · next hreq =>
    obtain ⟨hsplice, -⟩ := hreq
    have hne : s.sup.splice ≠ .pressing := by simp [hsplice]
    split
    · unfold judgeSlot
      simp only
      split
      · exact h.silently rfl rfl
      · split
        · exact setSplice_effects (.inl hne) h
        · exact setSplice_effects (.inl (by simp)) (setSplice_effects (.inl hne) (h.silently rfl rfl))
    · exact setSplice_effects (.inl hne) h
    · exact h.silently rfl rfl
  · exact h

theorem giveOutcome_effects {p : PendingReq} {out : Outcome} (h : Effects o s) : Effects o (giveOutcome p out s) :=
  slotOutcome_effects h

theorem meter_effects {d : Int} (h : Effects o s) : Effects o (meter d s) := by
  unfold meter
  split
  · exact h
  · next n hn =>
    have hmeter : Effects o (onArm n (fun a => a.meter d) s) := onArm_effects (fun hstate hne => absurd hstate hne) h
    simp only
    split
    · exact localCause_effects hmeter
    · exact hmeter

/-! ## The Setting Unit -/

theorem mem_modifyAt {α : Type} {f : α → α} {i : Nat} {l : List α} {y : α} (h : y ∈ modifyAt f i l) :
    y ∈ l ∨ ∃ x ∈ l, y = f x := by
  induction l generalizing i with
  | nil => cases i <;> exact .inl h
  | cons a l ih =>
    cases i with
    | zero =>
      rcases List.mem_cons.mp h with rfl | h
      · exact .inr ⟨a, by simp, rfl⟩
      · exact .inl (by simp [h])
    | succ i =>
      rcases List.mem_cons.mp h with rfl | h
      · exact .inl (by simp)
      · rcases ih h with h | ⟨x, hx, rfl⟩
        · exact .inl (by simp [h])
        · exact .inr ⟨x, by simp [hx], rfl⟩

/-- A change of one zone that keeps Law 10 keeps it of all. -/
theorem lawful_modifyAt {f : Zone → Zone} {i : Nat} {zs : List Zone} {stn : StationState}
    (hf : ∀ z, z.lawful stn → (f z).lawful stn) (h : ∀ z ∈ zs, z.lawful stn) : ∀ z ∈ modifyAt f i zs, z.lawful stn := by
  intro y hy
  rcases mem_modifyAt hy with hy | ⟨x, hx, rfl⟩
  · exact h y hy
  · exact hf x (h x hx)

theorem Zone.lawful_of_shut {stn : StationState} {z : Zone} (hduty : z.duty = 0) (hintegral : z.integral = 0) : z.lawful stn :=
  ⟨fun _ => hduty, fun _ => hduty, by omega, fun _ => hduty, fun _ => hintegral⟩

theorem Zone.lawful_setTo {stn : StationState} (v : Int) (z : Zone) (h : z.lawful stn) : (z.setTo v).lawful stn := by
  unfold Zone.setTo
  split
  · exact lawful_of_shut rfl rfl
  · next hv =>
    obtain ⟨-, hlost, hmax, hcold, hhalt⟩ := h
    exact ⟨fun e => absurd e hv, hlost, hmax, hcold, hhalt⟩

theorem Zone.lawful_doubt {stn : StationState} (z : Zone) (h : z.lawful stn) : z.doubt.lawful stn := by
  unfold Zone.doubt
  split
  · obtain ⟨hzero, -, hmax, hcold, hhalt⟩ := h
    exact ⟨hzero, (nomatch ·), hmax, hcold, hhalt⟩
  · exact h

theorem Zone.lawful_read {stn : StationState} (v : Int) (z : Zone) (h : z.lawful stn) : (z.read v).lawful stn := by
  obtain ⟨hzero, -, hmax, hcold, hhalt⟩ := h
  exact ⟨hzero, (nomatch ·), hmax, hcold, hhalt⟩

theorem Zone.lawful_lose {stn : StationState} (z : Zone) : z.lose.lawful stn := lawful_of_shut rfl rfl

/-- The control step's zone: in use, its sensor good, the chest neither cold nor halted. -/
theorem Zone.lawful_control {stn : StationState} {c : Cfg} {v : Int} {z : Zone} (huse : z.inUse = true) (hgood : z.cond = .good)
    (hcold : stn.coldState = false) (hhalt : stn ≠ .halted) : (z.control c v).lawful stn := by
  refine ⟨fun e => ?_, fun e => ?_, ?_, fun e => ?_, fun e => absurd e hhalt⟩
  · have hzero : z.setpoint = 0 := e
    simp [Zone.inUse, hzero] at huse
  · have hlost : z.cond = .lost := e
    simp [hgood] at hlost
  · show (clampInt 0 1023 _).toNat ≤ 1023
    unfold clampInt
    split_ifs <;> omega
  · simp [hcold] at e

/-- The zones change and the vent and the chest ceiling are re-formed (R151, R154). -/
theorem reformChest_effects {zs : List Zone} (hnil : s.set.zones = [] → zs = [])
    (hlaw : (∀ z ∈ s.set.zones, z.lawful s.stn) → ∀ z ∈ zs, z.lawful s.stn) (h : Effects o s) :
    Effects o (reformChest { s with set.zones := zs }) :=
  h.reform (.zones zs hnil hlaw) rfl .refl

theorem modifyAt_nil {α : Type} (f : α → α) (i : Nat) : modifyAt f i [] = [] := by cases i <;> rfl

theorem reformChest_onZone_effects {i : Nat} {f : Zone → Zone} (hf : ∀ z, z.lawful s.stn → (f z).lawful s.stn) (h : Effects o s) :
    Effects o (reformChest (onZone i f s)) :=
  reformChest_effects (fun e => by rw [e, modifyAt_nil]) (lawful_modifyAt hf) h

/-- OVERTEMP: the zones shut, and with the mark clear the station halts with it set (R150). -/
theorem tripLimit_effects {zone : Nat} (hrole : s.isRole .setter = true) (h : Effects o s) : Effects o (tripLimit zone s) := by
  obtain ⟨hlive, hsetter⟩ : s.live = true ∧ s.role = some .setter := by simpa [State.isRole] using hrole
  have hshut : Effects o { s with set.zones := s.set.zones.map Zone.shut } := h.then .shut
  unfold tripLimit
  simp only
  split
  · exact hshut
  · by_cases hhalted : s.stn = .halted
    · exact localCause_effects (hshut.then (.mark hhalted hsetter))
    · rw [localCause_halts (s := { s with set.zones := s.set.zones.map Zone.shut, set.overMark := true }) hlive hhalted]
      refine postLasting_effects rfl (sendPattern_effects (enterHalted_effects_of_haltRole ?_))
      refine ((hshut.then (.halt hlive)).then (.mark ?_ ?_)).silently ?_ ?_
      · rw [haltRole_stn]
      · rw [role_congr (haltRole_cfg _)]; exact hsetter
      · have hmark : ∀ u : State, { u with set.overMark := true }.lawView = { u.lawView with set.overMark := true } := fun _ => rfl
        rw [hmark, haltRole_lawView, haltRole_lawView, if_pos (by exact hsetter), if_pos (by exact hsetter)]
        rfl
      · simp only [haltRole_msg]

theorem tripLimit_stn_halted {zone : Nat} (hlive : s.live = true) (hmark : s.set.overMark = true → s.stn = .halted) :
    (tripLimit zone s).stn = .halted := by
  unfold tripLimit
  simp only
  split
  · next h => exact hmark h
  · rw [localCause_stn]; exact if_pos hlive

end

end Sys2Proof.Machine
end

section
/-! PROOFS. What every command does is a chain of effects, a span mapped on the way or the press fired at the end (`exec_does`). -/

namespace Sys2Proof.Machine

section
variable {o s t : State}

/-! ## Frames, requests and answers -/

/-- A received frame is not seen, ends as a frame, is counted as broken or reaches its owner (R30 to R32). -/
theorem receive_cases (kind : Nat) (sender : Station) (p : List Byte) (deliver : Latch → State → State) (s : State) :
    receive kind sender p deliver s = s ∨ receive kind sender p deliver s = dropLatch s
      ∨ receive kind sender p deliver s = countBroken (dropLatch s)
      ∨ ∃ l, receive kind sender p deliver s = deliver l (dropLatch s) := by
  unfold receive
  split
  · exact .inl rfl
  · next l _ =>
    simp only
    split_ifs
    · exact .inr (.inl rfl)
    · exact .inr (.inr (.inr ⟨l, rfl⟩))
    · exact .inr (.inr (.inl rfl))

theorem dropLatch_effects (h : Effects o s) : Effects o (dropLatch s) := h.silently rfl rfl

theorem countBroken_effects (h : Effects o s) : Effects o (countBroken s) := h.then .broken

theorem receive_does {kind : Nat} {sender : Station} {p : List Byte} {deliver : Latch → State → State}
    (hdeliver : ∀ l, Does s (deliver l (dropLatch s))) : Does s (receive kind sender p deliver s) := by
  have hdrop : Effects s (dropLatch s) := dropLatch_effects (.refl s)
  rcases receive_cases kind sender p deliver s with e | e | e | ⟨l, e⟩
  · rw [e]; exact .effects (.refl s)
  · rw [e]; exact .effects hdrop
  · rw [e]; exact .effects (countBroken_effects hdrop)
  · rw [e]; exact hdeliver l

theorem receive_effects {kind : Nat} {sender : Station} {p : List Byte} {deliver : Latch → State → State}
    (hdeliver : ∀ l t, Effects s t → Effects s (deliver l t)) : Does s (receive kind sender p deliver s) :=
  receive_does fun l => .effects (hdeliver l _ (dropLatch_effects (.refl s)))

theorem answerDelayed_effects {d : Delayed} {code : ReqCode} (h : Effects o s) : Effects o (answerDelayed d code s) := by
  unfold answerDelayed
  split
  · split
    · exact interim_effects h
    · exact answer_effects (h.edit (.undelay _))
  · exact interim_effects h

/-- A REQUEST is answered by the Message Unit alone, or reaches its serving block (R45). -/
theorem examine_effects {code : ReqCode} {sender : Station} {r : RequestIn} {serve : Byte → ReqBody → State → State}
    (hserve : s.serves code sender r → Effects o (serve r.id r.body s)) (h : Effects o s) :
    Effects o (examine code sender r serve s) := by
  unfold examine
  split
  · exact h
  · split
    · exact h.edit (.ask _ _ rfl)
    · next hanswered =>
      split
      · exact answerDelayed_effects h
      · next hdelayed =>
        split_ifs with hrole hallowed hbusy
        · exact answer_effects h
        · exact answer_effects h
        · exact interim_effects h
        · refine hserve ⟨hanswered, hdelayed, not_not.mp hrole, by simpa using hallowed, fun hd => ?_⟩
          simpa [hd] using hbusy

theorem receiveRequest_does {code : ReqCode} {sender : Station} {p : List Byte} {serve : Byte → ReqBody → State → State}
    (hserve : ∀ r t, t.serves code sender r → Effects s t → Effects s (serve r.id r.body t)) :
    Does s (receiveRequest code sender p serve s) :=
  receive_effects fun _ t ht => by
    split
    · next r _ => exact examine_effects (fun hserves => hserve r t hserves ht) ht
    · exact ht

theorem receiveAnswer_does {code : Byte} {sender : Station} {p : List Byte} {act : PendingReq → AnswerIn → State → State}
    (hact : ∀ q a t, Effects s t → Effects s (act q a t)) : Does s (receiveAnswer code sender p act s) :=
  receive_effects fun _ t ht => by
    split
    · split
      · split
        · exact hact _ _ _ ht
        · exact ht
      · exact ht
    · exact ht

/-! ## Station Control -/

theorem endConfig_effects {c : Cfg} {levels0 levels1 : Levels}
    (hc : ∃ r : List Byte, r.length = 150 ∧ recordFailure r = none ∧ c = decodeRecord r) (h : Effects o s) :
    Effects o (endConfig c levels0 levels1 s) := by
  obtain ⟨r, hlength, hvalid, rfl⟩ := hc
  refine handRollState_effects (enterListen_effects rfl (by exact (nomatch ·)) ?_)
  exact h.then (.start (some (decodeRecord r)) levels0 _ { Link.reset with accept := acceptTable (decodeRecord r) }
    (.inr ⟨r, hlength, hvalid, rfl⟩) rfl)

theorem enterConfigFault_effects {detail : Nat} {number : Option Station} (hstn : s.stn = .config) (h : Effects o s) :
    Effects o (enterConfigFault detail number s) := by
  have hfault : Effects o { s with
      stn := .configFault
      fault := some ⟨.configBad, half16 detail, .config⟩
      faultSender := number
      link := .reset
      ctl.configTimer := none
      ctl.repeatTimer := number.map fun _ => Config.configFaultRepeatMs } :=
    (h.then (.configFault (by simp [State.live, hstn, StationState.live]))).silently rfl rfl
  unfold enterConfigFault
  simp only
  split
  · exact postLasting_effects rfl hfault
  · exact hfault

theorem restartStation_effects (hlive : s.live = true) (h : Effects o s) : Effects o (restartStation s) := by
  have hstarted := enterListen_effects rfl (by exact (nomatch ·))
    (h.then (.start s.cfg s.pos.ch0.levels s.pos.ch1.levels s.link.restart (.inl ⟨hlive, rfl⟩) rfl))
  unfold restartStation
  simp only
  split
  · exact hstarted
  · exact handRollState_effects hstarted

theorem samplePins_effects {rs : List PinRun} (h : Effects o s) : Effects o (samplePins rs s) :=
  h.silently (by simp) (by rw [samplePins_eq])

theorem takeRunState_effects {m : RunStateMsg} (h : Effects o s) : Effects o (takeRunState m s) :=
  runStateActs_effects ((h.then (.setSpeed _ (Nat.min_le_right m.setSpeed s.roleMax))).silently rfl rfl)

theorem neighbourLost_effects (h : Effects o s) : Effects o (neighbourLost s) := by
  unfold neighbourLost
  split
  · exact h.silently rfl rfl
  · exact h.then (.errorRun 0 (by decide))
  · exact h

theorem noteEdge_effects (h : Effects o s) : Effects o (noteEdge s) := h.silently (by simp) (by simp)

/-! ## The line link -/

/-- Changes in place that a view does not see. -/
theorem map_modifyAt_of_eq {α β : Type} {f : α → α} {g : α → β} (hf : ∀ x, g (f x) = g x) (i : Nat) (l : List α) :
    (modifyAt f i l).map g = l.map g := by
  induction l generalizing i with
  | nil => rw [modifyAt_nil]
  | cons x l ih =>
    cases i with
    | zero => simp [modifyAt, hf]
    | succ i => simp [modifyAt, ih]

theorem QEntry.fail_frame (e : QEntry) : (QEntry.fail e).frame = e.frame := by
  unfold QEntry.fail; split <;> rfl

/-- A change of the entries' flights and failures alone. -/
theorem reflight_effects {q : List QEntry} (hq : q.map (·.frame) = s.msg.queue.map (·.frame)) (h : Effects o s) :
    Effects o { s with msg.queue := q } :=
  h.edit (.still _ ⟨hq, rfl, rfl, rfl, rfl, rfl, rfl, rfl⟩)

theorem land_effects (h : Effects o s) : Effects o { s with msg := s.msg.land } :=
  reflight_effects (by rw [List.map_map]; rfl) h

theorem startFrame_effects {i : Nat} {passing : Bool} {n : Station} {f : Frame} (h : Effects o s) :
    Effects o (startFrame i passing n f s) :=
  noteEdge_effects ((reflight_effects (map_modifyAt_of_eq (f := QEntry.launch passing) (fun _ => rfl) i s.msg.queue) h).silently rfl rfl)

theorem cancelFlying_effects (h : Effects o s) : Effects o (cancelFlying s) := by
  unfold cancelFlying
  split
  · exact h
  · split
    · exact h
    · split
      · exact reflight_effects (map_modifyAt_of_eq QEntry.fail_frame _ _) h
      · exact recordFault_effects ((land_effects h).edit (.free _))

theorem completeFlying_effects (h : Effects o s) : Effects o (completeFlying s) := by
  unfold completeFlying
  split
  · exact h
  · split
    · exact h
    · next e hget => exact h.edit (.complete _ e hget)

/-- The transmitter drives no frame any more and the latch is dropped. -/
theorem stopDriving_effects (h : Effects o s) : Effects o (stopDriving (dropLatch s)) := h.silently rfl rfl

/-! ## Positions and speeds -/

theorem hearNeighbour_effects (h : Effects o s) : Effects o (hearNeighbour s) := listenTest_effects (h.silently rfl rfl)

theorem errorRun_effects {n : Nat} (hn : n ≤ 2) (h : Effects o s) : Effects o { s with pos.errorRun := n } := h.then (.errorRun n hn)

theorem judgeError_effects {e : Int} (h : Effects o s) : Effects o (judgeError e s) := by
  unfold judgeError
  split_ifs with hsmall hfew
  · exact errorRun_effects (by decide) h
  · exact errorRun_effects (by omega) h
  · exact localCause_effects (errorRun_effects (by decide) h)

theorem register_effects {ref : Word} {l : Latch} (h : Effects o s) : Effects o (register ref l s) := by
  unfold register
  split
  · exact cadence_effects (windowTest_effects (settle_effects ((errorRun_effects (n := 0) (by decide) h).silently rfl rfl)))
  · exact judgeError_effects (cadence_effects (settle_effects (h.silently rfl rfl)))
  · exact h

theorem takePosition_effects {m : PositionMsg} {l : Latch} (h : Effects o s) : Effects o (takePosition m l s) := by
  unfold takePosition
  split
  · exact h.silently rfl rfl
  · exact register_effects h
  · exact h

theorem writeEntry_effects {n : Station} {e : CeilingEntry} (h : Effects o s) : Effects o (writeEntry n e s) := h.then (.table _)

theorem positionChanged_effects {w : Word} {ch : EncChannel} {d : Int} (h : Effects o s) :
    Effects o (positionChanged w ch d s) := by
  unfold positionChanged
  refine cadence_effects (settle_effects ?_)
  split
  · exact meter_effects h
  · exact h

theorem takeCount_effects {ch : EncChannel} {line : EncLine} (h : Effects o s) : Effects o (takeCount ch line s) := by
  cases ch with
  | ch0 => exact h.silently rfl rfl
  | ch1 => exact h.silently rfl rfl

/-- A change of the spans that keeps their starts and ids is quiet. -/
theorem spans_effects {l : List Span} (hl : l.map Span.bare = s.map.spans.map Span.bare) (h : Effects o s) :
    Effects o { s with map.spans := l } :=
  h.then (.spans l (by rw [hl]))

theorem respan_effects {f : Span → Span} (hf : ∀ sp, (f sp).bare = sp.bare) (h : Effects o s) :
    Effects o { s with map.spans := s.map.spans.map f } :=
  spans_effects (by rw [List.map_map]; exact List.map_congr_left fun sp _ => hf sp) h

theorem Span.speedTick_bare (stn : StationState) (v : Nat) (sp : Span) : (Span.speedTick stn v sp).bare = sp.bare := by
  unfold Span.speedTick; split <;> rfl

theorem Span.sampleTick_bare (cold : Option Int) (sp : Span) : (Span.sampleTick cold sp).bare = sp.bare := by
  unfold Span.sampleTick; split <;> rfl

theorem speedNow_le (s : State) : speedNow s ≤ 65535 := by
  unfold speedNow clampInt
  split_ifs <;> omega

/-! ## The Laying Unit -/

theorem mem_evictOldest_lawView (s : State) : (evictOldest s).lawView = s.lawView := by
  unfold evictOldest
  split
  · rfl
  · split
    · rfl
    · show (evict _ (postLasting _ (dropSeamWatches _ _))).lawView = _
      have hdrop : ∀ e u, (dropSeamWatches e u).lawView = u.lawView := by
        intro e u; unfold dropSeamWatches; split <;> rfl
      have hevict : ∀ q u, (evict q u).lawView = u.lawView := fun _ _ => rfl
      rw [hevict, postLasting_lawView, hdrop]
      rfl

theorem enterSeam_effects {e : SeamEntry} (h : Effects o s) : Effects o (enterSeam e s) :=
  h.quietly (mem_evictOldest_lawView s) (enterSeam_hands .refl)

theorem seamOnLaying_effects {a b : Word} (h : Effects o s) : Effects o (seamOnLaying a b s) := by
  unfold seamOnLaying
  split
  · split
    · exact h.silently (onLaying_lawView (fun l => by simp [LayingItem.bare, Item.bare_flag, Item.bare_markUsed]) s) rfl
    · exact h
  · exact h

theorem NextItem.lawView_of_bare {n n' : NextItem} (hnext : s.lay.next = some n) (hbare : n'.bare = n.bare) :
    { s with lay.next := some n' }.lawView = s.lawView := by
  have hview : { s with lay.next := some n' }.lawView = { s.lawView with lay.next := some n'.bare } := rfl
  have hsame : s.lawView.lay.next = some n.bare := by show s.lay.next.map NextItem.bare = _; rw [hnext]; rfl
  rw [hview, hbare, ← hsame]

theorem seamOnNext_effects {a b : Word} (h : Effects o s) : Effects o (seamOnNext a b s) := by
  unfold seamOnNext
  split
  · next n hnext =>
    split
    · split
      · exact h.silently (NextItem.lawView_of_bare hnext (by simp [NextItem.bare, Item.bare_markUsed])) rfl
      · next p hitem =>
        have hnext' : s.lay.next = some ⟨.panel p, n.flatStart⟩ := by rw [hnext, ← hitem]
        exact commitRule_effects (h.reform (.returnNext p n.flatStart hnext') rfl .refl)
    · exact h
  · exact h

theorem takeSeamAtHead_effects {m : SeamMsg} (h : Effects o s) : Effects o (takeSeamAtHead m s) :=
  settle_effects (seamOnNext_effects (seamOnLaying_effects (settle_effects (enterSeam_effects h))))

theorem serveSlot_effects {sender : Station} {r : RequestIn} (hserves : s.serves .seamSlot sender r) (h : Effects o s) :
    Effects o (serveSlot sender r.id r.body s) := by
  unfold serveSlot
  split
  · next length margin hbody =>
    rw [hbody]
    split
    · next hnext =>
      exact answer_effects (settle_effects (by unfold commitSlot; exact commitAt_gap_effects hnext h))
    · obtain ⟨-, -, hrole, hallowed, hfree⟩ := hserves
      exact delay_effects (.inl ⟨hrole, rfl, by simpa [State.allowed] using hallowed⟩) (hfree rfl) h
  · exact h

theorem placeOrder_effects {first count slot grade : Nat} (hok : orderRefusal s first count slot grade = none) (hslot : slot < 16)
    (h : Effects o s) : Effects o (placeOrder first count slot grade s) :=
  settle_effects (commitRule_effects (h.then (.order first count slot grade hok hslot)))

theorem slotNumber_lt (p : Byte) : slotNumber p < 16 := Nat.mod_lt _ (by decide)

theorem serveOrder_effects {sender : Station} {id : Byte} {b : ReqBody} (h : Effects o s) :
    Effects o (serveOrder sender id b s) := by
  unfold serveOrder
  split
  · split
    · exact answer_effects h
    · next hok => exact answer_effects (placeOrder_effects hok (slotNumber_lt _) h)
  · exact h

theorem serveCancel_effects {sender : Station} {id : Byte} {b : ReqBody} (h : Effects o s) :
    Effects o (serveCancel sender id b s) := by
  unfold serveCancel
  split
  · exact answer_effects (h.then (.cancel _ _))
  · exact h

theorem withdrawSlot_effects {n : Station} {id : Byte} (h : Effects o s) : Effects o (withdrawSlot n id s) := by
  unfold withdrawSlot
  split
  · next x hnext =>
    split
    · next hplanned =>
      obtain ⟨item, w⟩ := x
      cases item with
      | gap g => exact commitRule_effects (h.reform (.withdrawGap g w hnext) rfl .refl)
      | panel p => simp [NextItem.isPlanned] at hplanned
    · exact h
  · exact h

/-! ## The Pattern Store -/

/-- A slot a request leaves keeps its in-use count, and a READY slot in use stays as it is (R89, R90, R95). -/
def Slot.keeps (sl sl' : Slot) : Prop := sl'.inUse = sl.inUse ∧ (0 < sl.inUse → sl.state = .ready → sl' = sl)

theorem Slot.load_inUse (sl : Slot) (i : Nat) (r1 : StepRec) (r2 : Option StepRec) : (sl.load i r1 r2).inUse = sl.inUse := by
  cases r2 <;> rfl

/-- A slot that is not locked is in no use or not READY, so that requests may change all but its in-use count. -/
theorem Slot.keeps_of_unlocked {sl sl' : Slot} (hlocked : ¬sl.locked = true) (huse : sl'.inUse = sl.inUse) : sl.keeps sl' :=
  ⟨huse, fun hinUse hready => by simp [Slot.locked, hinUse, hready] at hlocked⟩

theorem Slot.keeps_refl (sl : Slot) : sl.keeps sl := ⟨rfl, fun _ _ => rfl⟩

theorem Slot.block_keeps (sl : Slot) (i : Nat) (r1 : StepRec) (r2 : Option StepRec) : sl.keeps (sl.block i r1 r2).2 := by
  unfold Slot.block
  split
  · exact sl.keeps_refl
  · next hlocked =>
    generalize (if r2.isSome then 1 else 0) = k
    split
    · exact sl.keeps_refl
    · exact keeps_of_unlocked hlocked (sl.load_inUse i r1 r2)

theorem Slot.commit_keeps (sl : Slot) (count : Nat) : sl.keeps (sl.commit count).2 := by
  unfold Slot.commit
  split
  · exact sl.keeps_refl
  · next hlocked =>
    split
    · exact sl.keeps_refl
    · exact keeps_of_unlocked hlocked rfl

theorem Slot.clear_keeps (sl : Slot) : sl.keeps sl.clear.2 := by
  unfold Slot.clear
  split_ifs with huse
  · exact ⟨huse.symm, fun h => by omega⟩
  · exact sl.keeps_refl

theorem putSlot_effects {n : Nat} {sl : Slot} (hn : n < 16) (hkeeps : (s.slot n).keeps sl) (h : Effects o s) :
    Effects o (putSlot n sl s) := by
  obtain ⟨huse, hready⟩ := hkeeps
  exact h.then (.store n sl hn huse hready)

theorem serveBlock_effects {sender : Station} {id : Byte} {b : ReqBody} (h : Effects o s) :
    Effects o (serveBlock sender id b s) := by
  unfold serveBlock
  split
  · exact answer_effects (putSlot_effects (slotNumber_lt _) (Slot.block_keeps ..) h)
  · exact h

theorem serveCommit_effects {sender : Station} {id : Byte} {b : ReqBody} (h : Effects o s) :
    Effects o (serveCommit sender id b s) := by
  unfold serveCommit
  split
  · exact answer_effects (putSlot_effects (slotNumber_lt _) (Slot.commit_keeps ..) h)
  · exact h

theorem serveClear_effects {sender : Station} {id : Byte} {b : ReqBody} (h : Effects o s) :
    Effects o (serveClear sender id b s) := by
  unfold serveClear
  split
  · exact answer_effects (putSlot_effects (slotNumber_lt _) (Slot.clear_keeps _) h)
  · exact h

/-! ## The Map Unit -/

theorem Span.takeSeam_bare (sp : Span) : sp.takeSeam.bare = sp.bare := by
  obtain ⟨kind, start, length, received, own, endSeen, phase⟩ := sp
  cases kind <;> rfl

theorem Span.bare_start (sp : Span) : sp.bare.start = sp.start := rfl

theorem Span.bare_isPanel (sp : Span) (id : Half) : sp.bare.isPanel id = sp.isPanel id := by
  obtain ⟨kind, start, length, received, own, endSeen, phase⟩ := sp
  cases kind <;> rfl

theorem newSpan_bare (s : State) (m : PassStartIn) (k : SpanKind) : (newSpan s m k).bare =
    ⟨k.bare, m.start, 0, PanelFlags.none, PanelFlags.none, false, .approaching⟩ := by
  unfold newSpan
  simp only
  split
  · rw [Span.takeSeam_bare]; rfl
  · rfl

/-- A kind whose panel id no span of the map has. -/
theorem duplicates_eq_false {k : SpanKind} {sp : Span} (h : duplicates s k = false) (hsp : sp.bare.kind = k.bare) :
    ∀ x ∈ s.map.spans, ∀ id, ¬(x.isPanel id = true ∧ sp.isPanel id = true) := by
  intro x hx id ⟨hxid, hid⟩
  rw [← Span.bare_isPanel, Span.isPanel, hsp] at hid
  cases k with
  | panel i slot grade =>
    obtain rfl : i = id := by simpa [SpanKind.bare] using hid
    simp [duplicates] at h
    simp [h x hx] at hxid
  | gap e u => exact nomatch hid
  | seam e => exact nomatch hid

theorem startTaken_eq_false {w : Word} (h : startTaken s w = false) : ∀ x ∈ s.map.spans, x.start ≠ w := by
  simpa [startTaken] using h

/-- A span is mapped, and what it has already reached fires (R157, R158). -/
theorem mapSpan_does {sp : Span} {l : List Span} (hl : l.map Span.bare = s.map.spans.map Span.bare) (hroom : mapRoom s = true)
    (hstart : startTaken s sp.start = false) (hid : ∀ x ∈ s.map.spans, ∀ id, ¬(x.isPanel id = true ∧ sp.isPanel id = true))
    (h : Effects o s) : Does o (settle (mapSpan sp { s with map.spans := l })) :=
  .maps h (.mk sp l hl (by simpa [mapRoom] using hroom) (startTaken_eq_false hstart) hid)
    (settle_effects ((Effects.refl _).silently (setWatch_lawView _ _) rfl))

theorem takePassStart_does {m : PassStartIn} (h : Effects o s) : Does o (takePassStart m s) := by
  unfold takePassStart
  split
  · exact .effects h
  · next k _ =>
    split
    · exact .effects h
    · next hpass =>
      obtain ⟨⟨-, hdup⟩, hstart⟩ : ((_ ∧ _) ∧ duplicates s k = false) ∧ startTaken s m.start = false := by
        simpa only [Bool.or_eq_true, not_or, Bool.not_eq_true, Bool.not_eq_true'] using hpass
      split
      · next hroom =>
        have hbare := newSpan_bare s m k
        refine mapSpan_does (l := s.map.spans) rfl hroom ?_ (duplicates_eq_false hdup (by rw [hbare])) h
        rw [← Span.bare_start, hbare]
        exact hstart
      · exact .effects (recordFault_effects h)

theorem takePassEnd_effects {m : PassEndIn} (h : Effects o s) : Effects o (takePassEnd m s) := by
  unfold takePassEnd
  split
  · next i _ =>
    have hmerge : ∀ sp, (Span.merge m.flags sp).bare = sp.bare := by
      intro sp
      obtain ⟨kind, start, length, received, own, endSeen, phase⟩ := sp
      cases kind <;> rfl
    exact spans_effects (map_modifyAt_of_eq hmerge i _) h
  · exact h

theorem forwardSeam_effects {m : SeamMsg} {unplaced : Bool} (h : Effects o s) : Effects o (forwardSeam m unplaced s) :=
  postLasting_effects rfl h

theorem placeSeam_does {m : SeamMsg} (hroom : mapRoom s = true) (hstart : startTaken s m.pos = false) (h : Effects o s) :
    Does o (placeSeam m s) := by
  unfold placeSeam
  refine mapSpan_does ?_ hroom hstart (fun x _ id hboth => nomatch hboth.2) h
  rw [List.map_map]
  refine List.map_congr_left fun x _ => ?_
  simp only [Function.comp_apply]
  split
  · exact x.takeSeam_bare
  · rfl

theorem takeSeamAtSetter_does {m : SeamMsg} (h : Effects o s) : Does o (takeSeamAtSetter m s) := by
  unfold takeSeamAtSetter
  split_ifs with hunplaced hgone htaken hroom
  · exact .effects (forwardSeam_effects h)
  · exact .effects (forwardSeam_effects h)
  · exact .effects (forwardSeam_effects h)
  · exact placeSeam_does hroom (by simpa using htaken) h
  · exact .effects (recordFault_effects (forwardSeam_effects h))

/-! ## The Message Unit's own commands -/

theorem finalAnswer_effects {p : PendingReq} {out : Outcome} (h : Effects o s) : Effects o (finalAnswer p out s) :=
  giveOutcome_effects (closeRequest_effects p h)

theorem repeatRequest_effects {p : PendingReq} (hp : p ∈ s.msg.pendings) (hlimit : p.attempts < s.conf.attemptLimit)
    (h : Effects o s) : Effects o (repeatRequest p s) :=
  (h.edit (.again p hp hlimit)).edit (.ask _ _ rfl)

theorem giveUp_effects {p : PendingReq} (h : Effects o s) : Effects o (giveUp p s) :=
  recordFault_effects (giveOutcome_effects (closeRequest_effects p h))

/-! ## The Supply Unit's commands -/

theorem serveLoad_effects {sender : Station} {r : RequestIn} (hserves : s.serves .rollLoad sender r) (h : Effects o s) :
    Effects o (serveLoad sender r.id r.body s) := by
  unfold serveLoad
  split
  · next hbody =>
    split
    · exact answer_effects h
    · rw [hbody]
      obtain ⟨-, -, hrole, hallowed, hfree⟩ := hserves
      exact handRollState_effects (onArm_effects (nomatch ·)
        (delay_effects (.inr ⟨hrole, rfl, by simpa [State.allowed] using hallowed⟩) (hfree rfl) h))
  · exact h

theorem takeFestoon_effects {r : SensorReport} (h : Effects o s) : Effects o (takeFestoon r s) := by
  unfold takeFestoon
  split
  · exact goodFestoon_effects (h.silently rfl rfl)
  · exact festoonDoubt_effects (h.silently rfl rfl)

/-- Behind a fired press the station is RUNNING, so that no STOPPING ends (R10, R139). -/
theorem Fires.stn (h : Fires s t) : t.stn = .running :=
  (show t.lawView.stn = s.stn by rw [h.view]; rfl).trans h.running

theorem stoppingEnd_of_running (h : s.stn = .running) : stoppingEnd s = s := by simp [stoppingEnd, h]

/-! ## The Setting Unit's commands -/

theorem modifyAt_modifyAt {α : Type} (f g : α → α) (i : Nat) (l : List α) :
    modifyAt f i (modifyAt g i l) = modifyAt (fun x => f (g x)) i l := by
  induction l generalizing i with
  | nil => rw [modifyAt_nil, modifyAt_nil, modifyAt_nil]
  | cons x l ih =>
    cases i with
    | zero => rfl
    | succ i => simp [modifyAt, ih]

theorem coldState_eq_false {x : StationState} (hlive : x.live = true) (hhalt : x ≠ .halted) : x.coldState = false := by
  cases x <;> simp_all [StationState.live, StationState.coldState]

theorem goodZone_effects {zone : Nat} {v : Int} (hrole : s.isRole .setter = true) (h : Effects o s) : Effects o (goodZone zone v s) := by
  unfold goodZone
  split
  · exact reformChest_onZone_effects (Zone.lawful_read v) (tripLimit_effects hrole h)
  · unfold controlStep
    split
    · exact reformChest_onZone_effects (Zone.lawful_read v) h
    · next hhalted =>
      have hhalt : s.stn ≠ .halted := hhalted
      have hcold : s.stn.coldState = false := by
        obtain ⟨hlive, -⟩ : s.live = true ∧ _ := by simpa [State.isRole] using hrole
        unfold State.live at hlive
        exact coldState_eq_false hlive hhalt
      have htwice : onZone zone (fun z => if z.inUse then z.control (onZone zone (Zone.read v) s).conf v else z)
          (onZone zone (Zone.read v) s) = onZone zone (fun z => if (z.read v).inUse then (z.read v).control s.conf v else z.read v) s := by
        simp only [onZone, modifyAt_modifyAt]
        rfl
      rw [htwice]
      refine reformChest_onZone_effects (fun z hz => ?_) h
      split
      · next huse => exact Zone.lawful_control huse rfl hcold hhalt
      · exact Zone.lawful_read v z hz

theorem takeZone_effects {r : SensorReport} (hzone : s.isZone r.channel.toNat = true) (h : Effects o s) : Effects o (takeZone r s) := by
  have hfresh : Effects o (freshReport r.channel.toNat s) := h.silently rfl rfl
  obtain ⟨hrole, -⟩ : s.isRole .setter = true ∧ _ := by simpa [State.isZone] using hzone
  unfold takeZone
  simp only
  split
  · exact goodZone_effects hrole hfresh
  · exact reformChest_onZone_effects Zone.lawful_doubt hfresh

theorem serveSetpoint_effects {sender : Station} {id : Byte} {b : ReqBody} (h : Effects o s) :
    Effects o (serveSetpoint sender id b s) := by
  unfold serveSetpoint
  split
  · split
    · exact answer_effects h
    · simp only
      refine answer_effects ?_
      split
      · exact h
      · exact reformChest_onZone_effects (Zone.lawful_setTo _) h
  · exact h

/-- A zone loses its sensor and the fault is recorded (R147). -/
theorem loseZone_effects {zone d : Nat} (h : Effects o s) :
    Effects o (reformChest (recordFault .sensorLost d (onZone zone Zone.lose s))) := by
  have hlost := h.then (.zones (modifyAt Zone.lose zone s.set.zones) (fun e => by rw [e, modifyAt_nil])
    (lawful_modifyAt fun z _ => Zone.lawful_lose z))
  have hview : (reformVent (recordFault .sensorLost d (onZone zone Zone.lose s))).lawView = (onZone zone Zone.lose s).lawView := by
    rw [reformVent_lawView, recordFault_lawView]
  exact hlost.quietly (reformOwn_lawView_congr hview) (reformOwn_hands (recordFault_hands .refl))

theorem becomesStale_effects {channel : Nat} (h : Effects o s) : Effects o (becomesStale channel s) := by
  unfold becomesStale
  split_ifs
  · exact festoonDoubt_effects h
  · exact reformChest_onZone_effects Zone.lawful_doubt h
  · exact h

/-! ## Every command -/

theorem supplyTimer_does (s : State) :
    Does s (stoppingEnd (pressCheck (formUnwind (evalSplice { s with sup.supplyTimer := some Config.tenMs })))) := by
  have hformed : Effects s (formUnwind (evalSplice { s with sup.supplyTimer := some Config.tenMs })) :=
    formUnwind_effects (evalSplice_effects ((Effects.refl s).silently rfl rfl))
  rcases pressCheck_does hformed with heffects | hfires
  · exact .effects (stoppingEnd_effects heffects)
  · rw [stoppingEnd_of_running hfires.stn]
    exact .fires hformed hfires

theorem speedTimer_does (s : State) :
    Does s (if s.pos.speedTimer.isSome then
      let t := { s with
        pos.measured := speedNow s
        pos.prev := s.pos.ch0.lu
        pos.speedTimer := some Config.tenMs
        map.spans := s.map.spans.map (Span.speedTick s.stn (speedNow s)) }
      if t.isRole .supply = true ∧ s.pos.measured ≠ 0 then pressCheck t else t
    else s) := by
  have hmeasured := respan_effects (Span.speedTick_bare s.stn (speedNow s)) ((Effects.refl s).then (.measure _ (speedNow_le s)))
  have htimed : Effects s { s with
      pos.measured := speedNow s
      pos.prev := s.pos.ch0.lu
      pos.speedTimer := some Config.tenMs
      map.spans := s.map.spans.map (Span.speedTick s.stn (speedNow s)) } := hmeasured.silently rfl rfl
  split
  · simp only
    split
    · rcases pressCheck_does htimed with heffects | hfires
      · exact .effects heffects
      · exact .fires htimed hfires
    · exact .effects htimed
  · exact .effects (.refl s)

/-- Every command is a chain of effects, with a span mapped on the way or the press fired at its end. -/
theorem exec_does {c : Instr} (h : exec c s = .next t) : Does s t := by
  have hr : Effects s s := .refl s
  cases c with
  | powerOn => cases h; exact .effects (hr.then .power)
  | configurationReadComplete record levels0 levels1 =>
    cases h
    refine .effects ?_
    split
    · next hconfig =>
      split
      · next hvalid => exact endConfig_effects ⟨_, by simp, hvalid, rfl⟩ hr
      · exact enterConfigFault_effects hconfig.1 hr
    · exact hr
  | configurationTimerExpiry =>
    cases h
    refine .effects ?_
    split
    · next hconfig => exact enterConfigFault_effects hconfig.1 hr
    · exact hr
  | configFaultRepeatTimerExpiry =>
    cases h
    refine .effects ?_
    split
    · simp only
      split
      · split
        · exact hr.silently rfl rfl
        · exact postLasting_effects rfl (hr.silently rfl rfl)
      · exact hr.silently rfl rfl
    · exact hr
  | restart rise =>
    cases h
    have hpins : Effects s { samplePins rise.others s with
        port.restartIn := levelAfter (samplePins rise.others s).port.restartIn rise } := (samplePins_effects hr).silently rfl rfl
    refine .effects ?_
    simp only
    split
    · next hrise => exact restartStation_effects hrise.1 hpins
    · exact hpins
  | eStopBecomesActive n =>
    cases h
    refine .effects ?_
    split
    · exact localCause_effects (hr.silently rfl rfl)
    · exact hr
  | eStopBecomesInactive n =>
    cases h
    refine .effects ?_
    split
    · exact haltedExit_effects (hr.silently rfl rfl)
    · exact hr
  | webBreakBecomesActive n =>
    cases h
    refine .effects ?_
    split
    · exact localCause_effects (hr.silently rfl rfl)
    · exact hr
  | webBreakBecomesInactive n =>
    cases h
    refine .effects ?_
    split
    · exact haltedExit_effects (hr.silently rfl rfl)
    · exact hr
  | lineStopPatternEnd n =>
    cases h
    refine .effects ?_
    split
    · exact hr.silently rfl rfl
    · exact hr
  | stopHeard n =>
    cases h
    refine .effects ?_
    split
    · simp only
      split
      · exact (noteEdge_effects hr).silently rfl rfl
      · split
        · next hlive => exact haltHeard_effects hlive (noteEdge_effects hr)
        · exact noteEdge_effects hr
    · exact hr
  | quietTimerExpiry =>
    cases h
    refine .effects ?_
    split
    · exact haltedExit_effects (hr.silently rfl rfl)
    · exact hr
  | runState sender p =>
    cases h
    refine receive_effects fun _ u hu => ?_
    split
    · exact takeRunState_effects hu
    · exact hu
  | consoleSilenceTimerExpiry =>
    cases h
    refine .effects ?_
    split
    · exact silence_effects (hr.silently rfl rfl)
    · exact hr
  | neighbourSilenceTimerExpiry =>
    cases h
    refine .effects ?_
    split
    · exact neighbourLost_effects (silence_effects (hr.silently rfl rfl))
    · exact hr
  | frameStart =>
    cases h
    refine .effects ?_
    split
    · exact noteEdge_effects hr
    · exact hr
  | transmitStart =>
    cases h
    refine .effects ?_
    split
    · split
      · split
        · exact startFrame_effects hr
        · exact hr
      · exact hr
    · exact hr
  | frameWithdrawn bit =>
    cases h
    refine .effects ?_
    split
    · exact (land_effects hr).silently rfl rfl
    · exact hr
  | frameCancelled bit =>
    cases h
    refine .effects ?_
    split
    · exact cancelFlying_effects (stopDriving_effects hr)
    · exact hr
  | frameComplete =>
    cases h
    refine .effects ?_
    split
    · exact completeFlying_effects (stopDriving_effects hr)
    · exact hr
  | brokenFrame chars =>
    cases h
    refine .effects ?_
    split
    · exact hr
    · split
      · exact countBroken_effects (dropLatch_effects hr)
      · exact dropLatch_effects hr
  | position sender p =>
    cases h
    refine receive_effects fun _ u hu => ?_
    split
    · exact hearNeighbour_effects (takePosition_effects hu)
    · exact hu
  | ceiling sender p =>
    cases h
    refine receive_effects fun _ u hu => ?_
    split
    · exact writeEntry_effects hu
    · exact hu
  | lapseTimerExpiry n =>
    cases h
    refine .effects ?_
    split
    · exact writeEntry_effects hr
    · exact hr
  | panelPassStart sender p =>
    cases h
    refine receive_does fun _ => ?_
    split
    · exact takePassStart_does (dropLatch_effects hr)
    · exact .effects (dropLatch_effects hr)
  | panelPassEnd sender p =>
    cases h
    refine receive_effects fun _ u hu => ?_
    split
    · exact takePassEnd_effects hu
    · exact hu
  | seamAtHead sender p =>
    cases h
    refine receive_effects fun _ u hu => ?_
    split
    · exact takeSeamAtHead_effects hu
    · exact hu
  | seamAtSetter sender p =>
    cases h
    refine receive_does fun _ => ?_
    split
    · exact takeSeamAtSetter_does (dropLatch_effects hr)
    · exact .effects (dropLatch_effects hr)
  | seamSlot sender p => cases h; exact receiveRequest_does fun r u hserves hu => serveSlot_effects hserves hu
  | panelOrder sender p => cases h; exact receiveRequest_does fun _ _ _ hu => serveOrder_effects hu
  | orderCancel sender p => cases h; exact receiveRequest_does fun _ _ _ hu => serveCancel_effects hu
  | patternBlock sender p => cases h; exact receiveRequest_does fun _ _ _ hu => serveBlock_effects hu
  | patternCommit sender p => cases h; exact receiveRequest_does fun _ _ _ hu => serveCommit_effects hu
  | patternClear sender p => cases h; exact receiveRequest_does fun _ _ _ hu => serveClear_effects hu
  | rollLoad sender p => cases h; exact receiveRequest_does fun r u hserves hu => serveLoad_effects hserves hu
  | setpoint sender p => cases h; exact receiveRequest_does fun _ _ _ hu => serveSetpoint_effects hu
  | answerWait sender p => cases h; exact receiveAnswer_does fun _ _ _ hu => hu.edit (.wait _)
  | answerBusy sender p => cases h; exact receiveAnswer_does fun _ _ _ hu => hu
  | answerDone sender p => cases h; exact receiveAnswer_does fun _ _ _ hu => finalAnswer_effects hu
  | answerRefused sender p => cases h; exact receiveAnswer_does fun _ _ _ hu => finalAnswer_effects hu
  | repeatTimerExpiry entry =>
    cases h
    refine .effects ?_
    split
    · exact hr
    · next q hfind =>
      split
      · next hlimit => exact repeatRequest_effects (List.mem_of_find?_eq_some hfind) hlimit hr
      · exact giveUp_effects hr
  | holdTimerExpiry requester id =>
    cases h
    refine .effects ?_
    split
    · exact hr
    · split
      · have hdropped : Effects s { s with msg := s.msg.dropDelayed requester id } := hr.edit (.undelay _)
        simp only
        split
        · exact settle_effects (withdrawSlot_effects hdropped)
        · exact hdropped
      · exact hr
  | encoderCount ch line n =>
    cases h
    refine .effects ?_
    split
    · simp only
      split
      · exact takeCount_effects hr
      · exact positionChanged_effects (takeCount_effects hr)
    · exact hr
  | bothAcceptedLevelsChange ch n =>
    cases h
    refine .effects ?_
    split
    · split
      · exact hr.silently rfl rfl
      · exact hr.silently rfl rfl
    · exact hr
  | speedTimerExpiry => cases h; exact speedTimer_does s
  | keepAliveTimerExpiry =>
    cases h
    refine .effects ?_
    split
    · exact handPosition_effects hr
    · exact hr
  | rampTimerExpiry =>
    cases h
    refine .effects ?_
    split
    · simp only
      split
      · split
        · exact hr.silently rfl rfl
        · exact hr.silently rfl rfl
      · exact stoppingEnd_effects (hr.silently rfl rfl)
    · exact hr
  | postingTimerExpiry =>
    cases h
    refine .effects ?_
    split
    · exact handCeiling_effects hr
    · exact hr
  | feedTimerExpiry =>
    cases h
    refine .effects ?_
    split
    · exact (hr.then (.feed _)).silently rfl rfl
    · exact hr
  | bladeHomeBecomesActive rise =>
    cases h
    refine .effects ?_
    simp only
    split
    · split
      · exact (samplePins_effects hr).silently rfl rfl
      · exact (samplePins_effects hr).silently rfl rfl
    · exact samplePins_effects hr
  | bladeHomeTimerExpiry =>
    cases h
    refine .effects ?_
    split
    · simp only
      split
      · exact localCause_effects (hr.silently rfl rfl)
      · exact hr.silently rfl rfl
    · exact hr
  | strokePulseEnd side =>
    cases h
    refine .effects ?_
    split
    · exact hr.silently rfl rfl
    · exact hr.silently rfl rfl
  | supplyTimerExpiry =>
    cases h
    split
    · exact supplyTimer_does s
    · exact .effects hr
  | pressDone rise =>
    cases h
    refine .effects ?_
    simp only
    split
    · split
      · exact completeSplice_effects ((samplePins_effects hr).silently rfl rfl)
      · exact (samplePins_effects hr).silently rfl rfl
    · exact samplePins_effects hr
  | pressTimerExpiry =>
    cases h
    refine .effects ?_
    split
    · exact localCause_effects ((hr.then .pressOff).silently rfl rfl)
    · exact hr
  | armReadyBecomesActive n rise =>
    cases h
    refine .effects ?_
    simp only
    split
    · split
      · exact completeLoad_effects (threadArm_effects ((samplePins_effects hr).silently rfl rfl))
      · exact (samplePins_effects hr).silently rfl rfl
    · exact samplePins_effects hr
  | threadingTimerExpiry n =>
    cases h
    refine .effects ?_
    split
    · exact completeLoad_effects (handRollState_effects (onArm_effects (by exact (nomatch ·)) hr))
    · exact hr
  | festoonReading burst =>
    cases h
    refine .effects ?_
    simp only
    split
    · split
      · exact takeFestoon_effects (hr.silently rfl rfl)
      · exact hr.silently rfl rfl
    · exact hr.silently rfl rfl
  | festoonHoldTimerExpiry =>
    cases h
    refine .effects ?_
    split
    · exact stopCause_effects (recordFault_effects (setFestoon_effects (hr.silently rfl rfl)))
    · exact hr
  | rollStateTimerExpiry =>
    cases h
    refine .effects ?_
    split
    · exact handRollState_effects hr
    · exact hr
  | zoneReport burst =>
    cases h
    refine .effects ?_
    simp only
    split
    · split
      · next hzone => exact takeZone_effects hzone (hr.silently rfl rfl)
      · exact hr.silently rfl rfl
    · exact hr.silently rfl rfl
  | zoneHoldTimerExpiry zone =>
    cases h
    refine .effects ?_
    split
    · split
      · exact loseZone_effects hr
      · exact hr
    · exact hr
  | sampleTimerExpiry =>
    cases h
    refine .effects ?_
    split
    · exact (respan_effects (Span.sampleTick_bare (coldest s)) hr).silently rfl rfl
    · exact hr
  | stalenessTimerExpiry channel =>
    cases h
    refine .effects ?_
    split
    · exact becomesStale_effects (hr.silently rfl rfl)
    · exact hr
  | sensorReportDropped burst => cases h; exact .effects (hr.silently rfl rfl)
  | busIdle n =>
    cases h
    refine .effects ?_
    split
    · exact hr.silently rfl rfl
    · exact hr
  | pwmPeriodStart => cases h; exact .effects (hr.silently rfl rfl)

/-- Every step is a command on the state with the queue's rest, or an idle step, which no law sees. -/
theorem step_does (h : step s = .next t) : ∃ u : State, u.lawView = s.lawView ∧ u.msg = s.msg ∧ Does u t := by
  cases hpending : s.pending with
  | nil =>
    rw [step_of_idle hpending] at h
    cases h
    refine ⟨idle s, ?_, ?_, .effects (.refl _)⟩
    · unfold idle; split <;> rfl
    · unfold idle; split <;> rfl
  | cons c rest =>
    rw [step_of_pending hpending] at h
    exact ⟨{ s with pending := rest }, rfl, rfl, exec_does h⟩

end

end Sys2Proof.Machine
end

section
/-! PROOFS. O5 and O8: what every effect keeps every step keeps (`step_keeps`); the outbound queue (Law 8), the arms and the press
(Law 5). -/

namespace Sys2Proof.Machine

section
variable {s t : State}

/-! ## From effects to steps -/

theorem Effects.keeps {P : State → Prop} (heffect : ∀ {u v}, Effect u v → P u → P v) (h : Effects s t) (hs : P s) : P t := by
  induction h with
  | refl => exact hs
  | tail _ e ih => exact heffect e ih

theorem Does.keeps {P : State → Prop} (heffect : ∀ {u v}, Effect u v → P u → P v) (hmaps : ∀ {u v}, Maps u v → P u → P v)
    (hfires : ∀ {u v}, Fires u v → P u → P v) (h : Does s t) (hs : P s) : P t := by
  cases h with
  | effects hst => exact hst.keeps heffect hs
  | maps hsu huv hvt => exact hvt.keeps heffect (hmaps huv (hsu.keeps heffect hs))
  | fires hsu hut => exact hfires hut (hsu.keeps heffect hs)

/-- What every effect, the mapping of a span and the firing of the press keep, every step keeps. -/
theorem step_keeps {P : State → Prop} (heffect : ∀ {u v}, Effect u v → P u → P v) (hmaps : ∀ {u v}, Maps u v → P u → P v)
    (hfires : ∀ {u v}, Fires u v → P u → P v) (h : step s = .next t) (hs : P s) : P t := by
  obtain ⟨u, hview, hmsg, hdoes⟩ := step_does h
  exact hdoes.keeps heffect hmaps hfires (heffect (.quiet u hview (hmsg ▸ .refl)) hs)

/-! ## O5: the outbound queue (R38, R39) -/

theorem queueLawful_of_perm {m m' : Msg} (h : m.queueLawful) (hq : (m'.queue.map (·.frame)).Perm (m.queue.map (·.frame)))
    (hp : m'.heldPosition = m.heldPosition) (hc : m'.heldCeiling = m.heldCeiling) (hr : m'.heldRollState = m.heldRollState) :
    m'.queueLawful := by
  have hcount : ∀ (m : Msg) k, m.countKind k = (m.queue.map (·.frame)).countP (fun f => f.kind == k) := by
    intro m k; simp only [Msg.countKind, List.countP_map]; rfl
  have hsame : ∀ k, m'.countKind k = m.countKind k := fun k => by rw [hcount, hq.countP_eq, ← hcount]
  have hlength : m'.queue.length = m.queue.length := by simpa using hq.length_eq
  unfold Msg.queueLawful
  rw [hlength, hsame, hsame, hsame, hp, hc, hr]
  exact h

theorem countPass_frame (m : Msg) (e : QEntry) : m.countPass e = { m with passCount := (m.countPass e).passCount } := by
  unfold Msg.countPass; split <;> rfl

theorem completeAt_lawful {m : Msg} {i : Nat} {e : QEntry} (hget : m.queue[i]? = some e) (h : m.queueLawful) :
    (m.completeAt i e).queueLawful := by
  unfold Msg.completeAt
  split
  · refine queueLawful_of_perm h ?_ rfl rfl rfl
    obtain ⟨hlt, rfl⟩ := List.getElem?_eq_some_iff.mp hget
    have hmoved : (m.queue.eraseIdx i ++ [m.queue[i]]).Perm m.queue :=
      (List.perm_append_singleton _ _).trans (List.getElem_cons_eraseIdx_perm hlt)
    simpa using hmoved.map (·.frame)
  · exact free_lawful i h

theorem MsgEdit.lawful {m : Msg} (e : MsgEdit s m) (h : s.msg.queueLawful) : m.queueLawful := by
  cases e with
  | still _ hsame =>
    obtain ⟨hq, hp, hc, hr, -⟩ := hsame
    exact queueLawful_of_frames h hq hp hc hr
  | ask f u hf => exact handAsk_lawful u hf h
  | interim a => exact handInterim_lawful a h
  | free i => exact free_lawful i h
  | complete i e hget =>
    rw [countPass_frame]
    exact completeAt_lawful hget (queueLawful_of_eq h rfl rfl rfl rfl)
  | _ => exact queueLawful_of_eq h rfl rfl rfl rfl

theorem reset_queueLawful : Msg.reset.queueLawful := by unfold Msg.queueLawful; decide

theorem Effect.keeps_queueLawful (e : Effect s t) (h : s.msg.queueLawful) : t.msg.queueLawful := by
  cases e with
  | quiet _ _ hhands => exact hhands.lawful h
  | message _ edit => exact edit.lawful h
  | power => exact reset_queueLawful
  | start => exact reset_queueLawful
  | halt => rw [haltRole_msg]; exact h
  | cancel => rw [cancelOrder_eq]; exact h
  | table tb =>
    have hhands : s.msg.Hands (reformInfeed { s with spd.table := tb }).msg := by
      unfold reformInfeed
      split
      · exact reformOwn_hands .refl
      · exact .refl
    exact hhands.lawful h
  | _ => exact h

/-- Settles O5: every change of the queue, by a notice, a request, an answer, a start or an end of a frame, keeps it. -/
theorem stepKeepsQueueLaw : Obligations.StepKeepsQueueLaw := by
  unfold Obligations.StepKeepsQueueLaw
  intro s t
  refine step_keeps (P := fun s => s.msg.queueLawful) Effect.keeps_queueLawful ?_ ?_
  · rintro _ _ ⟨⟩ h; exact h
  · intro _ _ hfires h; rw [hfires.msg]; exact h

/-! ## O8: the arms and the press (R127, R139) -/

theorem armsLawful_lawView (s : State) : s.lawView.armsLawful ↔ s.armsLawful := Iff.rfl

/-- Re-forming the own ceiling writes the Speed Unit and hands a notice. -/
theorem reformOwn_eq (s : State) : reformOwn s = { s with spd := (reformOwn s).spd, msg := (reformOwn s).msg } := by
  unfold reformOwn
  simp only
  split <;> rfl

/-- Re-forming the infeed limit writes the limit, the infeed reference, and what the own ceiling's re-forming writes. -/
theorem reformInfeed_eq (s : State) : reformInfeed s = { s with
    lay.infeedLimit := (reformInfeed s).lay.infeedLimit
    lay.infeedRef := (reformInfeed s).lay.infeedRef
    spd := (reformInfeed s).spd
    msg := (reformInfeed s).msg } := by
  unfold reformInfeed
  split
  · rw [reformOwn_eq]
  · rfl

theorem haltRole_sup (s : State) : (haltRole s).lawView.sup = s.lawView.sup := by
  rw [haltRole_lawView]; split <;> rfl

theorem Effect.keeps_armsLawful (e : Effect s t) (h : s.armsLawful) : t.armsLawful := by
  obtain ⟨harms, hpress⟩ := h
  cases e with
  | quiet _ hview => rw [← armsLawful_lawView, hview]; exact ⟨harms, hpress⟩
  | power => exact ⟨(fun h => nomatch h.1), (fun h => nomatch h)⟩
  | start => exact ⟨(fun h => nomatch h.1), (fun h => nomatch h)⟩
  | halt =>
    rw [← armsLawful_lawView]
    unfold State.armsLawful
    rw [haltRole_sup]
    exact ⟨harms, hpress⟩
  | cancel => rw [cancelOrder_eq]; exact ⟨harms, hpress⟩
  | table => rw [reformInfeed_eq]; exact ⟨harms, hpress⟩
  | arms a b hab => exact ⟨hab harms, hpress⟩
  | splice x hsafe => exact ⟨harms, fun hfire => by
      rcases hsafe with hne | hoff
      · exact absurd (hpress hfire) hne
      · have hon : s.sup.pressFire = true := hfire
        simp [hoff] at hon⟩
  | pressOff => exact ⟨harms, (fun h => nomatch h)⟩
  | _ => exact ⟨harms, hpress⟩

/-- No effect but the firing turns the press on. -/
theorem Effect.keeps_press_off (e : Effect s t) (h : s.sup.pressFire = false) : t.sup.pressFire = false := by
  cases e with
  | quiet _ hview => exact (congrArg (fun u => u.sup.pressFire) hview).trans h
  | power => rfl
  | start => rfl
  | halt => exact (congrArg (fun u => u.pressFire) (haltRole_sup { s with stn := .halted })).trans h
  | cancel => rw [cancelOrder_eq]; exact h
  | table => rw [reformInfeed_eq]; exact h
  | pressOff => rfl
  | _ => exact h

theorem Fires.sup (h : Fires s t) :
    t.sup.armA.state = s.sup.armA.state ∧ t.sup.armB.state = s.sup.armB.state ∧ t.sup.splice = s.sup.splice ∧ t.pos.measured = s.pos.measured :=
  have hview := h.view
  ⟨congrArg (fun u => u.sup.armA.state) hview, congrArg (fun u => u.sup.armB.state) hview, congrArg (fun u => u.sup.splice) hview,
    congrArg (fun u => u.pos.measured) hview⟩

/-- A step that turns the press on ends with its firing. -/
theorem step_fires (h : step s = .next t) (hoff : s.sup.pressFire = false) (hon : t.sup.pressFire = true) : ∃ u, Fires u t := by
  obtain ⟨u, hview, -, hdoes⟩ := step_does h
  have hu : u.sup.pressFire = false := (congrArg (fun v => v.sup.pressFire) hview).trans hoff
  cases hdoes with
  | effects hut =>
    have := hut.keeps Effect.keeps_press_off hu
    simp [hon] at this
  | maps huv hvw hwt =>
    have hw : ∀ {a b : State}, Maps a b → a.sup.pressFire = false → b.sup.pressFire = false := by rintro _ _ ⟨⟩ h; exact h
    have := hwt.keeps Effect.keeps_press_off (hw hvw (huv.keeps Effect.keeps_press_off hu))
    simp [hon] at this
  | fires _ hvt => exact ⟨_, hvt⟩

/-- Settles O8: arms run one at a time, the press leaves PRESSING off, and it is fired at rest, in RUNNING and PRESSING. -/
theorem stepKeepsSpliceLaw : Obligations.StepKeepsSpliceLaw := by
  unfold Obligations.StepKeepsSpliceLaw
  refine ⟨fun s t => step_keeps Effect.keeps_armsLawful ?_ ?_, fun s t hstep hoff hon => ?_⟩
  · rintro _ _ ⟨⟩ h; exact h
  · rintro u v hfires ⟨harms, -⟩
    obtain ⟨ha, hb, hsplice, -⟩ := hfires.sup
    exact ⟨by rw [ha, hb]; exact harms, fun _ => by rw [hsplice]; exact hfires.pressing⟩
  · obtain ⟨u, hfires⟩ := step_fires hstep hoff hon
    obtain ⟨-, -, hsplice, hmeasured⟩ := hfires.sup
    exact ⟨hfires.stn, hsplice.trans hfires.pressing, hmeasured.trans hfires.rest⟩

end

end Sys2Proof.Machine
end

section
/-! PROOFS. O10: a working station keeps its valid record; the tables of the Message Unit keep their places and attempts (Law 9), and the
counts and speeds their bounds. -/

namespace Sys2Proof.Machine

section
variable {s t : State} {m m' : Msg}

/-! ## What the queue's operations leave of the tables and counts -/

/-- From `m` to `m'` the request tables and the lost count are as they were and the pass count keeps its bound. -/
structure Msg.KeepsTables (m m' : Msg) : Prop where
  pendings : m'.pendings = m.pendings
  delayed : m'.delayed = m.delayed
  lost : m'.lost = m.lost
  passCount : m.passCount ≤ 2 → m'.passCount ≤ 2

theorem Msg.KeepsTables.refl (m : Msg) : m.KeepsTables m := ⟨rfl, rfl, rfl, id⟩

theorem Msg.KeepsTables.trans {m'' : Msg} (h : m.KeepsTables m') (h' : m'.KeepsTables m'') : m.KeepsTables m'' :=
  ⟨h'.pendings.trans h.pendings, h'.delayed.trans h.delayed, h'.lost.trans h.lost, fun hp => h'.passCount (h.passCount hp)⟩

theorem handAsk_keepsTables (m : Msg) (f : Frame) (u : UnsentRef) : m.KeepsTables (m.handAsk f u) := by
  unfold Msg.handAsk Msg.markUnsent
  repeat' split
  all_goals exact ⟨rfl, rfl, rfl, id⟩

theorem handInterim_keepsTables (m : Msg) (a : AnswerMsg) : m.KeepsTables (m.handInterim a) := by
  unfold Msg.handInterim
  split
  all_goals exact ⟨rfl, rfl, rfl, id⟩

theorem refill_keepsTables (m : Msg) : m.KeepsTables m.refill := by
  unfold Msg.refill
  repeat' split
  all_goals exact ⟨rfl, rfl, rfl, id⟩

theorem free_keepsTables (m : Msg) (i : Nat) : m.KeepsTables (m.free i) := by
  have herased : m.KeepsTables { m with
      queue := m.queue.eraseIdx i
      passCount := if m.oldestAsk i || (m.queue.eraseIdx i).isEmpty then 0 else m.passCount } :=
    ⟨rfl, rfl, rfl, fun hp => by simp only; split <;> omega⟩
  exact herased.trans (refill_keepsTables _)

theorem countPass_keepsTables (m : Msg) (e : QEntry) : m.KeepsTables (m.countPass e) := by
  unfold Msg.countPass
  split
  · exact ⟨rfl, rfl, rfl, fun _ => Nat.min_le_left ..⟩
  · exact .refl m

theorem completeAt_keepsTables (m : Msg) (i : Nat) (e : QEntry) : m.KeepsTables (m.completeAt i e) := by
  unfold Msg.completeAt
  split
  · exact ⟨rfl, rfl, rfl, id⟩
  · exact free_keepsTables m i

/-! ## The configuration (R2, R3, R4) -/

theorem stn_of_lawView (h : t.lawView = s.lawView) : t.stn = s.stn := congrArg (fun u => u.stn) h

theorem cfg_of_lawView (h : t.lawView = s.lawView) : t.cfg = s.cfg := congrArg (fun u => u.cfg) h

theorem modeLawful_congr (hstn : t.stn = s.stn) (hcfg : t.cfg = s.cfg) (h : s.modeLawful) : t.modeLawful := by
  unfold State.modeLawful State.live
  rw [hstn, hcfg]
  exact h

theorem Effect.keeps_modeLawful (e : Effect s t) (h : s.modeLawful) : t.modeLawful := by
  obtain ⟨hset, hvalid⟩ := h
  cases e with
  | quiet _ hview => exact modeLawful_congr (stn_of_lawView hview) (cfg_of_lawView hview) ⟨hset, hvalid⟩
  | power => exact ⟨(fun h => nomatch h), (fun _ h => nomatch h)⟩
  | configFault => exact ⟨(fun h => nomatch h), hvalid⟩
  | start cfg l0 l1 link hcfg _ =>
    rcases hcfg with ⟨hlive, rfl⟩ | ⟨r, hlength, hok, rfl⟩
    · exact ⟨fun _ => hset hlive, hvalid⟩
    · refine ⟨fun _ => rfl, fun c hc => ⟨r, hlength, hok, ?_⟩⟩
      exact (Option.some.inj hc).symm
  | state x hlive => exact ⟨fun _ => hset hlive, hvalid⟩
  | halt hlive => exact modeLawful_congr (s := { s with stn := .halted }) (haltRole_stn _) (haltRole_cfg _) ⟨fun _ => hset hlive, hvalid⟩
  | cancel => rw [cancelOrder_eq]; exact ⟨hset, hvalid⟩
  | table => rw [reformInfeed_eq]; exact ⟨hset, hvalid⟩
  | _ => exact ⟨hset, hvalid⟩

/-- A valid record gives at least 4 attempts (R4, field 15). -/
theorem attemptLimit_pos_of_valid {r : List Byte} (h : recordFailure r = none) : 1 ≤ (decodeRecord r).attemptLimit := by
  unfold recordFailure at h
  split at h
  · exact nomatch h
  · rw [Option.map_eq_none_iff, List.find?_eq_none] at h
    have hcheck := h (15, within 4 64 (decodeRecord r).attemptLimit) (by simp [fieldChecks])
    simp [within] at hcheck
    omega

theorem attemptLimit_pos (hmode : s.modeLawful) (hlive : s.live = true) : 1 ≤ s.conf.attemptLimit := by
  obtain ⟨hset, hvalid⟩ := hmode
  obtain ⟨c, hc⟩ := Option.isSome_iff_exists.mp (hset hlive)
  obtain ⟨r, -, hok, rfl⟩ := hvalid c hc
  unfold State.conf
  rw [hc]
  exact attemptLimit_pos_of_valid hok

/-! ## The tables of the Message Unit (R49, R52) -/

theorem mayDelay_congr (hcfg : t.cfg = s.cfg) {d d' : Delayed} (hkey : d'.key = d.key) (h : s.mayDelay d) : t.mayDelay d' := by
  obtain ⟨hrequester, -, hbody⟩ : d'.requester = d.requester ∧ d'.id = d.id ∧ d'.body = d.body := by
    simpa [Delayed.key] using hkey
  unfold State.mayDelay State.neighbour State.conf State.role
  rw [hcfg, hrequester, hbody]
  exact h

theorem mayDelay_of_keys {l l' : List Delayed} (hcfg : t.cfg = s.cfg) (hkeys : l'.map Delayed.key = l.map Delayed.key)
    (h : ∀ d ∈ l, s.mayDelay d) : ∀ d ∈ l', t.mayDelay d := by
  intro d hd
  have hmem : d.key ∈ l.map Delayed.key := hkeys ▸ List.mem_map_of_mem hd
  obtain ⟨d', hd', hkey⟩ := List.mem_map.mp hmem
  exact mayDelay_congr hcfg hkey.symm (h d' hd')

/-- The tables stay lawful when the pending ones stay, and the delayed ones but for their results. -/
theorem tablesLawful_congr (hstn : t.stn = s.stn) (hcfg : t.cfg = s.cfg) (hpendings : t.msg.pendings = s.msg.pendings)
    (hkeys : t.msg.delayed.map Delayed.key = s.msg.delayed.map Delayed.key) (h : s.tablesLawful) : t.tablesLawful := by
  obtain ⟨hroom, hidle, hattempts, hentries, hnodup, hone, hmay⟩ := h
  have hlength : t.msg.delayed.length = s.msg.delayed.length := by simpa using congrArg List.length hkeys
  refine ⟨?_, ?_, ?_, ?_, ?_, by omega, mayDelay_of_keys hcfg hkeys hmay⟩
  · rwa [hpendings]
  · unfold State.live; rw [hpendings, hstn]; exact hidle
  · unfold State.conf; rw [hpendings, hcfg]; exact hattempts
  · rwa [hpendings]
  · rwa [hpendings]

theorem tablesLawful_reset (hmsg : t.msg = .reset) : t.tablesLawful := by
  unfold State.tablesLawful
  rw [hmsg]
  exact ⟨by decide, fun _ => rfl, (fun _ h => nomatch h), (fun _ h => nomatch h), .nil, by decide, (fun _ h => nomatch h)⟩

/-- An edit that keeps the tables keeps Law 9. -/
theorem tablesLawful_of_keepsTables (hkeeps : s.msg.KeepsTables m) (h : s.tablesLawful) : State.tablesLawful { s with msg := m } :=
  tablesLawful_congr (s := s) rfl rfl hkeeps.pendings (congrArg _ hkeeps.delayed) h

/-- Two delayed entries that a station may have are of one requester and code. -/
theorem mayDelay_same {d d' : Delayed} (h : s.mayDelay d) (h' : s.mayDelay d') : d.requester = d'.requester ∧ d.body.code = d'.body.code := by
  rcases h with ⟨hrole, hcode, hreq⟩ | ⟨hrole, hcode, hreq⟩ <;> rcases h' with ⟨hrole', hcode', hreq'⟩ | ⟨hrole', hcode', hreq'⟩
  · exact ⟨hreq.trans hreq'.symm, hcode.trans hcode'.symm⟩
  · simp [hrole] at hrole'
  · simp [hrole] at hrole'
  · exact ⟨hreq.trans hreq'.symm, hcode.trans hcode'.symm⟩

/-- With no delayed request of this requester and code there is none at all. -/
theorem delayed_eq_nil {d : Delayed} (hmay : s.mayDelay d) (hnone : s.msg.delays d.requester d.body.code = false)
    (h : ∀ d ∈ s.msg.delayed, s.mayDelay d) : s.msg.delayed = [] := by
  cases hdelayed : s.msg.delayed with
  | nil => rfl
  | cons d' l =>
    obtain ⟨hreq, hcode⟩ := mayDelay_same (h d' (by simp [hdelayed])) hmay
    simp [Msg.delays, hdelayed, hreq, hcode] at hnone

theorem eq_of_entry {p q : PendingReq} {l : List PendingReq} (hnodup : (l.map (·.entry)).Nodup) (hp : p ∈ l) (hq : q ∈ l)
    (h : p.entry = q.entry) : p = q := List.inj_on_of_nodup_map hnodup hp hq h

theorem map_entry_of_eq {f : PendingReq → PendingReq} (hf : ∀ p, (f p).entry = p.entry) (m : Msg) (k : Nat) :
    (m.onPending k f).pendings.map (·.entry) = m.pendings.map (·.entry) := by
  rw [Msg.onPending, List.map_map]
  refine List.map_congr_left fun p _ => ?_
  simp only [Function.comp_apply]
  split
  · exact hf p
  · rfl

/-- A change of one pending entry that keeps the attempts within the limit keeps Law 9. -/
theorem tablesLawful_onPending {k : Nat} {f : PendingReq → PendingReq} (hentry : ∀ p, (f p).entry = p.entry)
    (hlimit : ∀ p ∈ s.msg.pendings, p.entry = k → (f p).attempts ≤ s.conf.attemptLimit) (h : s.tablesLawful) :
    State.tablesLawful { s with msg := s.msg.onPending k f } := by
  obtain ⟨hroom, hidle, hattempts, hentries, hnodup, hone, hmay⟩ := h
  have hsame := map_entry_of_eq hentry s.msg k
  refine ⟨by simpa [Msg.onPending] using hroom, fun hlive => by simp [Msg.onPending, hidle hlive], ?_, ?_, by rw [hsame]; exact hnodup,
    hone, hmay⟩
  · intro q hq
    obtain ⟨p, hp, rfl⟩ := List.mem_map.mp hq
    split
    · next hk => exact hlimit p hp hk
    · exact hattempts p hp
  · intro q hq
    have hmem : q.entry ∈ s.msg.pendings.map (·.entry) := hsame ▸ List.mem_map_of_mem hq
    obtain ⟨p, hp, hpq⟩ := List.mem_map.mp hmem
    exact hpq ▸ hentries p hp

theorem MsgEdit.keeps_tablesLawful (e : MsgEdit s m) (hmode : s.modeLawful) (h : s.tablesLawful) :
    State.tablesLawful { s with msg := m } := by
  cases e with
  | still _ hsame =>
    obtain ⟨-, -, -, -, -, -, hpend, hdel⟩ := hsame
    exact tablesLawful_congr (s := s) rfl rfl hpend (congrArg _ hdel) h
  | ask f u _ => exact tablesLawful_of_keepsTables (handAsk_keepsTables ..) h
  | interim a => exact tablesLawful_of_keepsTables (handInterim_keepsTables ..) h
  | free i => exact tablesLawful_of_keepsTables (free_keepsTables ..) h
  | complete i e _ => exact tablesLawful_of_keepsTables ((countPass_keepsTables ..).trans (completeAt_keepsTables ..)) h
  | undelay keep =>
    obtain ⟨hroom, hidle, hattempts, hentries, hnodup, hone, hmay⟩ := h
    exact ⟨hroom, hidle, hattempts, hentries, hnodup, (List.length_filter_le ..).trans hone,
      fun d hd => hmay d (List.mem_of_mem_filter hd)⟩
  | delay d hd hnone =>
    obtain ⟨hroom, hidle, hattempts, hentries, hnodup, hone, hmay⟩ := h
    have hnil := delayed_eq_nil hd hnone hmay
    refine ⟨hroom, hidle, hattempts, hentries, hnodup, by simp [hnil], fun d' hd' => ?_⟩
    obtain rfl : d' = d := by simpa [hnil] using hd'
    exact hd
  | request body hlive hroom' =>
    obtain ⟨hroom, hidle, hattempts, hentries, hnodup, hone, hmay⟩ := h
    obtain ⟨hplace, hfresh⟩ := freeEntry_fresh hroom'
    refine ⟨by simpa using hroom', fun hdead => ?_, ?_, ?_, ?_, hone, hmay⟩
    · have hdead' : s.live = false := hdead
      simp [hlive] at hdead'
    · intro p hp
      rcases List.mem_append.mp hp with hp | hp
      · exact hattempts p hp
      · obtain rfl : p = newRequest s body := by simpa using hp
        exact attemptLimit_pos hmode hlive
    · intro p hp
      rcases List.mem_append.mp hp with hp | hp
      · exact hentries p hp
      · obtain rfl : p = newRequest s body := by simpa using hp
        exact hplace
    · simp only [List.map_append, List.map_cons, List.map_nil]
      refine List.nodup_append.mpr ⟨hnodup, by simp, fun k hk k' hk' => ?_⟩
      obtain ⟨p, hp, rfl⟩ := List.mem_map.mp hk
      obtain rfl : k' = s.msg.freeEntry := by simpa [newRequest] using hk'
      exact hfresh p hp
  | wait k =>
    refine tablesLawful_onPending (fun _ => rfl) (fun p hp _ => attemptLimit_pos hmode ?_) h
    obtain ⟨-, hidle, -⟩ := h
    by_contra hdead
    rw [hidle (by simpa using hdead)] at hp
    exact nomatch hp
  | again p hp hlimit =>
    refine tablesLawful_onPending (fun _ => rfl) (fun q hq hentry => ?_) h
    obtain ⟨-, -, -, -, hnodup, -⟩ := h
    rw [eq_of_entry hnodup hq hp hentry]
    exact hlimit
  | close keep =>
    obtain ⟨hroom, hidle, hattempts, hentries, hnodup, hone, hmay⟩ := h
    exact ⟨(List.length_filter_le ..).trans hroom, fun hdead => by simp [hidle hdead], fun p hp => hattempts p (List.mem_of_mem_filter hp),
      fun p hp => hentries p (List.mem_of_mem_filter hp), hnodup.sublist (List.filter_sublist.map _), hone, hmay⟩

theorem reformInfeed_hands (s : State) : s.msg.Hands (reformInfeed s).msg := by
  unfold reformInfeed
  split
  · exact reformOwn_hands .refl
  · exact .refl

theorem Effect.keeps_tablesLawful (e : Effect s t) (hmode : s.modeLawful) (h : s.tablesLawful) : t.tablesLawful := by
  cases e with
  | quiet _ hview hhands =>
    obtain ⟨hpend, -, hkeys, -⟩ := hhands.tables
    exact tablesLawful_congr (stn_of_lawView hview) (cfg_of_lawView hview) hpend hkeys h
  | message _ edit => exact edit.keeps_tablesLawful hmode h
  | power => exact tablesLawful_reset rfl
  | start => exact tablesLawful_reset rfl
  | configFault hdead =>
    obtain ⟨hroom, hidle, hrest⟩ := h
    exact ⟨hroom, fun _ => hidle hdead, hrest⟩
  | state x hlive hx =>
    obtain ⟨hroom, hidle, hrest⟩ := h
    refine ⟨hroom, fun hdead => ?_, hrest⟩
    have hdead' : x.live = false := hdead
    simp [hx] at hdead'
  | halt hlive =>
    refine tablesLawful_congr (s := { s with stn := .halted }) (haltRole_stn _) (haltRole_cfg _) (by rw [haltRole_msg])
      (by rw [haltRole_msg]) ?_
    obtain ⟨hroom, hidle, hrest⟩ := h
    exact ⟨hroom, (fun hdead => nomatch hdead), hrest⟩
  | cancel =>
    rw [cancelOrder_eq]
    exact tablesLawful_congr rfl rfl rfl rfl h
  | table tb =>
    obtain ⟨hpend, -, hkeys, -⟩ := (reformInfeed_hands { s with spd.table := tb }).tables
    exact tablesLawful_congr (s := s) (by rw [reformInfeed_eq]) (by rw [reformInfeed_eq]) hpend hkeys h
  | _ => exact h

/-! ## Counts and speeds -/

theorem MsgEdit.counts (e : MsgEdit s m) : m.lost = s.msg.lost ∧ (s.msg.passCount ≤ 2 → m.passCount ≤ 2) := by
  cases e with
  | still _ hsame =>
    obtain ⟨-, -, -, -, hpass, hlost, -⟩ := hsame
    exact ⟨hlost, fun h => by omega⟩
  | ask f u _ => exact ⟨(handAsk_keepsTables ..).lost, (handAsk_keepsTables ..).passCount⟩
  | interim a => exact ⟨(handInterim_keepsTables ..).lost, (handInterim_keepsTables ..).passCount⟩
  | free i => exact ⟨(free_keepsTables ..).lost, (free_keepsTables ..).passCount⟩
  | complete i e _ =>
    have hkeeps := (countPass_keepsTables s.msg e).trans (completeAt_keepsTables _ i e)
    exact ⟨hkeeps.lost, hkeeps.passCount⟩
  | _ => exact ⟨rfl, id⟩

/-- Of the counts and speeds, those of no message. -/
theorem countsLawful_congr (hview : t.lawView = s.lawView) (hlost : s.msg.lost ≤ 255 → t.msg.lost ≤ 255)
    (hpass : s.msg.passCount ≤ 2 → t.msg.passCount ≤ 2) (h : s.countsLawful) : t.countsLawful := by
  obtain ⟨hpass', hlost', hbroken, herror, hmeasured, hspeed, hcontent⟩ := h
  have hcfg : t.cfg = s.cfg := cfg_of_lawView hview
  refine ⟨hpass hpass', hlost hlost', ?_, ?_, ?_, ?_, ?_⟩
  · exact (congrArg (fun u => u.link.broken) hview).trans_le hbroken
  · exact (congrArg (fun u => u.pos.errorRun) hview).trans_le herror
  · exact (congrArg (fun u => u.pos.measured) hview).trans_le hmeasured
  · have hmax : t.roleMax = s.roleMax := by unfold State.roleMax State.conf State.role; rw [hcfg]
    rw [hmax]
    exact (congrArg (fun u => u.spd.setSpeed) hview).trans_le hspeed
  · exact (congrArg (fun u => u.sup.content) hview).trans_le hcontent

theorem reformOwn_setSpeed (s : State) : (reformOwn s).spd.setSpeed = s.spd.setSpeed :=
  congrArg (fun u => u.spd.setSpeed) (reformOwn_lawView s)

theorem reformInfeed_setSpeed (s : State) : (reformInfeed s).spd.setSpeed = s.spd.setSpeed := by
  unfold reformInfeed
  split
  · exact reformOwn_setSpeed _
  · rfl

theorem Effect.keeps_countsLawful (e : Effect s t) (h : s.countsLawful) : t.countsLawful := by
  obtain ⟨hpass, hlost, hbroken, herror, hmeasured, hspeed, hcontent⟩ := id h
  cases e with
  | quiet _ hview hhands =>
    obtain ⟨-, hpass', -, hlost'⟩ := hhands.tables
    exact countsLawful_congr hview hlost' (by rw [hpass']; exact id) h
  | message _ edit =>
    obtain ⟨hlost', hpass'⟩ := edit.counts
    exact countsLawful_congr (s := s) rfl (by rw [hlost']; exact id) hpass' h
  | power =>
    unfold State.countsLawful
    exact ⟨Nat.zero_le _, Nat.zero_le _, Nat.zero_le _, Nat.zero_le _, Nat.zero_le _, Nat.zero_le _, Nat.zero_le _⟩
  | configFault => exact ⟨hpass, hlost, Nat.zero_le _, herror, hmeasured, hspeed, hcontent⟩
  | start cfg l0 l1 link _ hlink =>
    exact ⟨Nat.zero_le _, Nat.zero_le _, hlink.trans_le (Nat.zero_le _), Nat.zero_le _, Nat.zero_le _, Nat.zero_le _, Nat.zero_le _⟩
  | halt =>
    have hview := haltRole_lawView { s with stn := .halted }
    split at hview
    · exact countsLawful_congr (s := { s with stn := .halted, pos.errorRun := 0, set.zones := s.set.zones.map Zone.shut }) hview
        (by rw [haltRole_msg]; exact id) (by rw [haltRole_msg]; exact id)
        ⟨hpass, hlost, hbroken, Nat.zero_le _, hmeasured, hspeed, hcontent⟩
    · exact countsLawful_congr (s := { s with stn := .halted }) hview
        (by rw [haltRole_msg]; exact id) (by rw [haltRole_msg]; exact id) h
  | cancel => rw [cancelOrder_eq]; exact h
  | table tb =>
    obtain ⟨-, hpass', -, hlost'⟩ := (reformInfeed_hands { s with spd.table := tb }).tables
    have hset := reformInfeed_setSpeed { s with spd.table := tb }
    rw [reformInfeed_eq]
    exact ⟨hpass'.trans_le hpass, hlost' hlost, hbroken, herror, hmeasured, hset.trans_le hspeed, hcontent⟩
  | setSpeed v hv => exact ⟨hpass, hlost, hbroken, herror, hmeasured, hv, hcontent⟩
  | measure v hv => exact ⟨hpass, hlost, hbroken, herror, hv, hspeed, hcontent⟩
  | errorRun n hn => exact ⟨hpass, hlost, hbroken, hn, hmeasured, hspeed, hcontent⟩
  | broken => exact ⟨hpass, hlost, satInc_le hbroken, herror, hmeasured, hspeed, hcontent⟩
  | content c hc => exact ⟨hpass, hlost, hbroken, herror, hmeasured, hspeed, hc⟩
  | _ => exact h

/-- Settles O10: the tables grow only where a place is free, under the numbers R49 and R52 give, and each count is bounded where it is
written. -/
theorem stepKeepsTablesAndCounts : Obligations.StepKeepsTablesAndCounts := by
  unfold Obligations.StepKeepsTablesAndCounts
  refine ⟨fun s t hstep hmode htables => ?_, fun s t => step_keeps Effect.keeps_countsLawful ?_ ?_⟩
  · refine step_keeps (P := fun s => s.modeLawful ∧ s.tablesLawful) ?_ ?_ ?_ hstep ⟨hmode, htables⟩
    · exact fun e ⟨hm, ht⟩ => ⟨e.keeps_modeLawful hm, e.keeps_tablesLawful hm ht⟩
    · rintro _ _ ⟨⟩ h; exact h
    · intro u v hfires ⟨hm, ht⟩
      have hstn : v.stn = u.stn := stn_of_lawView (s := { u with sup.pressFire := true }) hfires.view
      have hcfg : v.cfg = u.cfg := cfg_of_lawView (s := { u with sup.pressFire := true }) hfires.view
      exact ⟨modeLawful_congr hstn hcfg hm, tablesLawful_congr hstn hcfg (by rw [hfires.msg]) (by rw [hfires.msg]) ht⟩
  · rintro _ _ ⟨⟩ h; exact h
  · intro u v hfires h
    exact countsLawful_congr (s := { u with sup.pressFire := true }) hfires.view (by rw [hfires.msg]; exact id)
      (by rw [hfires.msg]; exact id) h

end

end Sys2Proof.Machine
end

section
/-! PROOFS. O9 and O11: the web map (Law 7) only loses spans but for one that is mapped where a place is free, and the duties (Law 10) are 0
where the law says. -/

namespace Sys2Proof.Machine

section
variable {s t : State}

/-! ## O11: the duties (R145 to R150) -/

theorem coldState_of_dead {x : StationState} (h : x.live = false) : x.coldState = true := by
  cases x <;> simp_all [StationState.live, StationState.coldState]

theorem not_halted_of_dead (h : s.live = false) : s.stn ≠ .halted := fun e => by simp [State.live, e, StationState.live] at h

theorem Zone.lawful_start {stn : StationState} : Zone.start.lawful stn := lawful_of_shut rfl rfl

theorem Zone.lawful_shut {stn : StationState} (z : Zone) : z.shut.lawful stn := lawful_of_shut rfl rfl

/-- The zones of a chest that was cold are lawful in CONFIG FAULT. -/
theorem Zone.lawful_configFault {stn : StationState} {z : Zone} (hcold : stn.coldState = true) (h : z.lawful stn) :
    z.lawful .configFault := by
  obtain ⟨hzero, hlost, hmax, hduty, -⟩ := h
  exact ⟨hzero, hlost, hmax, fun _ => hduty hcold, (fun e => nomatch e)⟩

theorem Zone.lawful_warm {stn x : StationState} {z : Zone} (hlive : x.live = true) (hne : x ≠ .halted) (h : z.lawful stn) :
    z.lawful x := by
  obtain ⟨hzero, hlost, hmax, -, -⟩ := h
  exact ⟨hzero, hlost, hmax, fun hcold => by simp [coldState_eq_false hlive hne] at hcold, fun e => absurd e hne⟩

theorem heatLawful_congr (hstn : t.stn = s.stn) (hcfg : t.cfg = s.cfg) (hzones : t.set.zones = s.set.zones)
    (hmark : t.set.overMark = s.set.overMark) (h : s.heatLawful) : t.heatLawful := by
  unfold State.heatLawful State.role
  rw [hstn, hcfg, hzones, hmark]
  exact h

theorem heatLawful_of_lawView (hview : t.lawView = s.lawView) (h : s.heatLawful) : t.heatLawful :=
  heatLawful_congr (stn_of_lawView hview) (cfg_of_lawView hview) (congrArg (fun u => u.set.zones) hview)
    (congrArg (fun u => u.set.overMark) hview) h

/-- At the start of the unit a SETTER alone has zones, each shut (R155). -/
theorem startZones (cfg : Option Cfg) {stn : StationState} :
    let zs := if (cfg.getD Cfg.blank).role = .setter then List.replicate (cfg.getD Cfg.blank).zoneCount Zone.start else []
    (zs = [] ∨ cfg.map (·.role) = some .setter) ∧ ∀ z ∈ zs, z.lawful stn := by
  intro zs
  cases cfg with
  | none => exact ⟨.inl rfl, fun z hz => absurd hz (List.not_mem_nil)⟩
  | some c =>
    by_cases hrole : c.role = .setter
    · refine ⟨.inr (by simp [hrole]), fun z hz => ?_⟩
      have hz' : z ∈ List.replicate c.zoneCount Zone.start := by simpa [zs, hrole] using hz
      rw [List.eq_of_mem_replicate hz']
      exact Zone.lawful_start
    · have hzs : zs = [] := by simp [zs, hrole]
      rw [hzs]
      exact ⟨.inl rfl, (fun z h => nomatch h)⟩

theorem Effect.keeps_heatLawful (e : Effect s t) (h : s.heatLawful) : t.heatLawful := by
  obtain ⟨hzones, hmark, hlaw⟩ := id h
  cases e with
  | quiet _ hview => exact heatLawful_of_lawView hview h
  | power => exact ⟨.inl rfl, (fun e => nomatch e), (fun z h => nomatch h)⟩
  | configFault hdead =>
    refine ⟨hzones, fun hm => absurd (hmark hm).1 (not_halted_of_dead hdead), fun z hz => ?_⟩
    exact Zone.lawful_configFault (coldState_of_dead hdead) (hlaw z hz)
  | start cfg =>
    obtain ⟨hz, hl⟩ := startZones cfg (stn := .listen)
    exact ⟨hz, (fun e => nomatch e), hl⟩
  | state x hlive hx hne hclear =>
    refine ⟨hzones, fun hm => ?_, fun z hz => Zone.lawful_warm hx hne (hlaw z hz)⟩
    obtain ⟨hhalted, hsetter⟩ := hmark hm
    have hm' : s.set.overMark = true := hm
    simp [hclear hhalted hsetter] at hm'
  | halt hlive =>
    have hview := haltRole_lawView { s with stn := .halted }
    split at hview
    · next hsetter =>
      refine heatLawful_of_lawView (s := { s with stn := .halted, pos.errorRun := 0, set.zones := s.set.zones.map Zone.shut }) hview
        ⟨.inr hsetter, fun _ => ⟨rfl, hsetter⟩, fun z hz => ?_⟩
      obtain ⟨z', -, rfl⟩ := List.mem_map.mp hz
      exact Zone.lawful_shut z'
    · next hother =>
      have hnil : s.set.zones = [] := hzones.resolve_right hother
      refine heatLawful_of_lawView hview ⟨.inl hnil, fun hm => absurd (hmark hm).2 hother, fun z hz => ?_⟩
      have hz' : z ∈ s.set.zones := hz
      simp [hnil] at hz'
  | unmark => exact ⟨hzones, (fun e => nomatch e), hlaw⟩
  | mark hhalted hsetter => exact ⟨hzones, fun _ => ⟨hhalted, hsetter⟩, hlaw⟩
  | zones zs hnil hkeep => exact ⟨hzones.imp_left hnil, hmark, hkeep hlaw⟩
  | shut =>
    refine ⟨hzones.imp_left fun e => by simp [e], hmark, fun z hz => ?_⟩
    obtain ⟨z', -, rfl⟩ := List.mem_map.mp hz
    exact Zone.lawful_shut z'
  | cancel => rw [cancelOrder_eq]; exact h
  | table => rw [reformInfeed_eq]; exact h
  | _ => exact h

/-- Settles O11: a duty rises in a control step alone, of a zone in use with a good reading, outside HALTED. -/
theorem stepKeepsHeatLaw : Obligations.StepKeepsHeatLaw := by
  unfold Obligations.StepKeepsHeatLaw
  intro s t
  refine step_keeps Effect.keeps_heatLawful ?_ ?_
  · rintro _ _ ⟨⟩ h; exact h
  · intro u v hfires h
    exact heatLawful_of_lawView (s := { u with sup.pressFire := true }) hfires.view h

/-! ## O9: the web map (R156, R157, R158) -/

/-- The spans of a state as Law 7 reads them. -/
def State.bareSpans (s : State) : List Span := s.map.spans.map Span.bare

theorem bareSpans_of_lawView (h : t.lawView = s.lawView) : t.bareSpans = s.bareSpans := congrArg (fun u => u.map.spans) h

/-- No effect adds a span or changes the start or id of one. -/
theorem Effect.spans_sublist (e : Effect s t) : t.bareSpans.Sublist s.bareSpans := by
  cases e with
  | quiet _ hview => rw [bareSpans_of_lawView hview]
  | power => exact List.nil_sublist _
  | start => exact List.nil_sublist _
  | halt =>
    have hview := haltRole_lawView { s with stn := .halted }
    split at hview
    · exact (bareSpans_of_lawView (s := { s with stn := .halted, pos.errorRun := 0, set.zones := s.set.zones.map Zone.shut }) hview) ▸ .refl _
    · exact (bareSpans_of_lawView hview) ▸ .refl _
  | spans l hl => exact hl
  | cancel => rw [cancelOrder_eq]; exact .refl _
  | table => rw [reformInfeed_eq]; exact .refl _
  | _ => exact .refl _

theorem Effects.spans_sublist (h : Effects s t) : t.bareSpans.Sublist s.bareSpans := by
  induction h with
  | refl => exact .refl _
  | tail _ e ih => exact e.spans_sublist.trans ih

theorem insertSpan_bare (sp : Span) (l : List Span) : (insertSpan sp l).map Span.bare = insertSpan sp.bare (l.map Span.bare) := by
  induction l with
  | nil => rfl
  | cons x l ih =>
    unfold insertSpan
    simp only [List.map_cons]
    split
    · next h => rw [if_pos (by exact h)]; rfl
    · next h => rw [if_neg (by exact h), ← ih]; rfl

/-- A span enters a list of spans: its start and its panel id are new, and a place is free. -/
structure Fresh (sp : Span) (l : List Span) : Prop where
  room : l.length < Config.mapPlaces
  start : ∀ x ∈ l, x.start ≠ sp.start
  id : ∀ x ∈ l, ∀ id, ¬(x.isPanel id = true ∧ sp.isPanel id = true)

theorem Fresh.sublist {sp : Span} {l l' : List Span} (h : Fresh sp l) (hl : l'.Sublist l) : Fresh sp l' :=
  ⟨hl.length_le.trans_lt h.room, fun x hx => h.start x (hl.subset hx), fun x hx => h.id x (hl.subset hx)⟩

theorem Fresh.bare {sp : Span} {l : List Span} (h : Fresh sp l) : Fresh sp.bare (l.map Span.bare) := by
  refine ⟨by simpa using h.room, fun x hx => ?_, fun x hx id hboth => ?_⟩
  · obtain ⟨y, hy, rfl⟩ := List.mem_map.mp hx
    exact h.start y hy
  · obtain ⟨y, hy, rfl⟩ := List.mem_map.mp hx
    rw [Span.bare_isPanel, Span.bare_isPanel] at hboth
    exact h.id y hy id hboth

theorem Maps.spans (h : Maps s t) : ∃ sp, Fresh sp s.bareSpans ∧ t.bareSpans = insertSpan sp s.bareSpans := by
  obtain ⟨sp, l, hl, hroom, hstart, hid⟩ := h
  refine ⟨sp.bare, Fresh.bare ⟨hroom, hstart, hid⟩, ?_⟩
  show (insertSpan sp l).map Span.bare = _
  rw [insertSpan_bare, hl]
  rfl

theorem Fires.bareSpans (h : Fires s t) : t.bareSpans = s.bareSpans := congrArg (fun u => u.map.spans) h.view

/-- A step leaves of the map a part of what it was, or of that with one fresh span put in its place. -/
theorem step_spans (h : step s = .next t) :
    t.bareSpans.Sublist s.bareSpans
      ∨ ∃ sp l, l.Sublist s.bareSpans ∧ Fresh sp l ∧ t.bareSpans.Sublist (insertSpan sp l) := by
  obtain ⟨u, hview, -, hdoes⟩ := step_does h
  rw [← bareSpans_of_lawView hview]
  cases hdoes with
  | effects hut => exact .inl hut.spans_sublist
  | maps huv hvw hwt =>
    obtain ⟨sp, hfresh, hspans⟩ := hvw.spans
    exact .inr ⟨sp, _, huv.spans_sublist, hfresh, hspans ▸ hwt.spans_sublist⟩
  | fires huv hvt => exact .inl (hvt.bareSpans ▸ huv.spans_sublist)

/-- Two spans that may stand in one map. -/
def Span.apart (x y : Span) : Prop := x.start ≠ y.start ∧ ∀ id, ¬(x.isPanel id = true ∧ y.isPanel id = true)

theorem Span.apart_symm {x y : Span} (h : x.apart y) : y.apart x :=
  ⟨h.1.symm, fun id hboth => h.2 id hboth.symm⟩

theorem Span.bare_apart (x y : Span) : x.bare.apart y.bare ↔ x.apart y := by
  simp only [Span.apart, Span.bare_start, Span.bare_isPanel]

theorem mapLawful_iff (s : State) : s.mapLawful ↔ s.bareSpans.length ≤ Config.mapPlaces ∧ s.bareSpans.Pairwise Span.apart := by
  unfold State.bareSpans
  rw [List.length_map, List.pairwise_map]
  simp only [Span.bare_apart]
  rfl

theorem insertSpan_perm (sp : Span) (l : List Span) : (insertSpan sp l).Perm (sp :: l) := by
  induction l with
  | nil => exact .refl _
  | cons x l ih =>
    unfold insertSpan
    split
    · exact .refl _
    · exact (ih.cons x).trans (.swap ..)

theorem insertSpan_lawful {sp : Span} {l : List Span} (hfresh : Fresh sp l) (h : l.Pairwise Span.apart) :
    (insertSpan sp l).length ≤ Config.mapPlaces ∧ (insertSpan sp l).Pairwise Span.apart := by
  have hperm := insertSpan_perm sp l
  refine ⟨by rw [hperm.length_eq]; exact hfresh.room, (hperm.pairwise_iff Span.apart_symm).mpr (List.pairwise_cons.mpr ⟨fun x hx => ?_, h⟩)⟩
  exact Span.apart_symm ⟨hfresh.start x hx, hfresh.id x hx⟩

theorem step_keeps_mapLawful (h : step s = .next t) (hs : s.mapLawful) : t.mapLawful := by
  rw [mapLawful_iff] at hs ⊢
  obtain ⟨hlength, happart⟩ := hs
  rcases step_spans h with hsub | ⟨sp, l, hl, hfresh, hsub⟩
  · exact ⟨hsub.length_le.trans hlength, happart.sublist hsub⟩
  · obtain ⟨hlength', happart'⟩ := insertSpan_lawful hfresh (happart.sublist hl)
    exact ⟨hsub.length_le.trans hlength', happart'.sublist hsub⟩

/-- Within 2^30 of one position R57 compares by the distance from it. -/
theorem ahead_iff_of_near {b x y : Word} (hx : (sdiff x b).natAbs < 2 ^ 30) (hy : (sdiff y b).natAbs < 2 ^ 30) :
    ahead y x = true ↔ sdiff x b < sdiff y b := by
  have hsub : sdiff y x = ((y - b).toInt - (x - b).toInt).bmod (2 ^ 32) := by
    rw [← BitVec.toInt_sub, sdiff]
    congr 1
    ring
  have hexact : sdiff y x = sdiff y b - sdiff x b := by
    rw [hsub]
    refine Int.bmod_eq_of_le ?_ ?_ <;> simp only [sdiff] at hx hy ⊢ <;> omega
  simp only [ahead, decide_eq_true_eq, hexact]
  omega

/-- A span goes in front of the first that is ahead of it. -/
theorem insertSpan_split (sp : Span) (l : List Span) : ∃ a b, l = a ++ b ∧ insertSpan sp l = a ++ sp :: b
    ∧ (∀ x ∈ a, ahead x.start sp.start = false) ∧ ∀ y, b.head? = some y → ahead y.start sp.start = true := by
  induction l with
  | nil => exact ⟨[], [], rfl, rfl, by simp, by simp⟩
  | cons x l ih =>
    unfold insertSpan
    split
    · next hahead => exact ⟨[], x :: l, rfl, rfl, by simp, by simpa using hahead⟩
    · next hbehind =>
      obtain ⟨a, b, rfl, hinsert, hfront, hback⟩ := ih
      refine ⟨x :: a, b, rfl, by rw [hinsert]; rfl, fun y hy => ?_, hback⟩
      rcases List.mem_cons.mp hy with rfl | hy
      · simpa using hbehind
      · exact hfront y hy

/-- A part of a list with one element put in, without that element, is a part of the list. -/
theorem sublist_of_not_mem {sp : Span} {l t' : List Span} (h : t'.Sublist (insertSpan sp l)) (hsp : sp ∉ t') : t'.Sublist l := by
  obtain ⟨a, b, rfl, hinsert, -, -⟩ := insertSpan_split sp l
  rw [hinsert] at h
  obtain ⟨u, v, rfl, hu, hv⟩ := List.sublist_append_iff.mp h
  rcases List.sublist_cons_iff.mp hv with hv | ⟨r, rfl, -⟩
  · exact hu.append hv
  · simp at hsp

/-- The spans lie in increasing distance from a position. -/
def sortedFrom (b : Word) (l : List Span) : Prop := l.Pairwise fun x y => sdiff x.start b < sdiff y.start b

theorem insertSpan_sorted {b : Word} {sp : Span} {l : List Span} (hnear : ∀ x ∈ l, (sdiff x.start b).natAbs < 2 ^ 30)
    (hsp : (sdiff sp.start b).natAbs < 2 ^ 30) (hfresh : ∀ x ∈ l, x.start ≠ sp.start) (h : sortedFrom b l) :
    sortedFrom b (insertSpan sp l) := by
  obtain ⟨front, back, rfl, hinsert, hfront, hback⟩ := insertSpan_split sp l
  unfold sortedFrom at h ⊢
  rw [hinsert]
  obtain ⟨hfronts, hbacks, hacross⟩ := List.pairwise_append.mp h
  have hless : ∀ x ∈ front, sdiff x.start b < sdiff sp.start b := by
    intro x hx
    have hle := (ahead_iff_of_near hsp (hnear x (by simp [hx]))).not.mp (by simp [hfront x hx])
    have hne : sdiff x.start b ≠ sdiff sp.start b := fun e =>
      hfresh x (by simp [hx]) (sub_left_injective (BitVec.toInt_inj.mp e))
    omega
  have hmore : ∀ y ∈ back, sdiff sp.start b < sdiff y.start b := by
    cases back with
    | nil => simp
    | cons y back =>
      have hfirst := (ahead_iff_of_near hsp (hnear y (by simp))).mp (hback y rfl)
      intro z hz
      rcases List.mem_cons.mp hz with rfl | hz
      · exact hfirst
      · exact hfirst.trans ((List.pairwise_cons.mp hbacks).1 z hz)
  refine List.pairwise_append.mpr ⟨hfronts, List.pairwise_cons.mpr ⟨hmore, hbacks⟩, fun x hx y hy => ?_⟩
  rcases List.mem_cons.mp hy with rfl | hy
  · exact hless x hx
  · exact hacross x hx y hy

theorem spansNear_iff (s : State) (b : Word) : s.spansNear b ↔ ∀ x ∈ s.bareSpans, (sdiff x.start b).natAbs < 2 ^ 30 := by
  simp [State.spansNear, State.bareSpans, Span.bare_start]

/-- Of spans near one position, the order of R57 is that of their distances from it. -/
theorem mapOrdered_iff_sorted {b : Word} (hnear : s.spansNear b) : s.mapOrdered ↔ sortedFrom b s.bareSpans := by
  unfold State.mapOrdered sortedFrom State.bareSpans
  rw [List.pairwise_map]
  exact List.Pairwise.iff_of_mem fun hx hy => ahead_iff_of_near (hnear _ hx) (hnear _ hy)

theorem step_keeps_mapOrdered {b : Word} (h : step s = .next t) (hs : s.spansNear b) (ht : t.spansNear b) (hordered : s.mapOrdered) :
    t.mapOrdered := by
  rw [mapOrdered_iff_sorted hs] at hordered
  rw [mapOrdered_iff_sorted ht]
  rw [spansNear_iff] at hs ht
  rcases step_spans h with hsub | ⟨sp, l, hl, hfresh, hsub⟩
  · exact hordered.sublist hsub
  · have hsorted : sortedFrom b l := hordered.sublist hl
    by_cases hsp : sp ∈ t.bareSpans
    · exact (insertSpan_sorted (fun x hx => hs x (hl.subset hx)) (ht sp hsp) hfresh.start hsorted).sublist hsub
    · exact hsorted.sublist (sublist_of_not_mem hsub hsp)

/-- Settles O9: a span is mapped where a place is free, under a new start and id, in front of the first span ahead of it. -/
theorem stepKeepsMapLaw : Obligations.StepKeepsMapLaw := by
  unfold Obligations.StepKeepsMapLaw
  exact ⟨fun _ _ => step_keeps_mapLawful, fun _ _ _ hstep _ hs ht => step_keeps_mapOrdered hstep hs ht⟩

end

end Sys2Proof.Machine
end

section
/-! PROOFS. O6: the panel queue (Law 1) and the in-use counts of the slots (Law 2). Both laws rest on the ids and slots of the panels held and
on the places of the LAYING and the NEXT item; an item moves from QUEUED to NEXT to LAYING with its place in that order. -/

namespace Sys2Proof.Machine

section
variable {s t : State}

/-! ## The panels held -/

/-- What Laws 1 and 2 read of a panel: its id and its slot. -/
def Panel.key (p : Panel) : Nat × Nat := (p.id, p.slot)

/-- The panels of an item. -/
def Item.keys : Item → List (Nat × Nat)
  | .panel p => [p.key]
  | .gap _ => []

/-- The panels of the queue, front first (R110). -/
def heldOf (laying : Option LayingItem) (next : Option NextItem) (queued : List Panel) : List (Nat × Nat) :=
  ((laying.map (·.item.keys)).getD []) ++ ((next.map (·.item.keys)).getD []) ++ queued.map Panel.key

/-- The panels of a state's queue. -/
def State.held (s : State) : List (Nat × Nat) := heldOf s.lay.laying s.lay.next s.lay.queued

theorem map_key_panels (s : State) : s.panels.map Panel.key = s.held := by
  unfold State.panels State.held heldOf
  rw [List.map_append, List.map_append]
  congr 2
  · cases hlaying : s.lay.laying with
    | none => rfl
    | some l => cases hitem : l.item <;> simp [hitem, Item.keys]
  · cases hnext : s.lay.next with
    | none => rfl
    | some n => cases hitem : n.item <;> simp [hitem, Item.keys]

@[simp] theorem Item.keys_bare (i : Item) : i.bare.keys = i.keys := by cases i <;> rfl

theorem Item.flatLen_bare (i : Item) : i.bare.flatLen = i.flatLen := by cases i <;> rfl

theorem held_lawView (s : State) : s.lawView.held = s.held := by
  have hlaying : ((s.lay.laying.map LayingItem.bare).map (·.item.keys)) = s.lay.laying.map (·.item.keys) := by
    rw [Option.map_map]; congr 1; funext l; exact Item.keys_bare l.item
  have hnext : ((s.lay.next.map NextItem.bare).map (·.item.keys)) = s.lay.next.map (·.item.keys) := by
    rw [Option.map_map]; congr 1; funext n; exact Item.keys_bare n.item
  show ((s.lay.laying.map LayingItem.bare).map (·.item.keys)).getD [] ++ ((s.lay.next.map NextItem.bare).map (·.item.keys)).getD []
    ++ s.lay.queued.map Panel.key = _
  rw [hlaying, hnext]
  rfl

theorem held_of_lawView (h : t.lawView = s.lawView) : t.held = s.held := by rw [← held_lawView, h, held_lawView]

/-- A NEXT item that follows a LAYING one starts where that ends (R111). -/
def State.placed (s : State) : Prop := ∀ l n, s.lay.laying = some l → s.lay.next = some n → n.flatStart = l.flatEnd

theorem placed_lawView (s : State) : s.lawView.placed ↔ s.placed := by
  have hend : ∀ l : LayingItem, l.bare.flatEnd = l.flatEnd := fun l => by
    simp only [LayingItem.flatEnd, LayingItem.bare, Item.flatLen_bare]
  have hlay : s.lawView.lay.laying = s.lay.laying.map LayingItem.bare := rfl
  have hnext : s.lawView.lay.next = s.lay.next.map NextItem.bare := rfl
  unfold State.placed
  rw [hlay, hnext]
  constructor
  · intro h l n hl hn
    rw [← hend]
    exact h l.bare n.bare (by rw [hl]; rfl) (by rw [hn]; rfl)
  · intro h l n hl hn
    obtain ⟨l', hl', rfl⟩ := Option.map_eq_some_iff.mp hl
    obtain ⟨n', hn', rfl⟩ := Option.map_eq_some_iff.mp hn
    rw [hend]
    exact h l' n' hl' hn'

theorem itemsLawful_iff (s : State) :
    s.itemsLawful ↔ s.held.length ≤ Config.panelPlaces ∧ (s.held.map (·.1)).Nodup ∧ s.placed := by
  rw [← map_key_panels, List.length_map, List.map_map]
  rfl

theorem slotsLawful_iff (s : State) :
    s.slotsLawful ↔ (∀ x ∈ s.held, x.2 < 16)
      ∧ ∀ n, n < 16 → (s.slot n).inUse = s.held.countP (fun x => x.2 == n) ∧ (0 < (s.slot n).inUse → (s.slot n).state = .ready) := by
  rw [← map_key_panels]
  simp only [List.forall_mem_map, List.countP_map]
  rfl

/-- Law 1 stays when the panels held and the places do. -/
theorem itemsLawful_congr (hheld : t.held = s.held) (hplaced : t.placed) (h : s.itemsLawful) : t.itemsLawful := by
  rw [itemsLawful_iff] at h ⊢
  rw [hheld]
  obtain ⟨hlength, hnodup, -⟩ := h
  exact ⟨hlength, hnodup, hplaced⟩

/-- Law 2 stays when the panels held and the slots do. -/
theorem slotsLawful_congr (hheld : t.held = s.held) (hslots : t.slots = s.slots) (h : s.slotsLawful) : t.slotsLawful := by
  rw [slotsLawful_iff] at h ⊢
  unfold State.slot at h ⊢
  rw [hheld, hslots]
  exact h

theorem placed_of_next_none (h : s.lay.next = none) : s.placed := fun _ _ _ hn => by simp [h] at hn

theorem placed_of_laying_none (h : s.lay.laying = none) : s.placed := fun _ _ hl => by simp [h] at hl

/-- A candidate is placed where the LAYING item ends (R112). -/
theorem placed_plannedStart {i : Item} {q : List Panel} :
    State.placed { s with lay.next := some ⟨i, plannedStart s⟩, lay.queued := q } := by
  intro l n hl hn
  obtain rfl : (⟨i, plannedStart s⟩ : NextItem) = n := Option.some.inj hn
  have hl' : s.lay.laying = some l := hl
  simp [plannedStart, hl']

/-! ## What becomes of the panels held -/

theorem held_commitGap {g : Gap} {w : Word} (hnext : s.lay.next = none) :
    State.held { s with lay.next := some ⟨.gap g, w⟩ } = s.held := by
  simp [State.held, heldOf, hnext, Item.keys]

theorem held_commitPanel {p : Panel} {rest : List Panel} {w : Word} (hnext : s.lay.next = none) (hqueued : s.lay.queued = p :: rest) :
    State.held { s with lay.next := some ⟨.panel p, w⟩, lay.queued := rest } = s.held := by
  simp [State.held, heldOf, hnext, hqueued, Item.keys]

theorem held_startItem {n : NextItem} {l : LayingItem} (hnext : s.lay.next = some n) (hlaying : s.lay.laying = none)
    (hbare : l.item.bare = n.item.bare) : State.held { s with lay.laying := some l, lay.next := none } = s.held := by
  have hkeys : l.item.keys = n.item.keys := by rw [← Item.keys_bare, hbare, Item.keys_bare]
  simp [State.held, heldOf, hnext, hlaying, hkeys]

theorem held_returnNext {p : Panel} {w : Word} (hnext : s.lay.next = some ⟨.panel p, w⟩) :
    State.held { s with lay.next := none, lay.queued := p :: s.lay.queued } = s.held := by
  simp [State.held, heldOf, hnext, Item.keys]

theorem held_withdrawGap {g : Gap} {w : Word} (hnext : s.lay.next = some ⟨.gap g, w⟩) :
    State.held { s with lay.next := none } = s.held := by
  simp [State.held, heldOf, hnext, Item.keys]

theorem held_endGap {l : LayingItem} {g : Gap} (hlaying : s.lay.laying = some l) (hitem : l.item = .gap g) :
    State.held { s with lay.laying := none } = s.held := by
  simp [State.held, heldOf, hlaying, hitem, Item.keys]

theorem held_endPanel {l : LayingItem} {p : Panel} (hlaying : s.lay.laying = some l) (hitem : l.item = .panel p) :
    s.held = p.key :: State.held { s with lay.laying := none } := by
  simp [State.held, heldOf, hlaying, hitem, Item.keys]

theorem held_order (ps : List Panel) : State.held { s with lay.queued := s.lay.queued ++ ps } = s.held ++ ps.map Panel.key := by
  simp [State.held, heldOf]

theorem held_cancel (q : List Panel) (h : q.Sublist s.lay.queued) : (State.held { s with lay.queued := q }).Sublist s.held :=
  (List.Sublist.refl _).append (h.map _)

/-- The keys an order appends (R119). -/
theorem map_key_orderedPanels (sl : Slot) (first count slot grade : Nat) :
    (orderedPanels sl first count slot grade).map Panel.key = (List.range count).map fun k => (first + k, slot) := by
  rw [orderedPanels, List.map_map]
  rfl

/-- An order that is not refused (R119). -/
theorem orderRefusal_eq_none {first count slot grade : Nat} (h : orderRefusal s first count slot grade = none) :
    (s.slot slot).state = .ready ∧ s.panels.length + count ≤ Config.panelPlaces
      ∧ ∀ p ∈ s.panels, ¬(first ≤ p.id ∧ p.id ≤ first + count - 1) := by
  unfold orderRefusal at h
  split_ifs at h with hready hgrade hplaces hids
  refine ⟨not_not.mp hready, ?_, fun p hp hid => hids ?_⟩
  · simp only [Bool.or_eq_true, Bool.not_eq_true', decide_eq_true_eq, not_or] at hplaces
    omega
  · refine .inr (.inr (List.any_eq_true.mpr ⟨p, hp, ?_⟩))
    simpa [within] using hid

theorem orderLawful {first count slot grade : Nat} (hok : orderRefusal s first count slot grade = none) (h : s.itemsLawful) :
    State.itemsLawful { s with lay.queued := s.lay.queued ++ orderedPanels (s.slot slot) first count slot grade } := by
  obtain ⟨-, hroom, hfresh⟩ := orderRefusal_eq_none hok
  have hroom' : s.held.length + count ≤ Config.panelPlaces := by rwa [← map_key_panels, List.length_map]
  have hfresh' : ∀ x ∈ s.held, ¬(first ≤ x.1 ∧ x.1 ≤ first + count - 1) := by
    rw [← map_key_panels]
    exact List.forall_mem_map.mpr hfresh
  rw [itemsLawful_iff] at h ⊢
  obtain ⟨-, hnodup, hplaced⟩ := h
  rw [held_order, map_key_orderedPanels]
  refine ⟨by simpa using hroom', ?_, hplaced⟩
  rw [List.map_append, List.map_map, List.nodup_append]
  refine ⟨hnodup, ?_, ?_⟩
  · exact List.Nodup.map (fun a b hab => by simpa using hab) List.nodup_range
  · intro a ha b hb hab
    obtain ⟨x, hx, rfl⟩ := List.mem_map.mp ha
    obtain ⟨k, hk, rfl⟩ := List.mem_map.mp hb
    have hk' : k < count := List.mem_range.mp hk
    simp only [Function.comp_apply] at hab
    exact hfresh' x hx ⟨by omega, by omega⟩

/-! ## O6, Law 1 -/

theorem itemsLawful_of_lawView (hview : t.lawView = s.lawView) (h : s.itemsLawful) : t.itemsLawful := by
  refine itemsLawful_congr (held_of_lawView hview) ?_ h
  rw [itemsLawful_iff] at h
  obtain ⟨-, -, hplaced⟩ := h
  rw [← placed_lawView, hview, placed_lawView]
  exact hplaced

theorem itemsLawful_of_empty (h : t.held = []) (hnext : t.lay.next = none) : t.itemsLawful := by
  rw [itemsLawful_iff, h]
  exact ⟨Nat.zero_le _, .nil, placed_of_next_none hnext⟩

theorem Effect.keeps_itemsLawful (e : Effect s t) (h : s.itemsLawful) : t.itemsLawful := by
  cases e with
  | quiet _ hview => exact itemsLawful_of_lawView hview h
  | power => exact itemsLawful_of_empty rfl rfl
  | start => exact itemsLawful_of_empty rfl rfl
  | halt =>
    have hview := haltRole_lawView { s with stn := .halted }
    split at hview
    · exact itemsLawful_of_lawView (s := { s with stn := .halted, pos.errorRun := 0, set.zones := s.set.zones.map Zone.shut }) hview h
    · exact itemsLawful_of_lawView hview h
  | commitGap g hnext => exact itemsLawful_congr (held_commitGap hnext) (placed_plannedStart (q := s.lay.queued)) h
  | commitPanel p rest hnext hqueued => exact itemsLawful_congr (held_commitPanel hnext hqueued) placed_plannedStart h
  | endPanel l p hlaying hitem =>
    rw [itemsLawful_iff] at h
    rw [held_endPanel hlaying hitem] at h
    obtain ⟨hlength, hnodup, -⟩ := h
    exact (itemsLawful_iff _).mpr ⟨(Nat.le_succ _).trans hlength, (List.nodup_cons.mp hnodup).2, placed_of_laying_none rfl⟩
  | endGap l g hlaying hitem => exact itemsLawful_congr (held_endGap hlaying hitem) (placed_of_laying_none rfl) h
  | startItem n l hnext hlaying hbare => exact itemsLawful_congr (held_startItem hnext hlaying hbare) (placed_of_next_none rfl) h
  | returnNext p w hnext => exact itemsLawful_congr (held_returnNext hnext) (placed_of_next_none rfl) h
  | withdrawGap g w hnext => exact itemsLawful_congr (held_withdrawGap hnext) (placed_of_next_none rfl) h
  | order first count slot grade hok => exact orderLawful hok h
  | cancel first count =>
    rw [cancelOrder_eq]
    have hsub := held_cancel (s := s) _ (List.filter_sublist (p := fun x => !cancels first count x))
    rw [itemsLawful_iff] at h
    obtain ⟨hlength, hnodup, hplaced⟩ := h
    exact (itemsLawful_iff _).mpr ⟨hsub.length_le.trans hlength, hnodup.sublist (hsub.map _), hplaced⟩
  | table => rw [reformInfeed_eq]; exact h
  | _ => exact h

/-! ## O6, Law 2 -/

theorem slot_modifySlot (s : State) (k : Nat) (f : Slot → Slot) {n : Nat} (hn : n < 16) :
    (modifySlot k f s).slot n = if k = n then f (s.slot n) else s.slot n := by
  unfold modifySlot State.slot
  split
  · next h => subst h; simp [hn]
  · next h => simp [Vector.getElem?_setIfInBounds_ne h]

theorem slot_putSlot (s : State) (k : Nat) (sl : Slot) {n : Nat} (hn : n < 16) :
    (putSlot k sl s).slot n = if k = n then sl else s.slot n := slot_modifySlot s k (fun _ => sl) hn

/-- A panel's end lowers the count of its slot (R96). -/
theorem slotsLawful_endPanel {l : LayingItem} {p : Panel} (hlaying : s.lay.laying = some l) (hitem : l.item = .panel p)
    (h : s.slotsLawful) : (slotLoses p.slot { s with lay.laying := none }).slotsLawful := by
  rw [slotsLawful_iff] at h ⊢
  rw [held_endPanel hlaying hitem] at h
  obtain ⟨hslot, hcount⟩ := h
  refine ⟨fun x hx => hslot x (List.mem_cons_of_mem _ hx), fun n hn => ?_⟩
  obtain ⟨hinUse, hready⟩ := hcount n hn
  have hheld : (slotLoses p.slot { s with lay.laying := none }).held = State.held { s with lay.laying := none } := rfl
  have hsame : State.slot { s with lay.laying := none } n = s.slot n := rfl
  rw [hheld, slot_slotLoses _ _ hn, hsame]
  rw [List.countP_cons] at hinUse
  by_cases hp : p.slot = n
  · have hkey : (p.key.2 == n) = true := by simpa [Panel.key] using hp
    rw [if_pos hp]
    rw [if_pos hkey] at hinUse
    exact ⟨Nat.sub_eq_of_eq_add hinUse, fun hpos => hready (by simp only at hpos; omega)⟩
  · have hkey : ¬(p.key.2 == n) = true := by simpa [Panel.key] using hp
    rw [if_neg hp]
    rw [if_neg hkey] at hinUse
    exact ⟨hinUse, hready⟩

/-- An order raises the count of its slot by its panels (R96, R119). -/
theorem slotsLawful_order {first count slot grade : Nat} (hok : orderRefusal s first count slot grade = none) (hslot : slot < 16)
    (h : s.slotsLawful) : (slotGains slot count
      { s with lay.queued := s.lay.queued ++ orderedPanels (s.slot slot) first count slot grade }).slotsLawful := by
  obtain ⟨hready, -, -⟩ := orderRefusal_eq_none hok
  rw [slotsLawful_iff] at h ⊢
  obtain ⟨hslots, hcount⟩ := h
  have hheld : (slotGains slot count
      { s with lay.queued := s.lay.queued ++ orderedPanels (s.slot slot) first count slot grade }).held
      = s.held ++ (List.range count).map fun k => (first + k, slot) := by
    rw [← map_key_orderedPanels (s.slot slot) first count slot grade]
    exact held_order _
  rw [hheld]
  refine ⟨fun x hx => ?_, fun n hn => ?_⟩
  · rcases List.mem_append.mp hx with hx | hx
    · exact hslots x hx
    · obtain ⟨k, -, rfl⟩ := List.mem_map.mp hx
      exact hslot
  · obtain ⟨hinUse, hready'⟩ := hcount n hn
    have hsame : State.slot { s with lay.queued := s.lay.queued ++ orderedPanels (s.slot slot) first count slot grade } n = s.slot n := rfl
    rw [slotGains, slot_modifySlot _ _ _ hn, hsame, List.countP_append, List.countP_map]
    by_cases hp : slot = n
    · subst hp
      rw [if_pos rfl]
      refine ⟨?_, fun _ => hready⟩
      have hall : (List.range count).countP ((fun x : Nat × Nat => x.2 == slot) ∘ fun k => (first + k, slot)) = count := by
        rw [List.countP_eq_length.mpr (fun k _ => by simp), List.length_range]
      rw [hall]
      simp only
      omega
    · rw [if_neg hp]
      refine ⟨?_, hready'⟩
      have hnone : (List.range count).countP ((fun x : Nat × Nat => x.2 == n) ∘ fun k => (first + k, slot)) = 0 :=
        List.countP_eq_zero.mpr fun k _ => by simpa using hp
      omega

theorem countP_filter_not_cancels (l : List Panel) (first count n : Nat) :
    (l.filter fun x => !cancels first count x).countP (fun x => x.slot == n)
      = l.countP (fun x => x.slot == n) - l.countP fun x => cancels first count x && x.slot == n := by
  induction l with
  | nil => rfl
  | cons p l ih =>
    have hle : l.countP (fun x => cancels first count x && x.slot == n) ≤ l.countP fun x => x.slot == n :=
      List.countP_mono_left fun x _ hx => (Bool.and_eq_true_iff.mp hx).2
    rw [List.filter_cons]
    cases hc : cancels first count p with
    | true => cases hp : p.slot == n <;> simp [hc, hp, ih]
    | false =>
      cases hp : p.slot == n with
      | true => simp only [hc, hp, Bool.not_false, if_true, List.countP_cons, ih, Bool.false_and, if_false, Bool.false_eq_true]; omega
      | false => simp [hc, hp, ih]

/-- A cancel lowers the counts by the panels that leave (R96, R120). -/
theorem slotsLawful_cancel {first count : Nat} (h : s.slotsLawful) : (cancelOrder first count s).slotsLawful := by
  rw [slotsLawful_iff] at h ⊢
  obtain ⟨hslots, hcount⟩ := h
  have hheld : (cancelOrder first count s).held
      = State.held { s with lay.queued := s.lay.queued.filter fun x => !cancels first count x } := by rw [cancelOrder_eq]; rfl
  have hsub := held_cancel (s := s) _ (List.filter_sublist (p := fun x => !cancels first count x))
  rw [hheld]
  refine ⟨fun x hx => hslots x (hsub.subset hx), fun n hn => ?_⟩
  obtain ⟨hinUse, hready⟩ := hcount n hn
  rw [slot_cancelOrder _ _ _ hn]
  refine ⟨?_, fun hpos => hready (by simp only at hpos; omega)⟩
  have hkeys : ∀ l : List Panel, (l.map Panel.key).countP (fun x => x.2 == n) = l.countP fun x => x.slot == n := fun l => by
    rw [List.countP_map]; rfl
  have hle : s.lay.queued.countP (fun x => cancels first count x && x.slot == n) ≤ s.lay.queued.countP fun x => x.slot == n :=
    List.countP_mono_left fun x _ hx => (Bool.and_eq_true_iff.mp hx).2
  simp only [State.held, heldOf, List.countP_append, hkeys, countP_filter_not_cancels] at hinUse ⊢
  omega

/-- A request to the store leaves the slots in use as they are (R89, R90, R95). -/
theorem slotsLawful_store {k : Nat} {sl : Slot} (hinUse : sl.inUse = (s.slot k).inUse)
    (hkeeps : 0 < (s.slot k).inUse → (s.slot k).state = .ready → sl = s.slot k) (h : s.slotsLawful) :
    (putSlot k sl s).slotsLawful := by
  rw [slotsLawful_iff] at h ⊢
  obtain ⟨hslots, hcount⟩ := h
  refine ⟨hslots, fun n hn => ?_⟩
  have hheld : (putSlot k sl s).held = s.held := rfl
  rw [hheld, slot_putSlot _ _ _ hn]
  obtain ⟨hcount', hready⟩ := hcount n hn
  by_cases hkn : k = n
  · subst hkn
    rw [if_pos rfl]
    refine ⟨hinUse.trans hcount', fun hpos => ?_⟩
    have hpos' : 0 < (s.slot k).inUse := by omega
    rw [hkeeps hpos' (hready hpos')]
    exact hready hpos'
  · rw [if_neg hkn]
    exact ⟨hcount', hready⟩

theorem slotsLawful_of_blank (hheld : t.held = []) (hslots : ∀ n, t.slot n = Slot.blank) : t.slotsLawful := by
  rw [slotsLawful_iff, hheld]
  refine ⟨(fun x hx => nomatch hx), fun n _ => ?_⟩
  rw [hslots]
  exact ⟨rfl, fun hpos => absurd hpos (by decide)⟩

theorem slot_replicate_blank (n : Nat) (h : t.slots = Vector.replicate 16 Slot.blank) : t.slot n = Slot.blank := by
  rw [State.slot, h, Vector.getElem?_replicate]
  split <;> rfl

theorem Effect.keeps_slotsLawful (e : Effect s t) (h : s.slotsLawful) : t.slotsLawful := by
  cases e with
  | quiet _ hview => exact slotsLawful_congr (held_of_lawView hview) (congrArg (fun u => u.slots) hview) h
  | power => exact slotsLawful_of_blank rfl fun n => slot_replicate_blank n rfl
  | start => exact slotsLawful_of_blank rfl fun n => slot_replicate_blank n rfl
  | halt =>
    have hview := haltRole_lawView { s with stn := .halted }
    split at hview
    · exact slotsLawful_congr (s := s)
        (held_of_lawView (s := { s with stn := .halted, pos.errorRun := 0, set.zones := s.set.zones.map Zone.shut }) hview)
        (congrArg (fun u => u.slots) hview) h
    · exact slotsLawful_congr (s := s) (held_of_lawView (s := { s with stn := .halted }) hview) (congrArg (fun u => u.slots) hview) h
  | commitGap g hnext => exact slotsLawful_congr (held_commitGap hnext) rfl h
  | commitPanel p rest hnext hqueued => exact slotsLawful_congr (held_commitPanel hnext hqueued) rfl h
  | endPanel l p hlaying hitem => exact slotsLawful_endPanel hlaying hitem h
  | endGap l g hlaying hitem => exact slotsLawful_congr (held_endGap hlaying hitem) rfl h
  | startItem n l hnext hlaying hbare => exact slotsLawful_congr (held_startItem hnext hlaying hbare) rfl h
  | returnNext p w hnext => exact slotsLawful_congr (held_returnNext hnext) rfl h
  | withdrawGap g w hnext => exact slotsLawful_congr (held_withdrawGap hnext) rfl h
  | order first count slot grade hok hslot => exact slotsLawful_order hok hslot h
  | cancel => exact slotsLawful_cancel h
  | store n sl hn hinUse hkeeps => exact slotsLawful_store hinUse hkeeps h
  | table => rw [reformInfeed_eq]; exact h
  | _ => exact h

theorem Fires.held (h : Fires s t) : t.held = s.held := held_of_lawView (s := { s with sup.pressFire := true }) h.view

/-- Settles O6: items move to the front of the queue with their slots, an order's ids are new and its slot READY, and a slot in use is
locked. -/
theorem stepKeepsPanelQueueAndSlots : Obligations.StepKeepsPanelQueueAndSlots := by
  unfold Obligations.StepKeepsPanelQueueAndSlots
  refine ⟨fun s t => step_keeps Effect.keeps_itemsLawful ?_ ?_, fun s t => step_keeps Effect.keeps_slotsLawful ?_ ?_⟩
  · rintro _ _ ⟨⟩ h; exact h
  · intro u v hfires h
    exact itemsLawful_of_lawView (s := { u with sup.pressFire := true }) hfires.view h
  · rintro _ _ ⟨⟩ h; exact h
  · intro u v hfires h
    exact slotsLawful_congr hfires.held (congrArg (fun u => u.slots) hfires.view) h

end

end Sys2Proof.Machine
end

section
/-! PROOFS. O7: the infeed limit (Law 3) and the own ceiling (Law 11, R105, R134). What a ceiling rests on is written together with it
(`setOwn`), or left alone. -/

namespace Sys2Proof.Machine

section
variable {s t : State}

/-! ## Law 3: the infeed (R100, R103) -/

theorem infeedLawful_of_lawView (h : t.lawView = s.lawView) (hs : s.infeedLawful) : t.infeedLawful := by
  have hlaw : ∀ u : State, u.lawView.infeedLawful ↔ u.infeedLawful := fun _ => Iff.rfl
  rw [← hlaw, h]
  exact (hlaw s).mpr hs

theorem isRole_iff (s : State) (r : Role) : s.isRole r = true ↔ s.live = true ∧ s.role = some r := by simp [State.isRole]

/-- A change between live states leaves the role in force. -/
theorem isRole_of_state {x : StationState} {r : Role} (hlive : s.live = true) (h : State.isRole { s with stn := x } r = true) :
    s.isRole r = true :=
  (isRole_iff s r).mpr ⟨hlive, ((isRole_iff _ r).mp h).2⟩

theorem infeedLawful_of_dead (h : t.live = false) : t.infeedLawful := fun hrole => by simp [State.isRole, h] at hrole

theorem clampInt_toNat_le (hi : Nat) (x : Int) : (clampInt 0 hi x).toNat ≤ hi := by
  unfold clampInt
  split_ifs <;> omega

/-- A changed ceiling table re-forms the limit where it is read, and clamps the reference (R103). -/
theorem infeedLawful_table (tb : Vector CeilingEntry 7) (h : s.infeedLawful) :
    (reformInfeed { s with spd.table := tb }).infeedLawful := by
  unfold reformInfeed
  split
  · exact infeedLawful_of_lawView (reformOwn_lawView _) fun _ => ⟨rfl, Nat.min_le_right ..⟩
  · next hsame =>
    intro hrole
    have hrole' : s.isRole .head = true := hrole
    obtain ⟨-, href⟩ := h hrole'
    refine ⟨?_, href⟩
    by_contra hne
    exact hsame ⟨hrole, fun e => hne e.symm⟩

theorem Effect.keeps_infeedLawful (e : Effect s t) (h : s.infeedLawful) : t.infeedLawful := by
  cases e with
  | quiet _ hview => exact infeedLawful_of_lawView hview h
  | power => exact infeedLawful_of_dead rfl
  | configFault => exact infeedLawful_of_dead rfl
  | start cfg =>
    refine fun _ => ⟨?_, Nat.le_refl _⟩
    have hnever : ∀ n : Station, (((Vector.replicate 7 CeilingEntry.neverHeard)[n.toNat]?).getD .neverHeard) = .neverHeard := fun n => by
      rw [Vector.getElem?_replicate]; split <;> rfl
    show 0 = min _ (CeilingEntry.standing (((Vector.replicate 7 CeilingEntry.neverHeard)[_]?).getD .neverHeard))
    rw [hnever]
    exact (Nat.min_zero _).symm
  | state x hlive => exact fun hrole => h (isRole_of_state hlive hrole)
  | halt hlive =>
    have hhalted : State.infeedLawful { s with stn := .halted } := fun hrole => h (isRole_of_state hlive hrole)
    have hview := haltRole_lawView { s with stn := .halted }
    split at hview
    · exact infeedLawful_of_lawView (s := { s with stn := .halted, pos.errorRun := 0, set.zones := s.set.zones.map Zone.shut }) hview
        hhalted
    · exact infeedLawful_of_lawView hview hhalted
  | cancel => rw [cancelOrder_eq]; exact h
  | table tb => exact infeedLawful_table tb h
  | feed x => exact fun hrole => ⟨(h hrole).1, clampInt_toNat_le ..⟩
  | _ => exact h

/-! ## Law 11 and R134: the own ceiling of a SETTER and of the SUPPLY -/

theorem ceilingLawful_of_lawView (h : t.lawView = s.lawView) (hs : s.ceilingLawful) : t.ceilingLawful := by
  have hlaw : ∀ u : State, u.lawView.ceilingLawful ↔ u.ceilingLawful := fun _ => Iff.rfl
  rw [← hlaw, h]
  exact (hlaw s).mpr hs

theorem ceilingLawful_of_dead (h : t.live = false) : t.ceilingLawful :=
  ⟨fun hrole => by simp [State.isRole, h] at hrole, fun hrole => by simp [State.isRole, h] at hrole⟩

/-- An own ceiling just taken is the role unit's. -/
theorem setOwn_ceilingLawful (s : State) : (setOwn s).ceilingLawful := by
  refine ⟨fun hrole => ?_, fun hrole => ?_⟩
  · obtain ⟨-, hsetter⟩ : s.live = true ∧ s.role = some .setter := (isRole_iff s _).mp hrole
    show roleCeiling s = chestCeiling s
    simp [roleCeiling, hsetter]
  · obtain ⟨-, hsupply⟩ : s.live = true ∧ s.role = some .supply := (isRole_iff s _).mp hrole
    show roleCeiling s = supplyCeiling s
    simp [roleCeiling, hsupply]

theorem setOwn_ceiling_of_head (h : s.isRole .head = true) : ((setOwn s).spd.ownValue, (setOwn s).spd.ownReason) = headCeiling s := by
  obtain ⟨-, hhead⟩ : s.live = true ∧ s.role = some .head := (isRole_iff s _).mp h
  show roleCeiling s = headCeiling s
  simp [roleCeiling, hhead]

/-- Shutting a zone leaves its setpoint and its reading, which are all the chest ceiling reads. -/
theorem coldest_shut (s : State) : coldest { s with set.zones := s.set.zones.map Zone.shut } = coldest s := by
  have hused : (s.set.zones.map Zone.shut).filter Zone.inUse = (s.set.zones.filter Zone.inUse).map Zone.shut := by
    rw [List.filter_map]; rfl
  unfold coldest
  simp only
  rw [hused, List.any_map, List.filterMap_map]
  rfl

theorem chestCeiling_shut (s : State) : chestCeiling { s with set.zones := s.set.zones.map Zone.shut } = chestCeiling s := by
  have hany : (s.set.zones.map Zone.shut).any Zone.inUse = s.set.zones.any Zone.inUse := by rw [List.any_map]; rfl
  unfold chestCeiling
  simp only [hany, coldest_shut]
  rfl

theorem ceilingLawful_shut (h : s.ceilingLawful) : State.ceilingLawful { s with set.zones := s.set.zones.map Zone.shut } := by
  obtain ⟨hsetter, hsupply⟩ := h
  exact ⟨fun hrole => (hsetter hrole).trans (chestCeiling_shut s).symm, hsupply⟩

/-- A change between live states leaves the role. -/
theorem ceilingLawful_state {x : StationState} (hlive : s.live = true) (h : s.ceilingLawful) : State.ceilingLawful { s with stn := x } := by
  obtain ⟨hsetter, hsupply⟩ := h
  exact ⟨fun hrole => hsetter (isRole_of_state hlive hrole), fun hrole => hsupply (isRole_of_state hlive hrole)⟩

theorem Effect.keeps_ceilingLawful (e : Effect s t) (h : s.ceilingLawful) : t.ceilingLawful := by
  cases e with
  | quiet _ hview => exact ceilingLawful_of_lawView hview h
  | power => exact ceilingLawful_of_dead rfl
  | configFault => exact ceilingLawful_of_dead rfl
  | state x hlive => exact ceilingLawful_state hlive h
  | halt hlive =>
    have hhalted := ceilingLawful_state (x := .halted) hlive h
    have hview := haltRole_lawView { s with stn := .halted }
    split at hview
    · exact ceilingLawful_of_lawView (s := { s with stn := .halted, pos.errorRun := 0, set.zones := s.set.zones.map Zone.shut }) hview
        (ceilingLawful_shut hhalted)
    · exact ceilingLawful_of_lawView hview hhalted
  | cancel => rw [cancelOrder_eq]; exact h
  | table tb =>
    unfold reformInfeed
    split
    · exact ceilingLawful_of_lawView (reformOwn_lawView _) (setOwn_ceilingLawful _)
    · exact h
  | shut => exact ceilingLawful_shut h
  | start => exact setOwn_ceilingLawful _
  | commitGap => exact setOwn_ceilingLawful _
  | commitPanel => exact setOwn_ceilingLawful _
  | endPanel => exact setOwn_ceilingLawful _
  | endGap => exact setOwn_ceilingLawful _
  | startItem => exact setOwn_ceilingLawful _
  | returnNext => exact setOwn_ceilingLawful _
  | withdrawGap => exact setOwn_ceilingLawful _
  | splice => exact setOwn_ceilingLawful _
  | zones => exact setOwn_ceilingLawful _
  | _ => exact h

/-! ## R105: the HEAD's own ceiling -/

/-- A panel of the committed set: LAYING or NEXT (R110). -/
def State.commits (s : State) (p : Panel) : Prop :=
  (∃ l, s.lay.laying = some l ∧ l.item = .panel p) ∨ ∃ n, s.lay.next = some n ∧ n.item = .panel p

theorem key_mem_held {p : Panel} (h : s.commits p) : p.key ∈ s.held := by
  rcases h with ⟨l, hlaying, hitem⟩ | ⟨n, hnext, hitem⟩
  · simp [State.held, heldOf, hlaying, hitem, Item.keys]
  · simp [State.held, heldOf, hnext, hitem, Item.keys]

/-- The slot of a committed panel is in use, and READY (R96). -/
theorem slotsLawful_commits {p : Panel} (hlaw : s.slotsLawful) (h : s.commits p) :
    p.slot < 16 ∧ 0 < (s.slot p.slot).inUse ∧ (s.slot p.slot).state = .ready := by
  have hmem := key_mem_held h
  rw [slotsLawful_iff] at hlaw
  obtain ⟨hslots, hcount⟩ := hlaw
  have hslot : p.slot < 16 := hslots _ hmem
  obtain ⟨hinUse, hready⟩ := hcount _ hslot
  have hpos : 0 < (s.slot p.slot).inUse := by
    rw [hinUse]
    exact List.countP_pos_iff.mpr ⟨p.key, hmem, by simp [Panel.key]⟩
  exact ⟨hslot, hpos, hready hpos⟩

/-- The HEAD's ceiling rests on the committed items, the tables of their slots and the infeed limit. -/
theorem headCeiling_congr (hlaying : t.lay.laying = s.lay.laying) (hnext : t.lay.next = s.lay.next)
    (hlimit : t.lay.infeedLimit = s.lay.infeedLimit) (hcfg : t.cfg = s.cfg)
    (hslots : ∀ p, s.commits p → (t.slot p.slot).derived = (s.slot p.slot).derived) : headCeiling t = headCeiling s := by
  have hconf : t.conf = s.conf := by unfold State.conf; rw [hcfg]
  have hterms : ∀ i : Item, (∀ p, i = .panel p → s.commits p) → itemTerms t i = itemTerms s i := by
    intro i hi
    cases i with
    | panel p => simp only [itemTerms, Slot.geoms, hslots p (hi p rfl), hlimit, hconf]
    | gap g => simp only [itemTerms, hlimit]
  have hl : (match s.lay.laying with
      | some l => itemTerms t l.item
      | none => [(s.lay.infeedLimit, .infeed)]) = match s.lay.laying with
      | some l => itemTerms s l.item
      | none => [(s.lay.infeedLimit, .infeed)] := by
    cases hls : s.lay.laying with
    | none => rfl
    | some l => exact hterms l.item fun p hp => .inl ⟨l, hls, hp⟩
  have hn : (match s.lay.next with
      | some n => itemTerms t n.item
      | none => []) = match s.lay.next with
      | some n => itemTerms s n.item
      | none => [] := by
    cases hns : s.lay.next with
    | none => rfl
    | some n => exact hterms n.item fun p hp => .inr ⟨n, hns, hp⟩
  unfold headCeiling
  simp only [hlaying, hnext, hlimit, hconf]
  exact congrArg₂ (fun a b => (a ++ b).foldl lesserTerm (s.conf.outfeedMax, Reason.outfeedMax)) hl hn

/-- What the statement keeps at the HEAD. -/
def State.headLawful (s : State) : Prop := s.isRole .head = true → (s.spd.ownValue, s.spd.ownReason) = headCeiling s

theorem headLawful_of_lawView (h : t.lawView = s.lawView) (hs : s.headLawful) : t.headLawful := by
  have hlaw : ∀ u : State, u.lawView.headLawful ↔ u.headLawful := fun u => by
    unfold State.headLawful
    rw [headCeiling_lawView]
    rfl
  rw [← hlaw, h]
  exact (hlaw s).mpr hs

theorem setOwn_headLawful (s : State) : (setOwn s).headLawful := fun hrole => setOwn_ceiling_of_head (s := s) hrole

theorem headLawful_of_dead (h : t.live = false) : t.headLawful := fun hrole => by simp [State.isRole, h] at hrole

theorem headLawful_state {x : StationState} (hlive : s.live = true) (h : s.headLawful) : State.headLawful { s with stn := x } :=
  fun hrole => h (isRole_of_state hlive hrole)

/-- In-use counts and QUEUED panels are no part of the ceiling. -/
theorem headLawful_of_derived {u : State} (hsame : u.isRole .head = s.isRole .head ∧ u.spd = s.spd)
    (hceiling : headCeiling u = headCeiling s) (h : s.headLawful) : u.headLawful := by
  unfold State.headLawful
  rw [hsame.1, hsame.2, hceiling]
  exact h

theorem slot_derived_modifySlot {k : Nat} {f : Slot → Slot} (hf : ∀ sl, (f sl).derived = sl.derived) {n : Nat} (hn : n < 16) :
    ((modifySlot k f s).slot n).derived = (s.slot n).derived := by
  rw [slot_modifySlot _ _ _ hn]
  split
  · exact hf _
  · rfl

theorem Effect.keeps_headLawful (e : Effect s t) (hslots : s.slotsLawful) (h : s.headLawful) : t.headLawful := by
  cases e with
  | quiet _ hview => exact headLawful_of_lawView hview h
  | power => exact headLawful_of_dead rfl
  | configFault => exact headLawful_of_dead rfl
  | state x hlive => exact headLawful_state hlive h
  | halt hlive =>
    have hhalted := headLawful_state (x := .halted) hlive h
    have hview := haltRole_lawView { s with stn := .halted }
    split at hview
    · exact headLawful_of_lawView (s := { s with stn := .halted, pos.errorRun := 0, set.zones := s.set.zones.map Zone.shut }) hview hhalted
    · exact headLawful_of_lawView hview hhalted
  | order first count slot grade hok hslot =>
    refine headLawful_of_derived (s := s) ⟨rfl, rfl⟩ (headCeiling_congr rfl rfl rfl rfl fun p hp => ?_) h
    exact slot_derived_modifySlot (f := fun sl => { sl with inUse := sl.inUse + count }) (fun _ => rfl)
      (slotsLawful_commits hslots hp).1
  | cancel first count =>
    refine headLawful_of_derived (s := s) (by rw [cancelOrder_eq]; exact ⟨rfl, rfl⟩) (headCeiling_congr ?_ ?_ ?_ ?_ fun p hp => ?_) h
    · rw [cancelOrder_eq]
    · rw [cancelOrder_eq]
    · rw [cancelOrder_eq]
    · rw [cancelOrder_eq]
    · rw [slot_cancelOrder _ _ _ (slotsLawful_commits hslots hp).1]
  | store n sl hn hinUse hkeeps =>
    refine headLawful_of_derived (s := s) ⟨rfl, rfl⟩ (headCeiling_congr rfl rfl rfl rfl fun p hp => ?_) h
    obtain ⟨hslot, huse, hready⟩ := slotsLawful_commits hslots hp
    rw [slot_putSlot _ _ _ hslot]
    split
    · next hnp => subst hnp; rw [hkeeps huse hready]
    · rfl
  | table tb =>
    unfold reformInfeed
    split
    · exact headLawful_of_lawView (reformOwn_lawView _) (setOwn_headLawful _)
    · exact h
  | start => exact setOwn_headLawful _
  | commitGap => exact setOwn_headLawful _
  | commitPanel => exact setOwn_headLawful _
  | endPanel => exact setOwn_headLawful _
  | endGap => exact setOwn_headLawful _
  | startItem => exact setOwn_headLawful _
  | returnNext => exact setOwn_headLawful _
  | withdrawGap => exact setOwn_headLawful _
  | splice => exact setOwn_headLawful _
  | zones => exact setOwn_headLawful _
  | _ => exact h

/-- Settles O7: the infeed limit follows the ceiling table, and the own ceiling is written where what it rests on is. -/
theorem stepKeepsSpeedLimitLaws : Obligations.StepKeepsSpeedLimitLaws := by
  unfold Obligations.StepKeepsSpeedLimitLaws
  refine ⟨fun s t => step_keeps Effect.keeps_infeedLawful ?_ ?_, fun s t => step_keeps Effect.keeps_ceilingLawful ?_ ?_,
    fun s t hstep hslots hhead => ?_⟩
  · rintro _ _ ⟨⟩ h; exact h
  · intro u v hfires h
    exact infeedLawful_of_lawView (s := { u with sup.pressFire := true }) hfires.view h
  · rintro _ _ ⟨⟩ h; exact h
  · intro u v hfires h
    exact ceilingLawful_of_lawView (s := { u with sup.pressFire := true }) hfires.view h
  · refine (step_keeps (P := fun s => s.slotsLawful ∧ s.headLawful) ?_ ?_ ?_ hstep ⟨hslots, hhead⟩).2
    · exact fun e ⟨hu, hv⟩ => ⟨e.keeps_slotsLawful hu, e.keeps_headLawful hu hv⟩
    · rintro _ _ ⟨⟩ h; exact h
    · intro u v hfires ⟨hu, hv⟩
      exact ⟨slotsLawful_congr hfires.held (congrArg (fun u => u.slots) hfires.view) hu,
        headLawful_of_lawView (s := { u with sup.pressFire := true }) hfires.view hv⟩

end

end Sys2Proof.Machine
end

section
/-! PROOFS. O12: the commands that are not about the work leave it. What they write beside the view `sansHalt` of Laws/Frame is no part of
the work, so that a chain of shared operations carries `keepsWork` along. -/

namespace Sys2Proof.Machine

section
variable {o s t : State}

/-! ## The work along a chain of operations -/

/-- A shared operation that keeps the view `sansHalt` keeps the work. -/
theorem State.keepsWork.op (h : o.keepsWork s) (e : t.sansHalt = s.sansHalt) : o.keepsWork t :=
  keepsWork_trans h (keepsWork_of_sansHalt e)

theorem receive_keepsWork {kind : Nat} {sender : Station} {p : List Byte} {deliver : Latch → State → State}
    (hdeliver : ∀ l t, s.keepsWork t → s.keepsWork (deliver l t)) : s.keepsWork (receive kind sender p deliver s) := by
  have hself : s.keepsWork s := keepsWork_refl s
  rcases receive_cases kind sender p deliver s with e | e | e | ⟨l, e⟩
  · rw [e]; exact hself
  · rw [e]; exact hself
  · rw [e]; exact hself
  · rw [e]; exact hdeliver l (dropLatch s) hself

theorem answerDelayed_keepsWork {d : Delayed} {code : ReqCode} (h : o.keepsWork s) : o.keepsWork (answerDelayed d code s) := by
  unfold answerDelayed
  split
  · split <;> exact h
  · exact h

/-- The Message Unit's own answers are no part of the work. -/
theorem receiveRequest_keepsWork {code : ReqCode} {sender : Station} {p : List Byte} {serve : Byte → ReqBody → State → State}
    (hserve : ∀ id b t, s.keepsWork t → s.keepsWork (serve id b t)) : s.keepsWork (receiveRequest code sender p serve s) :=
  receive_keepsWork fun _ t ht => by
    split
    · unfold examine
      split
      · exact ht
      · split
        · exact ht
        · split
          · exact answerDelayed_keepsWork ht
          · split_ifs
            · exact ht
            · exact ht
            · exact ht
            · exact hserve _ _ t ht
    · exact ht

theorem receiveAnswer_keepsWork {code : Byte} {sender : Station} {p : List Byte} {act : PendingReq → AnswerIn → State → State}
    (hact : ∀ q a t, s.keepsWork t → s.keepsWork (act q a t)) : s.keepsWork (receiveAnswer code sender p act s) :=
  receive_keepsWork fun _ t ht => by
    split
    · split
      · split
        · exact hact _ _ _ ht
        · exact ht
      · exact ht
    · exact ht

/-! ## Requests served -/

theorem serveSlot_keepsWork {sender : Station} {id : Byte} {b : ReqBody} (h : o.keepsWork s) : o.keepsWork (serveSlot sender id b s) := by
  unfold serveSlot
  split
  · split
    · exact (h.op (commitSlot_sansHalt ..)).op (settle_sansHalt _)
    · exact h
  · exact h

theorem serveOrder_keepsWork {sender : Station} {id : Byte} {b : ReqBody} (h : o.keepsWork s) : o.keepsWork (serveOrder sender id b s) := by
  unfold serveOrder
  split
  · split
    · exact h
    · exact h.op (placeOrder_sansHalt ..)
  · exact h

theorem serveCancel_keepsWork {sender : Station} {id : Byte} {b : ReqBody} (h : o.keepsWork s) :
    o.keepsWork (serveCancel sender id b s) := by
  unfold serveCancel
  split
  · exact h.op (cancelOrder_sansHalt ..)
  · exact h

theorem serveBlock_keepsWork {sender : Station} {id : Byte} {b : ReqBody} (h : o.keepsWork s) : o.keepsWork (serveBlock sender id b s) := by
  unfold serveBlock
  split <;> exact h

theorem serveCommit_keepsWork {sender : Station} {id : Byte} {b : ReqBody} (h : o.keepsWork s) :
    o.keepsWork (serveCommit sender id b s) := by
  unfold serveCommit
  split <;> exact h

theorem serveClear_keepsWork {sender : Station} {id : Byte} {b : ReqBody} (h : o.keepsWork s) : o.keepsWork (serveClear sender id b s) := by
  unfold serveClear
  split <;> exact h

theorem serveSetpoint_keepsWork {sender : Station} {id : Byte} {b : ReqBody} (h : o.keepsWork s) :
    o.keepsWork (serveSetpoint sender id b s) := by
  unfold serveSetpoint
  split
  · split
    · exact h
    · simp only
      split
      · exact h
      · exact h.op ((reformChest_sansHalt _).trans (onZone_sansHalt ..))
  · exact h

/-! ## Positions, the map, the festoon and the zones -/

theorem judgeError_keepsWork {e : Int} (h : o.keepsWork s) : o.keepsWork (judgeError e s) := by
  unfold judgeError
  split
  · exact h
  · split
    · exact h
    · exact State.keepsWork.op (s := { s with pos.errorRun := 0 }) h (localCause_sansHalt ..)

theorem register_keepsWork {ref : Word} {l : Latch} (h : o.keepsWork s) : o.keepsWork (register ref l s) := by
  unfold register
  split
  · have hcaptured : o.keepsWork { s with pos.offset := expectedMap s ref - l.ch0, pos.reg := .tracking, pos.errorRun := 0 } := h
    exact ((hcaptured.op (settle_sansHalt _)).op (windowTest_sansHalt _)).op (cadence_sansHalt ..)
  · have hslewed : o.keepsWork { s with
        pos.offset := s.pos.offset + wordOfInt (clampInt (-Config.slewClamp) Config.slewClamp (sdiff (expectedMap s ref) l.map)) } := h
    exact judgeError_keepsWork ((hslewed.op (settle_sansHalt _)).op (cadence_sansHalt ..))
  · exact h

theorem takePosition_keepsWork {m : PositionMsg} {l : Latch} (h : o.keepsWork s) : o.keepsWork (takePosition m l s) := by
  unfold takePosition
  split
  · exact h
  · exact register_keepsWork h
  · exact h

theorem hearNeighbour_keepsWork (h : o.keepsWork s) : o.keepsWork (hearNeighbour s) :=
  State.keepsWork.op (s := { s with link.neighbourSilence := some s.conf.silenceLimit, ctl.neighbourHeard := true }) h
    (listenTest_sansHalt _)

theorem takePassEnd_keepsWork {m : PassEndIn} (h : o.keepsWork s) : o.keepsWork (takePassEnd m s) := by
  unfold takePassEnd
  split <;> exact h

theorem setFestoon_keepsWork {f : Festoon} (h : o.keepsWork s) : o.keepsWork (setFestoon f s) := by
  unfold setFestoon
  split
  · exact h
  · exact State.keepsWork.op (s := { s with sup.festoon := f }) h (handRollState_sansHalt _)

theorem festoonDoubt_keepsWork (h : o.keepsWork s) : o.keepsWork (festoonDoubt s) := by
  unfold festoonDoubt
  split
  · exact setFestoon_keepsWork (s := { s with sup.festoonHold := some Config.festoonHoldMs }) h
  · exact h

theorem goodFestoon_keepsWork {mm : Int} (h : o.keepsWork s) : o.keepsWork (goodFestoon mm s) := by
  have hread : o.keepsWork (setFestoon .good { s with sup.content := contentOf mm, sup.festoonHold := none }) := setFestoon_keepsWork h
  unfold goodFestoon emptyTest
  split
  · split
    · exact State.keepsWork.op (s := { setFestoon .good { s with sup.content := contentOf mm, sup.festoonHold := none } with
        sup.emptyMark := true }) hread (localCause_sansHalt ..)
    · exact hread
  · exact hread

theorem takeFestoon_keepsWork {r : SensorReport} (h : o.keepsWork s) : o.keepsWork (takeFestoon r s) := by
  unfold takeFestoon
  split
  · exact goodFestoon_keepsWork (s := freshReport 0 s) h
  · exact festoonDoubt_keepsWork (s := freshReport 0 s) h

/-- A zone's record changes and the chest is re-formed. -/
theorem reformZone_sansHalt (z : Nat) (f : Zone → Zone) (s : State) : (reformChest (onZone z f s)).sansHalt = s.sansHalt :=
  (reformChest_sansHalt _).trans (onZone_sansHalt ..)

theorem takeZone_keepsWork {r : SensorReport} (h : o.keepsWork s) : o.keepsWork (takeZone r s) := by
  have hfresh : o.keepsWork (freshReport r.channel.toNat s) := h
  unfold takeZone
  simp only
  split
  · exact hfresh.op (goodZone_sansHalt ..)
  · exact hfresh.op (reformZone_sansHalt ..)

theorem becomesStale_keepsWork {channel : Nat} (h : o.keepsWork s) : o.keepsWork (becomesStale channel s) := by
  unfold becomesStale
  split_ifs
  · exact festoonDoubt_keepsWork h
  · exact h.op (reformZone_sansHalt ..)
  · exact h

/-! ## The Message Unit and Station Control -/

theorem giveUp_keepsWork {p : PendingReq} (h : o.keepsWork s) : o.keepsWork (giveUp p s) := by
  have hclosed : o.keepsWork { s with msg := s.msg.closeRequest p } := h
  have hgiven : o.keepsWork (giveOutcome p .undelivered { s with msg := s.msg.closeRequest p }) := by
    show o.keepsWork (slotOutcome p.entry .undelivered { s with msg := s.msg.closeRequest p })
    unfold slotOutcome
    split <;> exact hclosed
  exact hgiven.op (recordFault_sansHalt ..)

theorem neighbourLost_keepsWork (h : o.keepsWork s) : o.keepsWork (neighbourLost s) := by
  unfold neighbourLost
  split <;> exact h

theorem takeRunState_keepsWork {m : RunStateMsg} (h : o.keepsWork s) : o.keepsWork (takeRunState m s) := by
  have htaken : o.keepsWork { s with
      spd.setSpeed := min m.setSpeed s.roleMax
      ctl.lastClear := some m.clear
      ctl.entryClear := if s.stn = .halted ∧ s.ctl.entryClear = none then some m.clear else s.ctl.entryClear
      ctl.consoleHeard := true
      link.consoleSilence := some s.conf.silenceLimit } := h
  exact htaken.op (runStateActs_sansHalt ..)

theorem samplePins_keepsWork {rs : List PinRun} (h : o.keepsWork s) : o.keepsWork (samplePins rs s) := by
  have hport : (samplePins rs s).port.refDuty = s.port.refDuty ∧ (samplePins rs s).port.valveDuty = s.port.valveDuty := by
    rw [samplePins_port]; exact ⟨rfl, rfl⟩
  unfold State.keepsWork at h ⊢
  simp only [samplePins_cfg, samplePins_faultSender, samplePins_link, samplePins_spd, samplePins_pos, samplePins_lay, samplePins_sup,
    samplePins_pending, hport]
  exact h

/-! ## O12 -/

theorem exec_keepsWork {c : Instr} (hc : writesWork c = false) (h : exec c s = .next t) : s.keepsWork t := by
  have hs : s.keepsWork s := keepsWork_refl s
  cases c with
  | configFaultRepeatTimerExpiry =>
    cases h
    split
    · simp only
      split
      · split
        · exact hs
        · exact State.keepsWork.op (s := { s with ctl.repeatTimer := some Config.configFaultRepeatMs }) hs (postLasting_sansHalt ..)
      · exact hs
    · exact hs
  | eStopBecomesActive n =>
    cases h
    split
    · exact State.keepsWork.op (s := { s with port.eStop := true }) hs (localCause_sansHalt ..)
    · exact hs
  | eStopBecomesInactive n =>
    cases h
    split
    · exact State.keepsWork.op (s := { s with port.eStop := false }) hs (haltedExit_sansHalt _)
    · exact hs
  | webBreakBecomesActive n =>
    cases h
    split
    · exact State.keepsWork.op (s := { s with port.webBreak := true }) hs (localCause_sansHalt ..)
    · exact hs
  | webBreakBecomesInactive n =>
    cases h
    split
    · exact State.keepsWork.op (s := { s with port.webBreak := false }) hs (haltedExit_sansHalt _)
    · exact hs
  | lineStopPatternEnd n => cases h; split <;> exact hs
  | stopHeard n =>
    have hedge : s.keepsWork (noteEdge s) := hs.op (noteEdge_sansHalt s)
    cases h
    split
    · simp only
      split
      · exact hedge
      · split
        · exact hedge.op (haltHeard_sansHalt _)
        · exact hedge
    · exact hs
  | quietTimerExpiry =>
    cases h
    split
    · exact State.keepsWork.op (s := { s with ctl.quiet := none }) hs (haltedExit_sansHalt _)
    · exact hs
  | runState sender p =>
    cases h
    refine receive_keepsWork fun _ u hu => ?_
    split
    · exact takeRunState_keepsWork hu
    · exact hu
  | consoleSilenceTimerExpiry =>
    cases h
    split
    · exact State.keepsWork.op (s := { s with link.consoleSilence := none, ctl.consoleHeard := false }) hs (silence_sansHalt ..)
    · exact hs
  | neighbourSilenceTimerExpiry =>
    cases h
    split
    · exact neighbourLost_keepsWork
        (State.keepsWork.op (s := { s with link.neighbourSilence := none, ctl.neighbourHeard := false }) hs (silence_sansHalt ..))
    · exact hs
  | frameStart =>
    cases h
    split
    · exact hs.op (noteEdge_sansHalt s)
    · exact hs
  | transmitStart =>
    cases h
    split
    · split
      · split
        · exact hs.op (startFrame_sansHalt ..)
        · exact hs
      · exact hs
    · exact hs
  | frameWithdrawn bit => cases h; split <;> exact hs
  | frameCancelled bit =>
    cases h
    split
    · exact State.keepsWork.op (s := stopDriving (dropLatch s)) hs (cancelFlying_sansHalt _)
    · exact hs
  | frameComplete =>
    cases h
    split
    · exact State.keepsWork.op (s := stopDriving (dropLatch s)) hs (completeFlying_sansHalt _)
    · exact hs
  | brokenFrame chars =>
    cases h
    split
    · exact hs
    · split <;> exact hs
  | position sender p =>
    cases h
    refine receive_keepsWork fun _ u hu => ?_
    split
    · exact hearNeighbour_keepsWork (takePosition_keepsWork hu)
    · exact hu
  | panelPassStart sender p =>
    cases h
    refine receive_keepsWork fun _ u hu => ?_
    split
    · exact hu.op (takePassStart_sansHalt ..)
    · exact hu
  | panelPassEnd sender p =>
    cases h
    refine receive_keepsWork fun _ u hu => ?_
    split
    · exact takePassEnd_keepsWork hu
    · exact hu
  | seamAtHead sender p =>
    cases h
    refine receive_keepsWork fun _ u hu => ?_
    split
    · exact hu.op (takeSeamAtHead_sansHalt ..)
    · exact hu
  | seamAtSetter sender p =>
    cases h
    refine receive_keepsWork fun _ u hu => ?_
    split
    · exact hu.op (takeSeamAtSetter_sansHalt ..)
    · exact hu
  | seamSlot sender p => cases h; exact receiveRequest_keepsWork fun _ _ _ hu => serveSlot_keepsWork hu
  | panelOrder sender p => cases h; exact receiveRequest_keepsWork fun _ _ _ hu => serveOrder_keepsWork hu
  | orderCancel sender p => cases h; exact receiveRequest_keepsWork fun _ _ _ hu => serveCancel_keepsWork hu
  | patternBlock sender p => cases h; exact receiveRequest_keepsWork fun _ _ _ hu => serveBlock_keepsWork hu
  | patternCommit sender p => cases h; exact receiveRequest_keepsWork fun _ _ _ hu => serveCommit_keepsWork hu
  | patternClear sender p => cases h; exact receiveRequest_keepsWork fun _ _ _ hu => serveClear_keepsWork hu
  | setpoint sender p => cases h; exact receiveRequest_keepsWork fun _ _ _ hu => serveSetpoint_keepsWork hu
  | answerWait sender p => cases h; exact receiveAnswer_keepsWork fun _ _ _ hu => hu
  | answerBusy sender p => cases h; exact receiveAnswer_keepsWork fun _ _ _ hu => hu
  | repeatTimerExpiry entry =>
    cases h
    split
    · exact hs
    · split
      · exact hs
      · exact giveUp_keepsWork hs
  | holdTimerExpiry requester id =>
    cases h
    split
    · exact hs
    · split
      · have hdropped : s.keepsWork { s with msg := s.msg.dropDelayed requester id } := hs
        simp only
        split
        · exact (hdropped.op (withdrawSlot_sansHalt ..)).op (settle_sansHalt _)
        · exact hdropped
      · exact hs
  | keepAliveTimerExpiry =>
    cases h
    split
    · exact hs.op (handPosition_sansHalt s)
    · exact hs
  | postingTimerExpiry =>
    cases h
    split
    · exact hs.op (handCeiling_sansHalt s)
    · exact hs
  | bladeHomeBecomesActive rise =>
    have hpins : s.keepsWork (samplePins rise.others s) := samplePins_keepsWork hs
    cases h
    simp only
    split
    · split <;> exact hpins
    · exact hpins
  | bladeHomeTimerExpiry =>
    cases h
    split
    · simp only
      split
      · exact State.keepsWork.op (s := { s with lay.bladeTimer := none }) hs (localCause_sansHalt ..)
      · exact hs
    · exact hs
  | strokePulseEnd side => cases h; split <;> exact hs
  | pressTimerExpiry =>
    cases h
    split
    · exact State.keepsWork.op (s := { s with sup.pressTimer := none, sup.pressFire := false }) hs (localCause_sansHalt ..)
    · exact hs
  | festoonReading burst =>
    have hheard : s.keepsWork (hearSensor burst s) := hs
    cases h
    simp only
    split
    · split
      · exact takeFestoon_keepsWork hheard
      · exact hheard
    · exact hheard
  | festoonHoldTimerExpiry =>
    cases h
    split
    · have hlost : s.keepsWork (setFestoon .lost { s with sup.festoonHold := none }) := setFestoon_keepsWork hs
      exact (hlost.op (recordFault_sansHalt ..)).op (stopCause_sansHalt _)
    · exact hs
  | rollStateTimerExpiry =>
    cases h
    split
    · exact hs.op (handRollState_sansHalt s)
    · exact hs
  | zoneReport burst =>
    have hheard : s.keepsWork (hearSensor burst s) := hs
    cases h
    simp only
    split
    · split
      · exact takeZone_keepsWork hheard
      · exact hheard
    · exact hheard
  | zoneHoldTimerExpiry zone =>
    cases h
    split
    · split
      · exact hs.op (((reformChest_sansHalt _).trans (recordFault_sansHalt ..)).trans (onZone_sansHalt ..))
      · exact hs
    · exact hs
  | sampleTimerExpiry => cases h; split <;> exact hs
  | stalenessTimerExpiry channel =>
    cases h
    split
    · exact becomesStale_keepsWork (s := { s with port.staleness := s.port.staleness.setIfInBounds channel none }) hs
    · exact hs
  | sensorReportDropped burst => cases h; exact hs
  | busIdle n => cases h; split <;> exact hs
  | _ => exact nomatch hc

/-- Settles O12: the commands outside `writesWork` write what the view `sansHalt` blanks and what no part of the work is. -/
theorem otherCommandsKeepTheWork : Obligations.OtherCommandsKeepTheWork := by
  unfold Obligations.OtherCommandsKeepTheWork
  exact fun _ _ _ => exec_keepsWork

end

end Sys2Proof.Machine
end

section
/-! PROOFS. O13: the effective target is the least of its limits (R76), and the HEAD's own ceiling the least of its terms in the order of R105. -/

namespace Sys2Proof.Machine

section
variable {s : State}

/-! ## The effective target (R76) -/

theorem foldl_min_le (a : Nat) (l : List Nat) : l.foldl min a ≤ a ∧ ∀ x ∈ l, l.foldl min a ≤ x := by
  induction l generalizing a with
  | nil => exact ⟨Nat.le_refl a, by simp⟩
  | cons y l ih =>
    obtain ⟨hfirst, hrest⟩ := ih (min a y)
    refine ⟨hfirst.trans (Nat.min_le_left ..), fun x hx => ?_⟩
    rcases List.mem_cons.mp hx with rfl | hx
    · exact hfirst.trans (Nat.min_le_right ..)
    · exact hrest x hx

theorem foldl_min_mem (a : Nat) (l : List Nat) : l.foldl min a = a ∨ l.foldl min a ∈ l := by
  induction l generalizing a with
  | nil => exact .inl rfl
  | cons y l ih =>
    rcases ih (min a y) with h | h
    · rcases Nat.le_total a y with hle | hle
      · exact .inl (h.trans (Nat.min_eq_left hle))
      · exact .inr (List.mem_cons.mpr (.inl (h.trans (Nat.min_eq_right hle))))
    · exact .inr (List.mem_cons_of_mem _ h)

/-- The target of a station that has one. -/
theorem effectiveTarget_of_running (hstn : s.stn = .running) (hrole : s.role = some .head ∨ s.role = some .setter) :
    effectiveTarget s = s.lineValues.foldl min (min s.spd.setSpeed (min s.spd.ownValue s.conf.outfeedMax)) :=
  if_pos ⟨hstn, hrole⟩

theorem effectiveTarget_le (s : State) :
    effectiveTarget s ≤ s.lineValues.foldl min (min s.spd.setSpeed (min s.spd.ownValue s.conf.outfeedMax)) := by
  unfold effectiveTarget
  split
  · exact Nat.le_refl _
  · exact Nat.zero_le _

/-- The line values are the standing values of the other members' entries that are not flat (R75). -/
theorem mem_lineValues {v : Nat} : v ∈ s.lineValues ↔
    ∃ m : Station, m ≠ consoleStation ∧ s.otherMember m = true ∧ (s.entry m).flat = false ∧ (s.entry m).standing = v := by
  have hstation : ∀ m : Station, m ≠ consoleStation ↔ ∃ k, k < 7 ∧ BitVec.ofNat 3 k = m := by decide
  simp only [State.lineValues, State.otherMembers, List.mem_map, List.mem_filter, List.mem_range, hstation]
  constructor
  · rintro ⟨e, ⟨⟨m, ⟨hm, hother⟩, rfl⟩, hflat⟩, rfl⟩
    exact ⟨m, hm, hother, by simpa using hflat, rfl⟩
  · rintro ⟨m, hm, hother, hflat, rfl⟩
    exact ⟨s.entry m, ⟨⟨m, ⟨hm, hother⟩, rfl⟩, by simpa using hflat⟩, rfl⟩

/-! ## The terms of the HEAD's own ceiling (R104, R105) -/

/-- The terms of the committed items (R105). -/
def State.terms (s : State) : List Term :=
  (match s.lay.laying with
    | some l => itemTerms s l.item
    | none => [(s.lay.infeedLimit, .infeed)])
  ++ match s.lay.next with
    | some n => itemTerms s n.item
    | none => []

theorem headCeiling_eq (s : State) : headCeiling s = s.terms.foldl lesserTerm (s.conf.outfeedMax, .outfeedMax) := rfl

/-- A term is not above another: less, or equal and of no later reason (R105). -/
def Term.le (a b : Term) : Prop := a.1 < b.1 ∨ (a.1 = b.1 ∧ reasonRank a.2 ≤ reasonRank b.2)

theorem Term.le_refl (a : Term) : a.le a := .inr ⟨rfl, Nat.le_refl _⟩

theorem Term.le_trans {a b c : Term} (h : a.le b) (h' : b.le c) : a.le c := by
  unfold Term.le at *
  omega

theorem lesserTerm_le (a b : Term) : (lesserTerm a b).le a ∧ (lesserTerm a b).le b := by
  unfold lesserTerm Term.le
  split <;> omega

theorem lesserTerm_eq (a b : Term) : lesserTerm a b = a ∨ lesserTerm a b = b := by
  unfold lesserTerm
  split
  · exact .inr rfl
  · exact .inl rfl

theorem foldl_lesserTerm_le (a : Term) (l : List Term) : (l.foldl lesserTerm a).le a ∧ ∀ x ∈ l, (l.foldl lesserTerm a).le x := by
  induction l generalizing a with
  | nil => exact ⟨a.le_refl, by simp⟩
  | cons y l ih =>
    obtain ⟨hfirst, hrest⟩ := ih (lesserTerm a y)
    refine ⟨Term.le_trans hfirst (lesserTerm_le a y).1, fun x hx => ?_⟩
    rcases List.mem_cons.mp hx with rfl | hx
    · exact Term.le_trans hfirst (lesserTerm_le a x).2
    · exact hrest x hx

theorem foldl_lesserTerm_mem (a : Term) (l : List Term) : l.foldl lesserTerm a = a ∨ l.foldl lesserTerm a ∈ l := by
  induction l generalizing a with
  | nil => exact .inl rfl
  | cons y l ih =>
    rcases ih (lesserTerm a y) with h | h
    · rcases lesserTerm_eq a y with e | e
      · exact .inl (h.trans e)
      · exact .inr (List.mem_cons.mpr (.inl (h.trans e)))
    · exact .inr (List.mem_cons_of_mem _ h)

/-- The term of one step (R104). -/
theorem stepTerm_eq_iff {lim sMax : Nat} {g : Geom} {x : Term} : stepTerm lim sMax g = x ↔
    (g.k = 0 ∧ x = (lim, .infeed))
      ∨ (g.k ≠ 0 ∧ lim * g.p / g.f ≤ sMax * g.p / (100 * g.spp) ∧ x = (min (lim * g.p / g.f) 65535, .infeed))
      ∨ (g.k ≠ 0 ∧ sMax * g.p / (100 * g.spp) < lim * g.p / g.f ∧ x = (min (sMax * g.p / (100 * g.spp)) 65535, .stroke)) := by
  unfold stepTerm
  simp only
  split_ifs with hk hle
  · simp [hk, eq_comm]
  · simp [hk, hle, eq_comm]
  · simp [hk, hle, Nat.lt_of_not_le hle, eq_comm]

theorem mem_itemTerms_panel {p : Panel} {x : Term} : x ∈ itemTerms s (.panel p) ↔
    ∃ g ∈ (s.slot p.slot).geoms p.grade, stepTerm s.lay.infeedLimit s.conf.strokeRateMax g = x := List.mem_map

theorem mem_itemTerms_gap {g : Gap} {x : Term} : x ∈ itemTerms s (.gap g) ↔ x = (s.lay.infeedLimit, .infeed) := List.mem_singleton

/-- A term of an item: a GAP's limit, or the term of one of a panel's steps. -/
theorem mem_itemTerms {i : Item} {x : Term} : x ∈ itemTerms s i ↔
    (i.isGap = true ∧ x = (s.lay.infeedLimit, .infeed))
      ∨ ∃ p, i = .panel p ∧ ∃ g ∈ (s.slot p.slot).geoms p.grade, stepTerm s.lay.infeedLimit s.conf.strokeRateMax g = x := by
  cases i with
  | panel p => simp [mem_itemTerms_panel, Item.isGap]
  | gap g => simp [mem_itemTerms_gap, Item.isGap]

/-- The terms are the limit, where nothing is LAYING or a GAP is committed, and those of the committed steps. -/
theorem mem_terms {x : Term} : x ∈ s.terms ↔
    (x = (s.lay.infeedLimit, .infeed) ∧ (s.lay.laying = none ∨ (∃ l, s.lay.laying = some l ∧ l.item.isGap = true)
      ∨ ∃ n, s.lay.next = some n ∧ n.item.isGap = true))
    ∨ ∃ g, s.committedStep g ∧ stepTerm s.lay.infeedLimit s.conf.strokeRateMax g = x := by
  unfold State.terms State.committedStep
  rw [List.mem_append]
  cases s.lay.laying <;> cases s.lay.next <;> simp only [mem_itemTerms] <;> grind

theorem mem_terms_infeed {v : Nat} : (v, Reason.infeed) ∈ s.terms ↔ s.infeedTerm v := by
  rw [mem_terms]
  simp only [stepTerm_eq_iff, State.infeedTerm, Prod.mk.injEq]
  grind

theorem mem_terms_stroke {v : Nat} : (v, Reason.stroke) ∈ s.terms ↔ s.strokeTerm v := by
  rw [mem_terms]
  simp only [stepTerm_eq_iff, State.strokeTerm, Prod.mk.injEq]
  grind

theorem reason_of_mem_terms {x : Term} (h : x ∈ s.terms) : x.2 = .infeed ∨ x.2 = .stroke := by
  rw [mem_terms] at h
  simp only [stepTerm_eq_iff] at h
  grind

theorem reasonRank_infeed {r : Reason} (h : reasonRank r ≤ 0) : r = .infeed := by cases r <;> simp_all [reasonRank]

/-- The ceiling is the first of its terms in the order of R105. -/
theorem headCeiling_le {x : Term} (h : x ∈ s.terms) : Term.le (headCeiling s) x := (foldl_lesserTerm_le _ _).2 x h

theorem headCeiling_cases (s : State) : headCeiling s = (s.conf.outfeedMax, .outfeedMax) ∨ headCeiling s ∈ s.terms :=
  foldl_lesserTerm_mem _ _

/-- Settles O13: a least is below what it is taken over and is one of it. -/
theorem targetWithinEveryLimit : Obligations.TargetWithinEveryLimit := by
  unfold Obligations.TargetWithinEveryLimit
  refine ⟨fun s => ?_, fun s hstn hrole => ?_, fun s => ?_⟩
  · have hle := effectiveTarget_le s
    obtain ⟨hfirst, hlines⟩ := foldl_min_le (min s.spd.setSpeed (min s.spd.ownValue s.conf.outfeedMax)) s.lineValues
    refine ⟨fun hstn => by simp [effectiveTarget, hstn], fun hrole => by simp [effectiveTarget, hrole], by omega, by omega, by omega,
      fun m hm hother hflat => hle.trans (hlines _ (mem_lineValues.mpr ⟨m, hm, hother, hflat, rfl⟩))⟩
  · rw [effectiveTarget_of_running hstn hrole]
    rcases foldl_min_mem (min s.spd.setSpeed (min s.spd.ownValue s.conf.outfeedMax)) s.lineValues with h | h
    · rw [h]; omega
    · obtain ⟨m, hm, hother, hflat, hv⟩ := mem_lineValues.mp h
      exact .inr (.inr (.inr ⟨m, hm, hother, hflat, hv.symm⟩))
  · refine ⟨?_, fun v hv => ?_, fun v hv => ?_, ?_⟩
    · have hle : Term.le (headCeiling s) _ := (foldl_lesserTerm_le (s.conf.outfeedMax, Reason.outfeedMax) s.terms).1
      unfold Term.le at hle
      simp only at hle
      omega
    · have hle := headCeiling_le (mem_terms_infeed.mpr hv)
      unfold Term.le at hle
      simp only [show reasonRank .infeed = 0 from rfl] at hle
      exact ⟨by omega, fun e => reasonRank_infeed (by omega)⟩
    · have hle := headCeiling_le (mem_terms_stroke.mpr hv)
      unfold Term.le at hle
      simp only [show reasonRank .stroke = 1 from rfl] at hle
      refine ⟨by omega, fun e hmax => ?_⟩
      rw [hmax] at hle
      simp only [show reasonRank .outfeedMax = 2 from rfl] at hle
      omega
    · rcases headCeiling_cases s with h | h
      · rw [h]; exact .inr (.inr ⟨rfl, rfl⟩)
      · rcases reason_of_mem_terms h with hr | hr
        · exact .inl ⟨hr, mem_terms_infeed.mp (hr ▸ h)⟩
        · exact .inr (.inl ⟨hr, mem_terms_stroke.mp (hr ▸ h)⟩)

end

end Sys2Proof.Machine
end

section
/-! PROOFS. O14: the choice of the next frame (R43), its start (R21, R24, R64), and what a POSITION is filled with (R60, R69). -/

namespace Sys2Proof.Machine

section
variable {m : Msg} {s : State} {b : Bool}

/-! ## The oldest waiting frames of each class -/

/-- The index the choice looks at: of the oldest waiting notice (`notice` true), or request or answer. -/
def Msg.firstWaiting (m : Msg) (notice : Bool) : Option Nat := m.queue.findIdx? fun e => e.isWaiting && (e.frame.isNotice == notice)

theorem firstWaiting_eq_none : m.firstWaiting b = none ↔ m.noneWaits b := by
  simp [Msg.firstWaiting, Msg.noneWaits, List.findIdx?_eq_none_iff]

theorem firstWaiting_eq_some {i : Nat} : m.firstWaiting b = some i ↔ m.oldestWaiting b i := by
  simp only [Msg.firstWaiting, Msg.oldestWaiting, List.findIdx?_eq_some_iff_getElem, Bool.and_eq_true, beq_iff_eq, not_and]
  constructor
  · rintro ⟨hi, ⟨hwaits, hclass⟩, hfirst⟩
    refine ⟨⟨m.queue[i], List.getElem?_eq_getElem hi, hwaits, hclass⟩, fun j e hj hget => ?_⟩
    obtain ⟨hlt, rfl⟩ := List.getElem?_eq_some_iff.mp hget
    exact hfirst j hj
  · rintro ⟨⟨e, hget, hwaits, hclass⟩, hfirst⟩
    obtain ⟨hi, rfl⟩ := List.getElem?_eq_some_iff.mp hget
    exact ⟨hi, ⟨hwaits, hclass⟩, fun j hj => hfirst j _ hj (List.getElem?_eq_getElem (hj.trans hi))⟩

/-- The choice by the oldest notice and the oldest request or answer (R43). -/
theorem choose_eq (m : Msg) : m.choose = match m.firstWaiting true, m.firstWaiting false with
    | none, none => none
    | some n, none => some (n, false)
    | none, some q => some (q, false)
    | some n, some q => if n < q then some (n, false) else if m.passCount < 2 then some (n, true) else some (q, false) := by
  have hnotice : (fun e : QEntry => e.isWaiting && e.frame.isNotice) = fun e => e.isWaiting && (e.frame.isNotice == true) := by
    funext e; simp
  have hask : (fun e : QEntry => e.isWaiting && !e.frame.isNotice) = fun e => e.isWaiting && (e.frame.isNotice == false) := by
    funext e; simp
  unfold Msg.choose Msg.firstWaiting
  rw [hnotice, hask] <;> rfl

/-- Something waits: one of the classes has an oldest frame. -/
theorem choose_isSome {e : QEntry} (he : e ∈ m.queue) (hwaits : e.isWaiting = true) : m.choose.isSome = true := by
  rw [choose_eq]
  cases hn : m.firstWaiting true with
  | some n => cases hq : m.firstWaiting false with
    | some q => simp only; split_ifs <;> rfl
    | none => rfl
  | none => cases hq : m.firstWaiting false with
    | some q => rfl
    | none =>
      have hnotice := firstWaiting_eq_none.mp hn e he hwaits
      have hask := firstWaiting_eq_none.mp hq e he hwaits
      cases hclass : e.frame.isNotice
      · exact absurd hclass hask
      · exact absurd hclass hnotice

/-- What the choice is: the oldest notice, in front of every request and answer or passing one, or the oldest request or answer with no
notice before it. -/
theorem choose_cases {i : Nat} {passing : Bool} (h : m.choose = some (i, passing)) :
    (passing = false ∧ m.oldestWaiting true i)
      ∨ (passing = true ∧ m.oldestWaiting true i ∧ m.passCount < 2 ∧ ∃ q, m.oldestWaiting false q ∧ q ≤ i)
      ∨ (passing = false ∧ m.oldestWaiting false i ∧ ∀ n, m.oldestWaiting true n → i ≤ n) := by
  rw [choose_eq] at h
  cases hn : m.firstWaiting true with
  | some n => cases hq : m.firstWaiting false with
    | some q =>
      simp only [hn, hq] at h
      split_ifs at h with hfront hfew
      · obtain ⟨rfl, rfl⟩ : n = i ∧ false = passing := by simpa using h
        exact .inl ⟨rfl, firstWaiting_eq_some.mp hn⟩
      · obtain ⟨rfl, rfl⟩ : n = i ∧ true = passing := by simpa using h
        exact .inr (.inl ⟨rfl, firstWaiting_eq_some.mp hn, hfew, q, firstWaiting_eq_some.mp hq, by omega⟩)
      · obtain ⟨rfl, rfl⟩ : q = i ∧ false = passing := by simpa using h
        refine .inr (.inr ⟨rfl, firstWaiting_eq_some.mp hq, fun n' hn' => ?_⟩)
        obtain rfl : n = n' := Option.some.inj (hn.symm.trans (firstWaiting_eq_some.mpr hn'))
        omega
    | none =>
      simp only [hn, hq] at h
      obtain ⟨rfl, rfl⟩ : n = i ∧ false = passing := by simpa using h
      exact .inl ⟨rfl, firstWaiting_eq_some.mp hn⟩
  | none => cases hq : m.firstWaiting false with
    | some q =>
      simp only [hn, hq] at h
      obtain ⟨rfl, rfl⟩ : q = i ∧ false = passing := by simpa using h
      refine .inr (.inr ⟨rfl, firstWaiting_eq_some.mp hq, fun n' hn' => ?_⟩)
      exact nomatch hn.symm.trans (firstWaiting_eq_some.mpr hn')
    | none =>
      simp only [hn, hq] at h
      exact nomatch h

/-- A waiting notice anywhere stands no earlier than the oldest. -/
theorem oldestWaiting_le {b : Bool} {i j : Nat} {e : QEntry} (h : m.oldestWaiting b i) (hget : m.queue[j]? = some e)
    (hwaits : e.isWaiting = true) (hclass : e.frame.isNotice = b) : i ≤ j := by
  by_contra hlt
  exact h.2 j e (by omega) hget hwaits hclass

/-- A waiting frame of a class gives its class an oldest one. -/
theorem exists_oldestWaiting {b : Bool} {j : Nat} {e : QEntry} (hget : m.queue[j]? = some e) (hwaits : e.isWaiting = true)
    (hclass : e.frame.isNotice = b) : ∃ i, m.oldestWaiting b i := by
  cases hfirst : m.firstWaiting b with
  | some i => exact ⟨i, firstWaiting_eq_some.mp hfirst⟩
  | none => exact absurd hclass (firstWaiting_eq_none.mp hfirst e (List.mem_of_getElem? hget) hwaits)

/-- The chosen frame waits; a request or an answer is given with no notice before it, and a notice passes while the pass count allows. -/
theorem choose_spec {i : Nat} {passing : Bool} (h : m.choose = some (i, passing)) :
    ∃ e, m.queue[i]? = some e ∧ e.isWaiting = true
      ∧ (e.frame.isNotice = false → ∀ j e', j < i → m.queue[j]? = some e' → ¬(e'.isWaiting = true ∧ e'.frame.isNotice = true))
      ∧ (passing = true → e.frame.isNotice = true ∧ m.passCount < 2
          ∧ ∃ j e', j < i ∧ m.queue[j]? = some e' ∧ e'.isWaiting = true ∧ e'.frame.isNotice = false) := by
  rcases choose_cases h with ⟨rfl, hold⟩ | ⟨rfl, hold, hfew, q, hq, hle⟩ | ⟨rfl, hold, hfirst⟩
  · obtain ⟨⟨e, hget, hwaits, hclass⟩, -⟩ := hold
    exact ⟨e, hget, hwaits, fun hask => by simp [hask] at hclass, (nomatch ·)⟩
  · obtain ⟨⟨e, hget, hwaits, hclass⟩, -⟩ := hold
    obtain ⟨⟨e', hget', hwaits', hclass'⟩, -⟩ := hq
    refine ⟨e, hget, hwaits, fun hask => by simp [hask] at hclass, fun _ => ⟨hclass, hfew, q, e', ?_, hget', hwaits', hclass'⟩⟩
    refine Nat.lt_of_le_of_ne hle fun hqi => ?_
    rw [hqi, hget] at hget'
    obtain rfl : e = e' := Option.some.inj hget'
    simp [hclass] at hclass'
  · obtain ⟨⟨e, hget, hwaits, hclass⟩, -⟩ := hold
    refine ⟨e, hget, hwaits, fun _ j e' hj hget' ⟨hwaits', hclass'⟩ => ?_, (nomatch ·)⟩
    obtain ⟨n, hn⟩ := exists_oldestWaiting hget' hwaits' hclass'
    have hin := hfirst n hn
    have hnj := oldestWaiting_le hn hget' hwaits' hclass'
    omega

/-! ## The start of a frame (R24, R64) -/

theorem modifyAt_eq_set {α : Type} {f : α → α} {l : List α} {i : Nat} {x : α} (h : l[i]? = some x) : modifyAt f i l = l.set i (f x) := by
  induction l generalizing i with
  | nil => simp at h
  | cons y l ih =>
    cases i with
    | zero => obtain rfl : y = x := by simpa using h
              rfl
    | succ i => simp [modifyAt, ih (by simpa using h)]

theorem transmits_iff (s : State) : s.transmits = true ↔ s.live = true ∨ (s.stn = .configFault ∧ s.faultSender.isSome = true) := by
  simp [State.transmits]

theorem exec_transmitStart {i : Nat} {passing : Bool} {n : Station} {e : QEntry} (htransmits : s.transmits = true)
    (htx : s.link.tx = .waiting) (hbus : s.link.bus = .idle) (hchoose : s.msg.choose = some (i, passing)) (hsender : s.sender = some n)
    (hget : s.msg.queue[i]? = some e) : exec .transmitStart s = .next { s with
      msg.queue := s.msg.queue.set i { e with flight := .inFlight passing false }
      link.tx := .sendingTag
      link.wire := frameChars (tagOf n e.frame.kind) (payloadOf s e.frame)
      link.bus := .busy
      link.latch := some s.latchNow } := by
  have harm : exec .transmitStart s = execTransmitStart s := rfl
  rw [harm, execTransmitStart, if_pos ⟨htransmits, htx, hbus⟩]
  simp only [hchoose, hsender, hget, startFrame, noteEdge, hbus, if_true, modifyAt_eq_set hget, QEntry.launch]
  rfl

theorem exec_transmitStart_idle (h : s.msg.choose = none) : exec .transmitStart s = .next s := by
  have harm : exec .transmitStart s = execTransmitStart s := rfl
  rw [harm, execTransmitStart]
  simp only [h]
  split <;> rfl

/-! ## The payload of a POSITION (R60, R69) -/

theorem positionBytes_of_role {r : Role} {ref second : Word} {speed : Nat} (hrole : s.role = some r) (href : s.refPos = ref)
    (hsecond : s.secondPos = second) (hspeed : s.reportedSpeed = speed) : payloadOf s .position =
       [s.stn.code, roleCode r,
        ref.extractLsb' 0 8, ref.extractLsb' 8 8, ref.extractLsb' 16 8, ref.extractLsb' 24 8,
        second.extractLsb' 0 8, second.extractLsb' 8 8, second.extractLsb' 16 8, second.extractLsb' 24 8,
        (half16 speed).extractLsb' 0 8, (half16 speed).extractLsb' 8 8,
        (half16 s.pos.measured).extractLsb' 0 8, (half16 s.pos.measured).extractLsb' 8 8,
        BitVec.ofNat 8 s.link.broken, BitVec.ofNat 8 s.msg.lost] := by
  show positionBytes s = _
  unfold positionBytes
  rw [hrole, href, hsecond, hspeed]
  rfl

/-- Settles O14: R43's table is the choice's definition, and a start drives the chosen entry's characters. -/
theorem theChosenFrameIsSent : Obligations.TheChosenFrameIsSent := by
  unfold Obligations.TheChosenFrameIsSent
  refine ⟨fun m => ⟨?_, ?_, ?_, ?_, fun e he hwaits => choose_isSome he hwaits⟩, fun m i passing h => choose_spec h, ?_, ?_, ?_⟩
  · intro hn hq
    rw [choose_eq, firstWaiting_eq_none.mpr hn, firstWaiting_eq_none.mpr hq]
  · intro n hn hq
    rw [choose_eq, firstWaiting_eq_some.mpr hn, firstWaiting_eq_none.mpr hq]
  · intro q hn hq
    rw [choose_eq, firstWaiting_eq_none.mpr hn, firstWaiting_eq_some.mpr hq]
  · intro n q hn hq
    rw [choose_eq, firstWaiting_eq_some.mpr hn, firstWaiting_eq_some.mpr hq]
    refine ⟨fun h => if_pos h, fun h hfew => ?_, fun h hmany => ?_⟩
    · simp only
      rw [if_neg (by omega), if_pos hfew]
    · simp only
      rw [if_neg (by omega), if_neg (by omega)]
  · intro s i passing n e htransmits htx hbus hchoose hsender hget
    exact exec_transmitStart ((transmits_iff s).mpr htransmits) htx hbus hchoose hsender hget
  · intro s hn hq
    refine exec_transmitStart_idle ?_
    rw [choose_eq, firstWaiting_eq_none.mpr hn, firstWaiting_eq_none.mpr hq]
  · intro s r ref second speed hrole hsupply hhead hsetter
    cases r with
    | supply =>
      obtain ⟨rfl, rfl, rfl⟩ := hsupply rfl
      exact positionBytes_of_role hrole (by simp [State.refPos, hrole]) (by simp [State.secondPos, hrole])
        (by simp [State.reportedSpeed, hrole])
    | head =>
      obtain ⟨rfl, rfl, rfl⟩ := hhead rfl
      exact positionBytes_of_role hrole (by simp [State.refPos, hrole]) (by simp [State.secondPos, hrole])
        (by simp [State.reportedSpeed, State.commanded, hrole])
    | setter =>
      obtain ⟨rfl, rfl, rfl⟩ := hsetter rfl
      refine positionBytes_of_role hrole ?_ (by simp [State.secondPos, hrole]) (by simp [State.reportedSpeed, State.commanded, hrole])
      cases hreg : s.pos.reg <;> simp [State.refPos, State.mapPos, hrole, hreg]

end

end Sys2Proof.Machine
end

section
/-! PROOFS. O15 and O16: the end of CONFIG, by a valid record (R3, R33, R141) or into CONFIG FAULT (R3, R5). -/

namespace Sys2Proof.Machine

section
variable {s t : State}

/-! ## The entry to LISTEN (R6, R63, R70, R83) -/

/-- LISTEN as it is entered, the input test not made. -/
def State.listening (s : State) : State := { s with
  stn := .listen
  ctl.consoleHeard := false
  ctl.neighbourHeard := false
  pos := { (uncapture s).pos with keepAlive := some 100 }
  spd.lastPosted := some s.spd.ownValue
  spd.postTimer := some 100
  msg := (s.msg.supersede .position).supersede (.ceiling ⟨s.spd.ownValue, decide (s.role = some .supply), .notRunning⟩) }

theorem uncapture_of_setter (h : s.role = some .setter) : uncapture s = { s with pos.held := s.mapPos, pos.reg := .uncaptured } :=
  if_pos h

theorem uncapture_of_other (h : s.role ≠ some .setter) : uncapture s = s := if_neg h

theorem enterListen_eq (s : State) : enterListen s =
    if s.port.eStop then localCause .eStop 0 false s.listening
    else if s.port.webBreak then localCause .webBreak 0 false s.listening
    else s.listening := by
  have hentered : handCeiling (handPosition (uncapture { s with stn := .listen, ctl.consoleHeard := false, ctl.neighbourHeard := false }))
      = s.listening := by
    by_cases hrole : s.role = some .setter
    · rw [uncapture_of_setter (by exact hrole), State.listening, uncapture_of_setter hrole]
      rfl
    · rw [uncapture_of_other (by exact hrole), State.listening, uncapture_of_other hrole]
      rfl
  exact congrArg (fun t : State => if t.port.eStop then localCause .eStop 0 false t
    else if t.port.webBreak then localCause .webBreak 0 false t else t) hentered

theorem enterListen_of_inactive (he : s.port.eStop = false) (hw : s.port.webBreak = false) : enterListen s = s.listening := by
  rw [enterListen_eq, he, hw]
  rfl

/-- An UNCAPTURED registration stays as it is. -/
theorem uncapture_of_uncaptured (h : s.pos.reg = .uncaptured) : uncapture s = s := by
  unfold uncapture State.mapPos
  rw [h]
  split
  · show { s with pos := { s.pos with held := s.pos.held, reg := .uncaptured } } = s
    rw [← h]
  · rfl

/-! ## O15: a valid record (R3) -/

/-- Every block at its work state, in LISTEN, the own ceiling taken (R3, R12). -/
def started (c : Cfg) (levels0 levels1 : Levels) (link : Link) (s : State) : State :=
  setOwn { startWork c levels0 levels1 { s with cfg := some c } with stn := .listen, link := link }

theorem acceptTable_get (c : Cfg) {tag : Nat} (h : tag < 128) : ((acceptTable c)[tag]?).getD .off = acceptOf c tag := by
  simp [acceptTable, h]

theorem staleness_get {c : Nat} (h : c < 8) : (((Vector.replicate 8 (some 500 : Timer))[c]?).getD none) = some 500 := by
  simp [h]

theorem handRollState_supply (h : s.isRole .supply = true) : handRollState s = { s with
    sup.rollTimer := some 250, msg := s.msg.supersede (.rollState (rollStateNow { s with sup.rollTimer := some 250 })) } := by
  simp only [handRollState, h, if_true]
  rfl

theorem handRollState_other (h : s.isRole .supply = false) : handRollState s = s := by simp [handRollState, h]

/-- What handing a ROLL STATE writes. -/
theorem handRollState_eq (s : State) :
    handRollState s = { s with sup.rollTimer := (handRollState s).sup.rollTimer, msg := (handRollState s).msg } := by
  unfold handRollState
  split <;> rfl

theorem handRollState_hasKind {k : Nat} (h : s.msg.hasKind k = true) : (handRollState s).msg.hasKind k = true := by
  unfold handRollState
  split
  · exact hasKind_supersede _ _ _ h
  · exact h

theorem roleCeiling_of_lawView (h : t.lawView = s.lawView) : roleCeiling t = roleCeiling s := by
  rw [← roleCeiling_lawView, h, roleCeiling_lawView]

/-- The first notices of a started station. -/
theorem listening_msg_of_reset (h : s.msg = .reset) : s.listening.msg = { Msg.reset with
    queue := [⟨.position, 0, .waiting⟩, ⟨.ceiling ⟨s.spd.ownValue, decide (s.role = some .supply), .notRunning⟩, 0, .waiting⟩] } := by
  simp only [State.listening, h]
  rfl

theorem listening_lawView (s : State) : s.listening.lawView = { s with stn := .listen }.lawView := by
  unfold State.listening uncapture
  split <;> rfl

/-- Settles O15: the end of a valid CONFIG writes each block's work state, and the entry to LISTEN hands the first notices. -/
theorem validRecordEntersListen : Obligations.ValidRecordEntersListen := by
  unfold Obligations.ValidRecordEntersListen
  intro s r l0 l1 hstn htimer hvalid he hw
  have harm : exec (.configurationReadComplete r l0 l1) s = execConfigurationReadComplete r l0 l1 s := rfl
  set c := decodeRecord r.toList with hc
  set x := started c l0 (if c.role = .head then l1 else ⟨false, false⟩) { Link.reset with accept := acceptTable c } s with hx
  have hend : endConfig c l0 l1 s = handRollState x.listening := by
    show handRollState (enterListen x) = _
    rw [enterListen_of_inactive (s := x) he hw]
  have hpos : x.listening.pos = { x.pos with keepAlive := some 100 } := by
    show { (uncapture x).pos with keepAlive := some 100 } = _
    rw [uncapture_of_uncaptured (s := x) rfl]
  have hmsg := listening_msg_of_reset (s := x) rfl
  have hrole : x.listening.role = some c.role := rfl
  have hlive : x.listening.live = true := rfl
  refine ⟨handRollState x.listening, by rw [harm, execConfigurationReadComplete, if_pos ⟨hstn, htimer⟩, hvalid, ← hend], ?_⟩
  have hkinds : x.listening.msg.hasKind 0 = true ∧ x.listening.msg.hasKind 1 = true := by
    rw [hmsg]; exact ⟨rfl, rfl⟩
  have hceiling : (roleCeiling (handRollState x.listening)).1 = x.spd.ownValue := by
    rw [roleCeiling_of_lawView (s := x) (by rw [handRollState_lawView, listening_lawView]; rfl)]
    rfl
  have hroll : (handRollState x.listening).sup.rollTimer = if c.role = .supply then some 250 else none := by
    by_cases hsupply : c.role = .supply
    · rw [handRollState_supply (by simp [State.isRole, hlive, hrole, hsupply]), if_pos hsupply]
    · rw [handRollState_other (by simp [State.isRole, hrole, hsupply]), if_neg hsupply]
      show roleTimer c .supply Config.rollStateMs = none
      simp [roleTimer, hsupply]
  have hkind4 : c.role = .supply → (handRollState x.listening).msg.hasKind 4 = true := by
    intro hsupply
    rw [handRollState_supply (by simp [State.isRole, hlive, hrole, hsupply]), hmsg]
    rfl
  refine ⟨by rw [handRollState_eq]; rfl, by rw [handRollState_eq]; rfl, by rw [handRollState_eq]; rfl,
    by rw [handRollState_eq]; rfl, ?_, by rw [handRollState_eq]; rfl, by rw [handRollState_eq]; rfl, ?_, ?_, ?_, ?_, ?_, ?_, ?_, ?_, ?_, ?_, ?_,
    ?_, ?_, ?_, handRollState_hasKind hkinds.1, handRollState_hasKind hkinds.2, ?_⟩
  · intro tag htag
    rw [handRollState_eq]
    exact acceptTable_get c htag
  · rw [handRollState_eq]; show x.listening.pos.ch0 = _; rw [hpos]; rfl
  · intro hhead
    rw [handRollState_eq]; show x.listening.pos.ch1 = _; rw [hpos, hx, if_pos hhead]; rfl
  · rw [handRollState_eq]; show x.listening.pos.reg = _; rw [hpos]; rfl
  · rw [handRollState_eq]; show x.listening.pos.watches = _; rw [hpos]; rfl
  · rw [handRollState_eq]; show x.listening.pos.speedTimer = _; rw [hpos]; rfl
  · rw [handRollState_eq]; show x.listening.pos.keepAlive = _; rw [hpos]
  · rw [handRollState_eq]; rfl
  · rw [handRollState_eq]; rfl
  · rw [handRollState_eq]; show roleTimer c .head _ = if some c.role = _ then _ else _; simp [roleTimer, Config.tenMs]
  · rw [handRollState_eq]; show roleTimer c .supply _ = if some c.role = _ then _ else _; simp [roleTimer, Config.tenMs]
  · rw [hroll, handRollState_eq]; show _ = if some c.role = _ then _ else _; simp
  · rw [handRollState_eq]; show roleTimer c .setter _ = if some c.role = _ then _ else _; simp [roleTimer, Config.hundredMs]
  · exact ⟨x.spd.ownValue, by rw [handRollState_eq]; rfl, hceiling.symm⟩
  · intro k hk
    rw [handRollState_eq]
    exact staleness_get hk
  · rw [handRollState_eq]
    intro hsupply
    exact hkind4 (Option.some.inj hsupply)

/-! ## O16: CONFIG FAULT (R3, R5) -/

theorem accept_off_of_reset (h : s.link = .reset) (tag : Nat) : s.accept tag = .off := by
  rw [State.accept, h]
  exact reset_accept tag

/-- What the entry to CONFIG FAULT writes (R3, R5). -/
theorem enterConfigFault_eq (detail : Nat) (number : Option Station) (s : State) :
    enterConfigFault detail number s = if number.isSome then
      postLasting (.fault ⟨.configBad, half16 detail, .config⟩) { s with
        stn := .configFault, fault := some ⟨.configBad, half16 detail, .config⟩, faultSender := number, link := .reset
        ctl.configTimer := none, ctl.repeatTimer := number.map fun _ => 1000 }
    else { s with
        stn := .configFault, fault := some ⟨.configBad, half16 detail, .config⟩, faultSender := number, link := .reset
        ctl.configTimer := none, ctl.repeatTimer := number.map fun _ => 1000 } := rfl

/-- In CONFIG FAULT a lost notice is counted and nothing else (R5, R40). -/
theorem postLasting_of_configFault {f : Frame} (h : s.stn = .configFault) : postLasting f s = { s with msg := (postLasting f s).msg } := by
  unfold postLasting
  split_ifs
  · rfl
  · rfl

theorem configFault_of_number {detail : Nat} {n : Station} :
    ∃ m : Msg, enterConfigFault detail (some n) s = { s with
        stn := .configFault, fault := some ⟨.configBad, half16 detail, .config⟩, faultSender := some n, link := .reset
        ctl.configTimer := none, ctl.repeatTimer := some 1000, msg := m }
      ∧ (s.msg.room = true → m = s.msg.place (.fault ⟨.configBad, half16 detail, .config⟩)) := by
  rw [enterConfigFault_eq]
  refine ⟨_, postLasting_of_configFault rfl, fun hroom => ?_⟩
  rw [postLasting_room (by exact hroom)]

theorem configFault_of_none {detail : Nat} :
    enterConfigFault detail none s = { s with
        stn := .configFault, fault := some ⟨.configBad, half16 detail, .config⟩, faultSender := none, link := .reset
        ctl.configTimer := none, ctl.repeatTimer := none } := rfl

/-- Settles O16: the number of a bad record decides whether a FAULT is queued and repeated. -/
theorem configFaultIsEnteredAndRepeats : Obligations.ConfigFaultIsEnteredAndRepeats := by
  unfold Obligations.ConfigFaultIsEnteredAndRepeats
  refine ⟨fun s hstn htimer => ⟨?_, fun r l0 l1 d hbad => ?_⟩, fun s r hstn htimer hfault => ⟨fun hkind => ?_, fun hkind hroom => ?_⟩⟩
  · have harm : exec .configurationTimerExpiry s = execConfigurationTimerExpiry s := rfl
    rw [harm, execConfigurationTimerExpiry, if_pos ⟨hstn, htimer⟩, configFault_of_none]
    exact ⟨_, rfl, rfl, rfl, rfl, rfl, rfl, accept_off_of_reset rfl⟩
  · have harm : exec (.configurationReadComplete r l0 l1) s = execConfigurationReadComplete r l0 l1 s := rfl
    have hnext : exec (.configurationReadComplete r l0 l1) s = .next (enterConfigFault d (usableNumber r.toList) s) := by
      rw [harm, execConfigurationReadComplete, if_pos ⟨hstn, htimer⟩, hbad]
    by_cases hnumber : (byteAt r.toList 0).toNat ≤ 6
    · obtain ⟨m, hm, hplaced⟩ := configFault_of_number (s := s) (detail := d) (n := BitVec.ofNat 3 (byteAt r.toList 0).toNat)
      have husable : usableNumber r.toList = some (BitVec.ofNat 3 (byteAt r.toList 0).toNat) := if_pos hnumber
      rw [hnext, husable, hm]
      exact ⟨_, rfl, rfl, rfl, accept_off_of_reset rfl, fun _ => ⟨rfl, rfl, hplaced⟩, fun h => absurd hnumber (by omega)⟩
    · have husable : usableNumber r.toList = none := if_neg hnumber
      rw [hnext, husable, configFault_of_none]
      exact ⟨_, rfl, rfl, rfl, accept_off_of_reset rfl, fun h => absurd h hnumber, fun _ => ⟨rfl, rfl, rfl⟩⟩
  · have harm : exec .configFaultRepeatTimerExpiry s = execConfigFaultRepeatTimerExpiry s := rfl
    rw [harm, execConfigFaultRepeatTimerExpiry, if_pos ⟨hstn, htimer⟩]
    simp only [hfault, Msg.hasFault, hkind, if_true, Config.configFaultRepeatMs]
  · have harm : exec .configFaultRepeatTimerExpiry s = execConfigFaultRepeatTimerExpiry s := rfl
    rw [harm, execConfigFaultRepeatTimerExpiry, if_pos ⟨hstn, htimer⟩]
    simp only [hfault, Msg.hasFault, hkind, Bool.false_eq_true, if_false, Config.configFaultRepeatMs]
    rw [postLasting_room (by exact hroom)]

end

end Sys2Proof.Machine
end

section
/-! PROOFS. O17, RESTART (R18, R37): every block at its restart state, the station in LISTEN, and halted again at once by an input that is
held. -/

namespace Sys2Proof.Machine

section
variable {s t y : State}

/-! ## What a restart leaves the same in every case -/

/-- Blanks what an input that halts the restarted station, and the first ROLL STATE, write. -/
def State.sansStart (s : State) : State := { s with
  stn := .config
  fault := none
  ctl.quiet := none
  link.tx := .waiting
  link.bus := .busy
  link.wire := []
  link.latch := none
  msg.queue := []
  pos.reg := .uncaptured
  sup.rollTimer := none
  sup.brake := false
  set.vent := false }

/-- A station that has just been started: its blocks hold nothing that a halt would change. -/
structure State.Blank (y : State) : Prop where
  stn : y.stn = .listen
  watches : y.pos.watches = []
  errorRun : y.pos.errorRun = 0
  keepAlive : y.pos.keepAlive = some 100
  mapPos : y.pos.ch0.lu + y.pos.offset = y.mapPos
  clear : y.ctl.entryClear = y.ctl.lastClear
  fine : y.spd.fine = 100 * y.sup.unwindRef
  laying : y.lay.laying = none
  zones : y.set.zones.map Zone.shut = y.set.zones
  spans : y.map.spans = []
  msg : ∃ c, y.msg = { Msg.reset with queue := [⟨.position, 0, .waiting⟩, ⟨.ceiling c, 0, .waiting⟩] }

/-- What the role units do to a blank station. -/
theorem haltRole_blank (hlaying : y.lay.laying = none) (herror : y.pos.errorRun = 0) (hfine : y.spd.fine = 100 * y.sup.unwindRef)
    (hzones : y.set.zones.map Zone.shut = y.set.zones) (hspans : y.map.spans = []) :
    ∃ reg brake vent, haltRole y = { y with pos.reg := reg, sup.brake := brake, set.vent := vent }
      ∧ (y.role = some .setter → reg = .suspended) := by
  cases hrole : y.role with
  | none => exact ⟨y.pos.reg, y.sup.brake, y.set.vent, by simp [haltRole, hrole], by simp⟩
  | some r =>
    cases r with
    | head =>
      refine ⟨y.pos.reg, y.sup.brake, y.set.vent, ?_, by simp⟩
      simp only [haltRole, hrole, haltHead, flagLaying, onLaying, hlaying, Option.map_none]
      rw [← hlaying]
    | supply =>
      refine ⟨y.pos.reg, y.sup.brake || decide (y.sup.unwindRef = 0), y.set.vent, ?_, by simp⟩
      simp only [haltRole, hrole, haltSupply, ← hfine]
    | setter =>
      refine ⟨.suspended, y.sup.brake, true, ?_, by simp⟩
      simp only [haltRole, hrole, haltSetter, hzones, haltSpans, hspans, List.map_nil, ← herror]
      rw [← hspans]

theorem refPos_of_mapPos {reg : RegCond} {brake vent : Bool} {x : StationState} {f : Option FaultRecord} {k : Control}
    (hmap : y.pos.ch0.lu + y.pos.offset = y.mapPos) (hsetter : y.role = some .setter → reg = .suspended) :
    State.refPos { y with stn := x, fault := f, ctl := k, pos.reg := reg, sup.brake := brake, set.vent := vent } = y.refPos := by
  have hrole : State.role { y with stn := x, fault := f, ctl := k, pos.reg := reg, sup.brake := brake, set.vent := vent } = y.role := rfl
  unfold State.refPos
  rw [hrole]
  cases hr : y.role with
  | none => rfl
  | some r =>
    cases r with
    | head => rfl
    | supply => rfl
    | setter =>
      rw [hsetter hr]
      exact hmap

/-- The pattern's link: sending the pattern, the rest but the bus and the latch as before. -/
theorem sendPattern_eq (s : State) : sendPattern s = { s with
    link.tx := .sendingStop
    link.wire := (sendPattern s).link.wire
    link.bus := (sendPattern s).link.bus
    link.latch := (sendPattern s).link.latch
    msg := (sendPattern s).msg } := by
  unfold sendPattern
  split
  · next h => rw [← h]
  · unfold noteEdge
    split <;> rfl

theorem sendPattern_queue {c : CeilingMsg} (h : s.msg = { Msg.reset with queue := [⟨.position, 0, .waiting⟩, ⟨.ceiling c, 0, .waiting⟩] }) :
    (sendPattern s).msg = { Msg.reset with queue := [⟨.position, 0, .waiting⟩, ⟨.ceiling c, 0, .waiting⟩] } := by
  unfold sendPattern
  split
  · exact h
  · rw [noteEdge_msg]
    show s.msg.land = _
    rw [h]
    rfl

/-- An input held active halts a blank station, with its record and FAULT (R7, R14). -/
theorem localCause_blank {code : FaultCode} (h : y.Blank) :
    (localCause code 0 false y).sansStart = y.sansStart ∧ (localCause code 0 false y).stn = .halted
      ∧ (localCause code 0 false y).fault = some ⟨code, 0, .listen⟩ ∧ (localCause code 0 false y).link.tx = .sendingStop
      ∧ (localCause code 0 false y).msg.queue.length = 3 ∧ (localCause code 0 false y).sup.rollTimer = y.sup.rollTimer := by
  obtain ⟨hstn, hwatches, herror, hkeep, hmap, hclear, hfine, hlaying, hzones, hspans, c, hmsg⟩ := h
  have hlive : y.live = true := live_of_stn hstn
  have hquiet : ∀ u : State, u.pos.watches = [] → nextDue (haltRole u) = none := fun u hu => nextDue_nil (by simp [hu])
  obtain ⟨reg, brake, vent, hhalt, hsetter⟩ := haltRole_blank
    (y := { y with stn := .halted, fault := some ⟨code, 0, .listen⟩, ctl.entryClear := y.ctl.lastClear, ctl.quiet := some Config.quietMs })
    hlaying herror hfine hzones hspans
  have hhalted : enterHalted { y with fault := some ⟨code, 0, .listen⟩ } = { y with
      stn := .halted, fault := some ⟨code, 0, .listen⟩, ctl.quiet := some 500, pos.reg := reg, sup.brake := brake, set.vent := vent
      msg := { Msg.reset with queue := [⟨.position, 0, .waiting⟩, ⟨.ceiling c, 0, .waiting⟩] } } := by
    rw [enterHalted_quiet (s := { y with fault := some ⟨code, 0, .listen⟩ }) (hquiet _ (by exact hwatches))]
    simp only [hstn, reduceCtorEq, if_false]
    rw [hhalt]
    have hhanded : handPosition { y with
        stn := .halted, fault := some ⟨code, 0, .listen⟩, ctl.entryClear := y.ctl.lastClear, ctl.quiet := some Config.quietMs
        pos.reg := reg, sup.brake := brake, set.vent := vent } = { y with
        stn := .halted, fault := some ⟨code, 0, .listen⟩, ctl.quiet := some 500, pos.reg := reg, sup.brake := brake, set.vent := vent
        msg := { Msg.reset with queue := [⟨.position, 0, .waiting⟩, ⟨.ceiling c, 0, .waiting⟩] } } := by
      show supersede .position _ = _
      unfold supersede
      simp only [hmsg, ← hclear]
      have hposition : (Msg.supersede { Msg.reset with queue := [⟨.position, 0, .waiting⟩, ⟨.ceiling c, 0, .waiting⟩] } .position)
          = { Msg.reset with queue := [⟨.position, 0, .waiting⟩, ⟨.ceiling c, 0, .waiting⟩] } := rfl
      rw [hposition]
      simp only [Config.hundredMs, ← hkeep, Config.quietMs]
    rw [hhanded, cadence, if_pos]
    exact congrArg (·.getLsbD y.conf.cadenceBit) (refPos_of_mapPos (reg := reg) (brake := brake) (vent := vent) (x := .halted)
      (f := some ⟨code, 0, .listen⟩) (k := y.ctl) hmap hsetter).symm
  have hrecord : (⟨code, half16 0, y.stn⟩ : FaultRecord) = ⟨code, 0, .listen⟩ := by rw [hstn]; rfl
  rw [localCause_halts hlive (by simp [hstn]), hrecord, hhalted, postLasting_room (by
    rw [Msg.room, sendPattern_queue (c := c) rfl]; rfl), sendPattern_queue (c := c) rfl, sendPattern_eq]
  refine ⟨?_, rfl, rfl, rfl, rfl, rfl⟩
  unfold State.sansStart
  simp only [hmsg]
  rfl

/-! ## The restart -/

theorem hasKind_supersede_self {m : Msg} {f : Frame} (h : m.room = true) : (m.supersede f).hasKind f.kind = true := by
  by_cases hkind : m.hasKind f.kind = true
  · exact hasKind_supersede m f _ hkind
  · simp only [Msg.supersede, hkind, Bool.false_eq_true, if_false, h, if_true, place_hasKind]

/-- Every block at its restart state, in LISTEN, the own ceiling taken; the quantities stay (R18). -/
def restarted (s : State) : State :=
  setOwn { startWork s.conf s.pos.ch0.levels s.pos.ch1.levels { s with link := s.link.restart } with stn := .listen }

theorem restartStation_eq (s : State) : restartStation s =
    if s.sup.shown = Supply.reset.shown then enterListen (restarted s) else handRollState (enterListen (restarted s)) := rfl

theorem restarted_listening_pos (s : State) : (restarted s).listening.pos = { (restarted s).pos with keepAlive := some 100 } := by
  show { (uncapture (restarted s)).pos with keepAlive := some 100 } = _
  rw [uncapture_of_uncaptured (s := restarted s) rfl]

theorem restarted_blank (s : State) : (restarted s).listening.Blank := by
  have hpos := restarted_listening_pos s
  have hzones : (restarted s).listening.set.zones = if s.conf.role = .setter then List.replicate s.conf.zoneCount Zone.start else [] := rfl
  refine ⟨rfl, by rw [hpos]; rfl, by rw [hpos]; rfl, by rw [hpos], ?_, rfl, rfl, rfl, ?_, rfl, _, listening_msg_of_reset rfl⟩
  · have hmap : (restarted s).listening.mapPos = 0 := by
      unfold State.mapPos
      rw [hpos]
      rfl
    have hch0 : (restarted s).pos.ch0.lu = 0 := (by decide : (0 : BitVec 42).extractLsb' 10 32 = 0)
    have hoffset : (restarted s).pos.offset = 0 := rfl
    rw [hmap, hpos, hch0, hoffset]
    rfl
  · rw [hzones]
    split
    · rw [List.map_replicate]; rfl
    · rfl

/-- The entry to LISTEN by a restart: halted at once by an input held active, the E-stop first (R16, log 10). -/
theorem enterListen_restarted (s : State) : (enterListen (restarted s)).sansStart = (restarted s).listening.sansStart
    ∧ (enterListen (restarted s)).sup.rollTimer = (restarted s).sup.rollTimer ∧ (enterListen (restarted s)).msg.queue.length ≤ 3
    ∧ (s.port.eStop = false → s.port.webBreak = false → enterListen (restarted s) = (restarted s).listening)
    ∧ (s.port.eStop = true → (enterListen (restarted s)).stn = .halted
        ∧ (enterListen (restarted s)).fault = some ⟨.eStop, 0, .listen⟩ ∧ (enterListen (restarted s)).link.tx = .sendingStop)
    ∧ (s.port.eStop = false → s.port.webBreak = true → (enterListen (restarted s)).stn = .halted
        ∧ (enterListen (restarted s)).fault = some ⟨.webBreak, 0, .listen⟩ ∧ (enterListen (restarted s)).link.tx = .sendingStop) := by
  rw [enterListen_eq]
  have hcause := fun code => localCause_blank (code := code) (restarted_blank s)
  rw [show (restarted s).port.eStop = s.port.eStop from rfl, show (restarted s).port.webBreak = s.port.webBreak from rfl]
  cases he : s.port.eStop with
  | true =>
    obtain ⟨hsans, hstn, hfault, htx, hlen, hroll⟩ := hcause .eStop
    exact ⟨hsans, hroll, hlen.le, by simp, fun _ => ⟨hstn, hfault, htx⟩, by simp⟩
  | false =>
    cases hw : s.port.webBreak with
    | true =>
      obtain ⟨hsans, hstn, hfault, htx, hlen, hroll⟩ := hcause .webBreak
      exact ⟨hsans, hroll, hlen.le, by simp, by simp, fun _ _ => ⟨hstn, hfault, htx⟩⟩
    | false =>
      have hlen : (restarted s).listening.msg.queue.length ≤ 3 := by
        rw [listening_msg_of_reset rfl]
        exact (by decide : 2 ≤ 3)
      exact ⟨rfl, rfl, hlen, fun _ _ => rfl, by simp, by simp⟩

theorem conf_role {r : Role} (hr : s.role = some r) : s.conf.role = r := by
  cases hc : s.cfg with
  | none => simp [State.role, hc] at hr
  | some c =>
    simp only [State.role, hc, Option.map_some, Option.some.injEq] at hr
    simp [State.conf, hc, hr]

/-- Handing a ROLL STATE into a queue with room, none held before it, writes the queue and its timer. -/
theorem handRollState_sansStart (hroom : s.msg.room = true) (hheld : s.msg.heldRollState = none) :
    (handRollState s).sansStart = s.sansStart := by
  cases hsupply : s.isRole .supply with
  | false => rw [handRollState_other hsupply]
  | true =>
    rw [handRollState_supply hsupply]
    have hclear : ∀ r, s.msg.clearHeld (.rollState r) = s.msg := fun r => by
      show { s.msg with heldRollState := none } = s.msg
      rw [← hheld]
    unfold Msg.supersede State.sansStart
    simp only [hroom, hclear, if_true]
    split <;> rfl

/-- The restarted station in LISTEN, without its queue, timer and what an input held may set. -/
theorem restarted_listening_sansStart (s : State) : (restarted s).listening.sansStart = { (restarted s).sansStart with
    pos.keepAlive := some 100, spd.lastPosted := some (restarted s).spd.ownValue, spd.postTimer := some 100 } := by
  unfold State.sansStart
  rw [restarted_listening_pos, listening_msg_of_reset (s := restarted s) rfl]
  rfl

theorem room_of_le {m : Msg} (h : m.queue.length ≤ 3) : m.room = true := by
  simp only [Msg.room, decide_eq_true_eq, Config.queueSize]
  omega

theorem restartStation_sansStart (s : State) : (restartStation s).sansStart = { (restarted s).sansStart with
    pos.keepAlive := some 100, spd.lastPosted := some (restarted s).spd.ownValue, spd.postTimer := some 100 } := by
  obtain ⟨hsans, -, hlen, -⟩ := enterListen_restarted s
  rw [restarted_listening_sansStart] at hsans
  rw [restartStation_eq]
  split
  · exact hsans
  · rw [handRollState_sansStart (room_of_le hlen) (congrArg (fun u : State => u.msg.heldRollState) hsans :), hsans]

/-- What the restart leaves as the entry to LISTEN left it: all but the queue and the ROLL STATE timer. -/
theorem restartStation_eq_entry (s : State) : restartStation s = { enterListen (restarted s) with
    sup.rollTimer := (restartStation s).sup.rollTimer, msg := (restartStation s).msg } := by
  rw [restartStation_eq]
  split
  · rfl
  · exact handRollState_eq _

/-- The own ceiling a restart gives, by role (R105, R134, R152). -/
theorem restarted_own (s : State) :
    (s.role = some .head → (restarted s).spd.ownValue = 0 ∧ (restarted s).spd.ownReason = .infeed)
    ∧ (s.role = some .supply → (restarted s).spd.ownValue = s.conf.unwindMax ∧ (restarted s).spd.ownReason = .unwindMax)
    ∧ (s.role = some .setter → (restarted s).spd.ownValue = 0 ∧ (restarted s).spd.ownReason = .noZone) := by
  set x : State := { startWork s.conf s.pos.ch0.levels s.pos.ch1.levels { s with link := s.link.restart } with stn := .listen } with hx
  have hown : (restarted s).spd.ownValue = (roleCeiling x).1 ∧ (restarted s).spd.ownReason = (roleCeiling x).2 := ⟨rfl, rfl⟩
  have hrole : x.role = s.role := rfl
  rw [hown.1, hown.2]
  refine ⟨fun h => ?_, fun h => ?_, fun h => ?_⟩
  · have hceiling : roleCeiling x = lesserTerm (s.conf.outfeedMax, .outfeedMax) (0, .infeed) := by
      rw [roleCeiling, hrole, h]
      rfl
    have hleast : lesserTerm (s.conf.outfeedMax, .outfeedMax) (0, .infeed) = (0, .infeed) :=
      if_pos ((Nat.eq_zero_or_pos s.conf.outfeedMax).elim (fun h0 => Or.inr ⟨h0.symm, (by decide : reasonRank .infeed < reasonRank .outfeedMax)⟩) Or.inl)
    rw [hceiling, hleast]
    exact ⟨rfl, rfl⟩
  · have hceiling : roleCeiling x = (s.conf.unwindMax, .unwindMax) := by
      rw [roleCeiling, hrole, h]
      rfl
    rw [hceiling]
    exact ⟨rfl, rfl⟩
  · have hunused : x.set.zones.any Zone.inUse = false := by
      show (if s.conf.role = .setter then List.replicate s.conf.zoneCount Zone.start else []).any Zone.inUse = false
      rw [if_pos (conf_role h), List.any_replicate]
      split <;> rfl
    have hceiling : roleCeiling x = (0, .noZone) := by
      rw [roleCeiling, hrole, h]
      exact if_pos (by rw [hunused]; rfl)
    rw [hceiling]
    exact ⟨rfl, rfl⟩

/-- The SUPPLY's ROLL STATE after a restart (R141). -/
theorem restartStation_rollState (h : s.role = some .supply) : (restartStation s).sup.rollTimer = some 250
    ∧ (s.sup.shown ≠ Supply.reset.shown → (restartStation s).msg.hasKind 4 = true) := by
  obtain ⟨hsans, htimer, hlen, -⟩ := enterListen_restarted s
  have hroom : (enterListen (restarted s)).msg.room = true := room_of_le hlen
  have hcfg : (enterListen (restarted s)).cfg = s.cfg := (congrArg (fun u : State => u.cfg) hsans :)
  have hrole : (enterListen (restarted s)).role = some .supply := by rw [State.role, hcfg]; exact h
  have hsupply : (enterListen (restarted s)).isRole .supply = true := by
    simp [State.isRole, hrole]
  have hstart : (restarted s).sup.rollTimer = some 250 := if_pos (conf_role h)
  rw [restartStation_eq]
  split
  · next hsame => exact ⟨htimer.trans hstart, fun hne => absurd hsame hne⟩
  · rw [handRollState_supply hsupply]
    exact ⟨rfl, fun _ => hasKind_supersede_self hroom⟩

/-- The notices of a restart that no input halts. -/
theorem restartStation_kinds (h : enterListen (restarted s) = (restarted s).listening) :
    (restartStation s).msg.hasKind 0 = true ∧ (restartStation s).msg.hasKind 1 = true ∧ (restartStation s).msg.hasKind 5 = false := by
  have hmsg := listening_msg_of_reset (s := restarted s) rfl
  rw [restartStation_eq, h]
  split
  · rw [hmsg]
    exact ⟨rfl, rfl, rfl⟩
  · cases hsupply : (restarted s).listening.isRole .supply with
    | false =>
      rw [handRollState_other hsupply, hmsg]
      exact ⟨rfl, rfl, rfl⟩
    | true =>
      rw [handRollState_supply hsupply, hmsg]
      exact ⟨rfl, rfl, rfl⟩

/-- The filtered levels are those of the eight inputs. -/
theorem State.input_of_port (h : t.port.eStop = s.port.eStop ∧ t.port.webBreak = s.port.webBreak ∧ t.port.input3 = s.port.input3
    ∧ t.port.input4 = s.port.input4 ∧ t.port.input5 = s.port.input5 ∧ t.port.input6 = s.port.input6 ∧ t.port.input7 = s.port.input7
    ∧ t.port.restartIn = s.port.restartIn) (k : Nat) : t.input k = s.input k := by
  obtain ⟨h1, h2, h3, h4, h5, h6, h7, h8⟩ := h
  unfold State.input
  rw [h1, h2, h3, h4, h5, h6, h7, h8]

theorem input_setRestart (s : State) (k : Nat) :
    State.input { s with port.restartIn := true } k = if k = 8 then true else s.input k := by
  by_cases hk : k = 8
  · rw [hk]
    rfl
  · rw [if_neg hk]
    rcases k with _ | _ | _ | _ | _ | _ | _ | _ | _ | k
    case succ.succ.succ.succ.succ.succ.succ.succ.zero => exact absurd rfl hk
    all_goals rfl

/-- A restart input's levels (R167). -/
theorem exec_restart (released n : Nat) (s : State) : exec (.restart ⟨released, n, []⟩) s = .next
    (if s.live = true ∧ rises s.port.restartIn ⟨released, n, []⟩ = true
      then restartStation { s with port.restartIn := levelAfter s.port.restartIn ⟨released, n, []⟩ }
      else { s with port.restartIn := levelAfter s.port.restartIn ⟨released, n, []⟩ }) := rfl

/-- Settles O17: a restart writes every block's restart state, and an input held active halts the station again. -/
theorem restartClearsWorkState : Obligations.RestartClearsWorkState := by
  unfold Obligations.RestartClearsWorkState
  refine ⟨fun s released n hlevel hreleased => ?_, fun s released n hreleased hn => ?_, fun s released n hrise hn hlive => ?_,
    fun s released n hlive hrise hn => ?_⟩
  · have hkeeps : levelAfter s.port.restartIn ⟨released, n, []⟩ = s.port.restartIn := by
      by_cases hn : n < 3
      · exact levelAfter_held hn hreleased
      · rw [levelAfter_high (by exact Nat.le_of_not_lt hn), hlevel]
    rw [exec_restart, rises_held hlevel hreleased, hkeeps, if_neg (by simp)]
  · have hlow : levelAfter s.port.restartIn ⟨released, n, []⟩ = false := levelAfter_low hn hreleased
    rw [exec_restart, if_neg (by rw [rises_iff]; rintro ⟨-, -, h⟩; exact absurd hn (Nat.not_lt.mpr h)), hlow]
  · have hhigh : levelAfter s.port.restartIn ⟨released, n, []⟩ = true := levelAfter_high hn
    rw [exec_restart, if_neg (by simp [hlive]), hhigh]
  · have hhigh : levelAfter s.port.restartIn ⟨released, n, []⟩ = true := levelAfter_high hn
    set x : State := { s with port.restartIn := true } with hx
    have hnext : exec (.restart ⟨released, n, []⟩) s = .next (restartStation x) := by
      rw [exec_restart, if_pos ⟨hlive, by rw [rises_iff]; exact ⟨hrise, hn⟩⟩, hhigh]
    have hsans := restartStation_sansStart x
    obtain ⟨-, -, -, hlisten, hstop, hbreak⟩ := enterListen_restarted x
    obtain ⟨hhead, hsupply, hsetter⟩ := restarted_own x
    have hentry := restartStation_eq_entry x
    have hvalue : (restartStation x).spd.ownValue = (restarted x).spd.ownValue :=
      (congrArg (fun u : State => u.spd.ownValue) hsans :)
    have hreason : (restartStation x).spd.ownReason = (restarted x).spd.ownReason :=
      (congrArg (fun u : State => u.spd.ownReason) hsans :)
    have hkept {α : Type} (f : State → α) : f (restartStation x).sansStart = f { (restarted x).sansStart with
        pos.keepAlive := some 100, spd.lastPosted := some (restarted x).spd.ownValue, spd.postTimer := some 100 } := congrArg f hsans
    have hport : (restartStation x).port = (restarted x).port := hkept State.port
    rw [hnext]
    refine ⟨restartStation x, rfl, fun k => ?_, hkept (·.port.refDuty), hkept (·.port.valveDuty), hkept (·.port.staleness),
      hkept (·.port.report), hkept (·.pos.ch1), hkept (·.pos.measured), hkept (·.pos.prev), hkept (·.pos.offset),
      hkept (·.pos.errorRun), hkept (·.pos.watches), hkept (·.pos.speedTimer), hkept (·.pos.keepAlive), hkept (·.spd.rampTimer),
      hkept (·.spd.postTimer), ?_, ?_, ?_, ?_, hkept (·.lay), hkept (·.lay.infeedLimit), hkept (·.lay.infeedRef),
      hkept (·.lay.evicted), hkept (·.lay.inFlight), hkept (·.lay.bladeTimer), hkept (·.sup.festoon), hkept (·.sup.festoonHold),
      hkept (·.sup.emptyMark), hkept (·.sup.offsetValid), hkept (·.sup.unwindRef), hkept (·.sup.fineUnwind), hkept (·.sup.vHead),
      hkept (·.sup.outstanding), hkept (·.sup.fpos), hkept (·.sup.emergency), hkept (·.sup.pressTimer), hkept (·.sup.supplyTimer),
      fun h => (restartStation_rollState (s := x) h).1, hkept (·.set.zones), hkept (·.set.overMark), hkept (·.map.sampleTimer),
      hkept (·.msg.lost), hkept (·.msg.passCount), hkept (·.msg.unsent), fun h => (restartStation_rollState (s := x) h).2,
      hkept (·.cfg), hkept (·.link.accept), hkept (·.link.broken), hkept (·.link.consoleSilence), hkept (·.link.neighbourSilence),
      hkept (·.msg.pendings), hkept (·.msg.delayed), hkept (·.msg.answered), hkept (·.msg.nextId), hkept (·.pos.ch0),
      hkept (·.spd.table), hkept (·.spd.setSpeed), hkept (·.spd.fine), fun k => ?_, ?_, hkept (·.lay.seams), hkept (·.map.spans),
      hkept (·.sup.armA), hkept (·.sup.armB), hkept (·.sup.splice), hkept (·.sup.pressFire), hkept (·.ctl.consoleHeard),
      hkept (·.ctl.neighbourHeard), hkept (·.ctl.lastClear), hkept (·.ctl.entryClear), fun he hw => ?_, fun he => ?_,
      fun he hw => ?_⟩
    · rw [State.input_of_port (t := restartStation x) (s := x) (by rw [hport]; exact ⟨rfl, rfl, rfl, rfl, rfl, rfl, rfl, rfl⟩)]
      exact input_setRestart s k
    · rw [hvalue]
      exact hkept (·.spd.lastPosted)
    · rw [hvalue, hreason]
      exact hhead
    · rw [hvalue, hreason]
      exact hsupply
    · rw [hvalue, hreason]
      exact hsetter
    · have hslots : (restartStation x).slots = Vector.replicate 16 Slot.blank := hkept (·.slots)
      rw [State.slot, hslots]
      by_cases hk : k < 16 <;> simp [hk]
    · have hlaying : (restartStation x).lay.laying = none := hkept (·.lay.laying)
      have hnextItem : (restartStation x).lay.next = none := hkept (·.lay.next)
      have hqueued : (restartStation x).lay.queued = [] := hkept (·.lay.queued)
      rw [State.panels, hlaying, hnextItem, hqueued]
      rfl
    · have hkinds := restartStation_kinds (s := x) (hlisten he hw)
      rw [hlisten he hw] at hentry
      have hpos : (restartStation x).pos = { (restarted x).pos with keepAlive := some 100 } := by
        rw [hentry]
        exact restarted_listening_pos x
      have htx : (restartStation x).link.tx = if s.link.tx = .sendingStop then .sendingStop else .waiting := by rw [hentry]; rfl
      refine ⟨by rw [hentry]; rfl, by rw [hentry]; rfl, by rw [hentry]; rfl, fun h => by rw [htx, if_pos h],
        fun h => by rw [htx, if_neg h], by rw [hentry]; rfl, by rw [hentry]; rfl, by rw [hpos]; rfl, by rw [hpos]; rfl,
        by rw [hentry]; rfl, by rw [hentry]; rfl, by rw [hentry]; rfl, hkinds.1, hkinds.2.1, hkinds.2.2, fun k => ?_⟩
      rw [hentry]
      unfold State.output
      split
      · rfl
      · split <;> rfl
    · obtain ⟨hstn, hfault, htx⟩ := hstop he
      rw [hentry]
      exact ⟨hstn, hfault, htx⟩
    · obtain ⟨hstn, hfault, htx⟩ := hbreak he hw
      rw [hentry]
      exact ⟨hstn, hfault, htx⟩

end

end Sys2Proof.Machine
end

section
/-! PROOFS. O18, the entries to HALTED: by an input, by a stop heard (R12 to R15, R28, R67, R80, R125, R142, R161). -/

namespace Sys2Proof.Machine

section
variable {s t u : State}

/-! ## The entry to HALTED, its watches aside -/

theorem haltRole_of_head (h : s.role = some .head) : haltRole s = haltHead s := by simp only [haltRole, h]
theorem haltRole_of_supply (h : s.role = some .supply) : haltRole s = haltSupply s := by simp only [haltRole, h]
theorem haltRole_of_setter (h : s.role = some .setter) : haltRole s = haltSetter s := by simp only [haltRole, h]

theorem haltRole_stn_ctl (s : State) (x : StationState) (k : Control) :
    haltRole { s with stn := x, ctl := k } = { haltRole s with stn := x, ctl := k } := by
  have hrole : State.role { s with stn := x, ctl := k } = s.role := rfl
  cases h : s.role with
  | none => simp only [haltRole, hrole, h]
  | some r =>
    cases r with
    | head => rw [haltRole_of_head h, haltRole_of_head (hrole.trans h)]; rfl
    | supply => rw [haltRole_of_supply h, haltRole_of_supply (hrole.trans h)]; rfl
    | setter => rw [haltRole_of_setter h, haltRole_of_setter (hrole.trans h)]; rfl

/-- The station as it enters HALTED, before the watches that a moved map position makes due (R12, R63, R70, R83). -/
def atHalt (s : State) : State :=
  let t := handPosition { haltRole s with stn := .halted, ctl := { s.ctl with entryClear := s.ctl.lastClear, quiet := some 500 } }
  if s.stn = .running then handCeiling t else t

theorem enterHalted_eq (s : State) : enterHalted s = cadence s.refPos (settle (atHalt s)) := by
  have hrole := haltRole_stn_ctl s .halted { s.ctl with entryClear := s.ctl.lastClear, quiet := some 500 }
  unfold atHalt
  rw [← hrole]
  rfl

theorem atHalt_fields (s : State) : (atHalt s).stn = .halted ∧ (atHalt s).cfg = s.cfg ∧ (atHalt s).lay = (haltRole s).lay
    ∧ (atHalt s).sup = (haltRole s).sup ∧ (atHalt s).set = (haltRole s).set ∧ (atHalt s).map = (haltRole s).map
    ∧ (atHalt s).spd.fine = (haltRole s).spd.fine
    ∧ (atHalt s).pos = { (haltRole s).pos with keepAlive := (atHalt s).pos.keepAlive } := by
  have hcfg : (haltRole s).cfg = s.cfg := by unfold haltRole; split <;> rfl
  have hposition : ∀ v : State, (handPosition v).pos = { v.pos with keepAlive := (handPosition v).pos.keepAlive } := fun v => by
    unfold handPosition; split <;> rfl
  unfold atHalt
  split
  · exact ⟨by simp, by rw [handCeiling_cfg, handPosition_cfg]; exact hcfg, by simp, by simp, by simp, by simp, by simp, hposition _⟩
  · exact ⟨by simp, by rw [handPosition_cfg]; exact hcfg, by simp, by simp, by simp, by simp, by simp, hposition _⟩

theorem haltHead_lay (s : State) : (haltHead s).lay = { s.lay with
    laying := s.lay.laying.map fun l => { l with item := l.item.flag fun f => { f with halt := true } } } := rfl

theorem haltSpans_eq (spans : List Span) : haltSpans spans =
    spans.map fun sp => if sp.phase = .approaching then sp else { sp with own := { sp.own with halt := true } } :=
  List.map_congr_left fun sp _ => by by_cases h : sp.phase = .approaching <;> simp [Span.inChest, h]

/-- What settles and hands a POSITION leaves of the role units' fields. -/
theorem cadence_settle_sup (old : Word) (v : State) :
    (cadence old (settle v)).sup = { v.sup with rollTimer := (cadence old (settle v)).sup.rollTimer } := by
  have hview : { (settle v).sup with rollTimer := none } = { v.sup with rollTimer := none } :=
    congrArg (fun u : State => u.sup) (settle_sansWatched v)
  rw [cadence_sup]
  calc (settle v).sup = { ({ (settle v).sup with rollTimer := none } : Supply) with rollTimer := (settle v).sup.rollTimer } := rfl
    _ = _ := by rw [hview]

theorem settle_errorRun (v : State) : (settle v).pos.errorRun = v.pos.errorRun :=
  (congrArg (fun u : State => u.pos.errorRun) (settle_sansWatched v) :)

/-- The entry to HALTED does what the law says of the role units. -/
theorem enterHalted_roleHalts (s : State) : s.roleHalts (enterHalted s) := by
  obtain ⟨hstn, hcfg, hlay, hsup, hset, hmap, hfine, hpos⟩ := atHalt_fields s
  have hdue : nextDue (atHalt s) = nextDue (haltRole s) := by
    obtain ⟨k, hkeep⟩ : ∃ k, (atHalt s).pos = { (haltRole s).pos with keepAlive := k } := ⟨_, hpos⟩
    exact nextDue_congr (by rw [hkeep]) fun n => by cases n <;> simp only [State.posOf, State.mapPos, hkeep]
  rw [enterHalted_eq]
  refine ⟨fun hrole hnone => ?_, fun hrole => ?_, fun hrole => ?_, fun hrole => ?_, fun hrole hreg hnone => ?_⟩
  · rw [haltRole_of_head hrole] at hlay hdue
    have hquiet : nextDue (atHalt s) = none := by
      rw [hdue, ← hnone]
      exact nextDue_of_pos rfl
    rw [cadence_lay, settle_none hquiet, hlay]
    refine ⟨fun l x hl hx => ?_, fun hno => ?_⟩
    · rw [haltHead_lay]
      rw [hl, Option.map_some, hx]
      rfl
    · rw [haltHead_lay]
      cases hl : s.lay.laying with
      | none => rw [Option.map_none, ← hl]
      | some l =>
        cases hx : l.item with
        | panel x => exact absurd hx (hno l x hl)
        | gap g =>
          rw [Option.map_some, hx]
          show ({ s.lay with laying := some { l with item := .gap g } } : Laying) = _
          rw [← hx, ← hl]
  · rw [haltRole_of_supply hrole] at hsup hfine
    refine ⟨?_, ?_⟩
    · rw [cadence_spd, settle_fine, hfine]
      rfl
    · rw [cadence_settle_sup, hsup]
      rfl
  · rw [haltRole_of_setter hrole] at hpos
    refine ⟨?_, ?_⟩
    · rw [cadence_reg, settle_reg, hpos]
      rfl
    · rw [cadence_errorRun, settle_errorRun, hpos]
      rfl
  · rw [haltRole_of_setter hrole] at hpos hset hmap
    refine ⟨atHalt s, hstn, hcfg, hpos, by rw [hset]; rfl, ?_, fun k v hfires hk => ?_⟩
    · rw [hmap]
      show { s.map with spans := haltSpans s.map.spans } = _
      rw [haltSpans_eq]
    · rw [cadence_map, cadence_watches, settle_of_fires hfires hk]
      exact ⟨rfl, rfl⟩
  · rw [haltRole_of_setter hrole] at hmap hdue
    have hpositions : nextDue (haltSetter s) = nextDue s := nextDue_congr rfl fun n => by
      cases n with
      | map =>
        show State.mapPos (haltSetter s) = State.mapPos s
        unfold State.mapPos
        cases hr : s.pos.reg with
        | uncaptured => exact absurd hr hreg
        | tracking => rfl
        | suspended => rfl
      | _ => rfl
    have hspans : (cadence s.refPos (settle (atHalt s))).map.spans = haltSpans s.map.spans := by
      rw [cadence_map, settle_none (by rw [hdue, hpositions, hnone]), hmap]
      rfl
    rw [hspans, haltSpans_eq]
    refine ⟨by rw [List.length_map], fun i sp hi => ⟨fun happ => ?_, fun hin => ?_⟩⟩
    · rw [List.getElem?_map, hi, Option.map_some, if_pos happ]
    · rw [List.getElem?_map, hi, Option.map_some, if_neg hin]

/-- The law of the role units reads a few fields of either state. -/
theorem roleHalts_congr {s' t' : State} (h : s.roleHalts t) (hcfg : s'.cfg = s.cfg) (hpos : s'.pos = s.pos) (hlay : s'.lay = s.lay)
    (hsup : s'.sup = s.sup) (hset : s'.set = s.set) (hmap : s'.map = s.map) (hlay' : t'.lay = t.lay) (hsup' : t'.sup = t.sup)
    (hfine' : t'.spd.fine = t.spd.fine) (hpos' : t'.pos = t.pos) (hmap' : t'.map = t.map) : s'.roleHalts t' := by
  unfold State.roleHalts State.role at *
  rw [hcfg, nextDue_of_pos hpos, hpos, hlay, hsup, hset, hmap, hlay', hsup', hfine', hpos', hmap']
  exact h


/-! ## O18: the causes of an entry -/

@[simp] theorem sendPattern_lay (s : State) : (sendPattern s).lay = s.lay := by rw [sendPattern_eq]
@[simp] theorem sendPattern_sup (s : State) : (sendPattern s).sup = s.sup := by rw [sendPattern_eq]
@[simp] theorem sendPattern_spd (s : State) : (sendPattern s).spd = s.spd := by rw [sendPattern_eq]
@[simp] theorem sendPattern_map (s : State) : (sendPattern s).map = s.map := by rw [sendPattern_eq]

theorem haltsQuietly_congr {s' : State} (hstn : s'.stn = s.stn) (hpos : s'.pos = s.pos) (hrole : s'.role = s.role) :
    s'.haltsQuietly ↔ s.haltsQuietly := by
  unfold State.haltsQuietly
  rw [hstn, nextDue_of_pos (haltRole_pos_congr hpos hrole)]

/-- The entry to HALTED by a local cause. -/
theorem localCause_entry {code : FaultCode} (hlive : u.live = true) (hne : u.stn ≠ .halted) :
    u.roleHalts (localCause code 0 false u) ∧ (localCause code 0 false u).stn = .halted
      ∧ (localCause code 0 false u).ctl.entryClear = u.ctl.lastClear ∧ (localCause code 0 false u).ctl.quiet = some 500
      ∧ (localCause code 0 false u).link.tx = .sendingStop
      ∧ (u.role = some .setter → (localCause code 0 false u).set.vent = true
          ∧ ∀ z ∈ (localCause code 0 false u).set.zones, z.duty = 0 ∧ z.integral = 0)
      ∧ (u.haltsQuietly → u.msg.queue.length ≤ 6 →
          (localCause code 0 false u).fault = some ⟨code, 0, u.stn⟩ ∧ (localCause code 0 false u).msg.hasKind 5 = true) := by
  have hrecords : u.haltsQuietly → u.msg.queue.length ≤ 6 →
      (localCause code 0 false u).fault = some ⟨code, 0, u.stn⟩ ∧ (localCause code 0 false u).msg.hasKind 5 = true := by
    intro hquiet hlen
    obtain ⟨hfault, hqueued⟩ := localCause_records (c := code) (d := 0) (l := false) hlive hquiet (hlen.trans (by decide))
    exact ⟨hfault, List.any_eq_true.mpr ⟨_, hqueued, rfl⟩⟩
  set x : State := { u with fault := some ⟨code, half16 0, u.stn⟩ } with hx
  have hcause : localCause code 0 false u = postLasting (.fault ⟨code, half16 0, u.stn⟩) (sendPattern (enterHalted x)) :=
    localCause_halts hlive hne
  refine ⟨?_, by rw [localCause_stn, if_pos hlive], ?_, ?_, ?_, fun hsetter => ?_, hrecords⟩
  · rw [hcause]
    exact roleHalts_congr (enterHalted_roleHalts x) rfl rfl rfl rfl rfl rfl (by simp) (by simp) (by simp) (by simp) (by simp)
  · rw [hcause, postLasting_ctl, sendPattern_ctl, enterHalted_ctl]
  · rw [hcause, postLasting_ctl, sendPattern_ctl, enterHalted_ctl]
  · rw [hcause, postLasting_link, sendPattern_tx]
  · rw [hcause, postLasting_set, sendPattern_set, enterHalted_set_setter x hsetter]
    refine ⟨rfl, fun z hz => ?_⟩
    obtain ⟨y, -, rfl⟩ := List.mem_map.mp hz
    exact ⟨rfl, rfl⟩

/-- A local cause in HALTED is recorded alone (R14). -/
theorem localCause_halted {code : FaultCode} (hstn : u.stn = .halted) :
    localCause code 0 false u = recordFault code 0 u := by
  simp [localCause, live_of_stn hstn, hstn, StationState.live]

/-- An input that becomes active. -/
theorem exec_becomesActive {n : Nat} {c : Instr} {code : FaultCode} (hlive : s.live = true) (hn : 3 ≤ n)
    (h : (c = .eStopBecomesActive n ∧ code = .eStop ∧ s.port.eStop = false)
      ∨ (c = .webBreakBecomesActive n ∧ code = .webBreak ∧ s.port.webBreak = false)) :
    ∃ p : Port, exec c s = .next (localCause code 0 false { s with port := p })
      ∧ (code = .eStop → p.eStop = true) ∧ (code = .webBreak → p.webBreak = true) := by
  have hrises : ∀ {level : Bool}, level = false → rises level ⟨0, n, []⟩ = true := fun h => by rw [rises_iff]; exact ⟨.inl h, hn⟩
  rcases h with ⟨rfl, rfl, hlevel⟩ | ⟨rfl, rfl, hlevel⟩
  · have harm : exec (.eStopBecomesActive n) s = execEStopBecomesActive n s := rfl
    rw [harm, execEStopBecomesActive, if_pos ⟨hlive, hrises hlevel⟩]
    exact ⟨_, rfl, fun _ => rfl, (fun h => nomatch h)⟩
  · have harm : exec (.webBreakBecomesActive n) s = execWebBreakBecomesActive n s := rfl
    rw [harm, execWebBreakBecomesActive, if_pos ⟨hlive, hrises hlevel⟩]
    exact ⟨_, rfl, (fun h => nomatch h), fun _ => rfl⟩

/-- HALT HEARD (R15). -/
theorem haltHeard_entry (u : State) : u.roleHalts (haltHeard u) ∧ (haltHeard u).stn = .halted
    ∧ (haltHeard u).ctl.entryClear = u.ctl.lastClear ∧ (haltHeard u).ctl.quiet = some 500 ∧ (haltHeard u).link = u.link
    ∧ (u.stn ≠ .halted → u.haltsQuietly → u.msg.queue.length ≤ 6 →
        (haltHeard u).fault = some ⟨.haltHeard, 0, u.stn⟩ ∧ (haltHeard u).msg.hasKind 5 = true) := by
  set x : State := { u with fault := some ⟨.haltHeard, 0, u.stn⟩ } with hx
  have hheard : haltHeard u = postLasting (.fault ⟨.haltHeard, 0, u.stn⟩) (enterHalted x) := rfl
  rw [hheard]
  refine ⟨?_, by simp, ?_, ?_, ?_, fun hne hquiet hlen => ?_⟩
  · exact roleHalts_congr (enterHalted_roleHalts x) rfl rfl rfl rfl rfl rfl (by simp) (by simp) (by simp) (by simp) (by simp)
  · rw [postLasting_ctl, enterHalted_ctl]
  · rw [postLasting_ctl, enterHalted_ctl]
  · rw [postLasting_link, enterHalted_link]
  · have hdue : nextDue (haltRole x) = none := by
      rw [nextDue_of_pos (haltRole_pos_congr (s := u) (t := x) rfl rfl)]
      exact hquiet.resolve_left hne
    have hroom : (enterHalted x).msg.room = true := by
      have hqueue := len_enterHalted x hdue
      have hx : x.msg.queue.length = u.msg.queue.length := rfl
      simp only [Msg.room, Config.queueSize, decide_eq_true_eq]
      omega
    rw [postLasting_room hroom]
    exact ⟨enterHalted_fault x hdue, place_hasKind _ _⟩

theorem noteEdge_eq (s : State) : noteEdge s = { s with link := (noteEdge s).link } := by
  unfold noteEdge
  split <;> rfl

theorem exec_stopHeard {n : Nat} (hstn : s.stn ≠ .config) (hn : 40 ≤ n) : exec (.stopHeard n) s = .next
    (if (noteEdge s).stn = .halted then { noteEdge s with ctl.quiet := some 500 }
    else if (noteEdge s).live then haltHeard (noteEdge s) else noteEdge s) := by
  have harm : exec (.stopHeard n) s = execStopHeard n s := rfl
  have hreceives : s.receives = true := by simp [State.receives, hstn]
  rw [harm, execStopHeard, if_pos ⟨hreceives, hn⟩]

/-- Settles O18: the inputs and a stop heard, in HALTED and elsewhere. -/
theorem stopsHalt : Obligations.StopsHalt := by
  unfold Obligations.StopsHalt
  refine ⟨fun s n c h => ?_, fun s n c code h hlive hn => ?_, fun s n hn => ⟨fun hlive hne => ?_, fun hstn => ?_, fun hstn => ?_⟩⟩
  · rcases h with ⟨rfl, hlevel⟩ | ⟨rfl, hlevel⟩
    · have harm : exec (.eStopBecomesActive n) s = execEStopBecomesActive n s := rfl
      rw [harm, execEStopBecomesActive, rises_held hlevel (Nat.zero_lt_succ 2), if_neg (by simp)]
    · have harm : exec (.webBreakBecomesActive n) s = execWebBreakBecomesActive n s := rfl
      rw [harm, execWebBreakBecomesActive, rises_held hlevel (Nat.zero_lt_succ 2), if_neg (by simp)]
  · obtain ⟨p, hnext, heStop, hwebBreak⟩ := exec_becomesActive hlive hn h
    set u : State := { s with port := p } with hu
    have hport : (localCause code 0 false u).port = p := localCause_port _ _ _ u
    rw [hnext]
    refine ⟨_, rfl, fun hne => ?_, by rw [localCause_stn, if_pos (by exact hlive)], by rw [hport]; exact heStop,
      by rw [hport]; exact hwebBreak, fun hne => ?_, fun hstn => ?_⟩
    · exact roleHalts_congr (localCause_entry (u := u) hlive hne).1 rfl rfl rfl rfl rfl rfl rfl rfl rfl rfl rfl
    · obtain ⟨-, -, hclear, hquiet, htx, hsetter, hrecords⟩ := localCause_entry (code := code) (u := u) hlive hne
      exact ⟨hclear, hquiet, htx, hsetter, fun h => hrecords ((haltsQuietly_congr (s := s) (s' := u) rfl rfl rfl).mpr h)⟩
    · rw [localCause_halted (u := u) hstn]
      refine ⟨recordFault_ctl _ _ u, recordFault_link _ _ u, fun hroom => ?_⟩
      rw [recordFault_room (s := u) hroom hlive, show u.stn = .halted from hstn]
      exact ⟨rfl, rfl⟩
  · have hu := noteEdge_eq s
    obtain ⟨hrole, hstn, hclear, hquiet, hlink, hrecords⟩ := haltHeard_entry (noteEdge s)
    have hnext : exec (.stopHeard n) s = .next (haltHeard (noteEdge s)) := by
      have hlive' : (noteEdge s).live = true := by rw [State.live, noteEdge_stn]; exact hlive
      rw [exec_stopHeard (fun h => by simp [State.live, h, StationState.live] at hlive) hn, noteEdge_stn, if_neg hne, if_pos hlive']
    rw [hnext]
    refine ⟨_, rfl, ?_, hstn, ?_, hquiet, by rw [hlink, noteEdge_tx], by rw [hlink, noteEdge_bus], fun hquietly hlen => ?_⟩
    · exact roleHalts_congr hrole (by rw [hu]) (by rw [hu]) (by rw [hu]) (by rw [hu]) (by rw [hu]) (by rw [hu]) rfl rfl rfl rfl rfl
    · rw [hclear, noteEdge_ctl]
    · have hlen' : (noteEdge s).msg.queue.length ≤ 6 := by rw [noteEdge_msg]; exact hlen
      have hstn' := noteEdge_stn s
      rw [← hstn']
      exact hrecords (by rw [hstn']; exact hne)
        ((haltsQuietly_congr hstn' (noteEdge_pos s) (by rw [State.role, noteEdge_cfg]; rfl)).mpr hquietly) hlen'
  · have hnext : exec (.stopHeard n) s = .next { noteEdge s with ctl.quiet := some 500 } := by
      rw [exec_stopHeard (by simp [hstn]) hn, noteEdge_stn, if_pos hstn]
    rw [hnext]
    exact ⟨_, rfl, by rw [noteEdge_eq], noteEdge_bus s, noteEdge_tx s⟩
  · have hlive : (noteEdge s).live = false := by rw [State.live, noteEdge_stn, hstn]; rfl
    have hnext : exec (.stopHeard n) s = .next (noteEdge s) := by
      rw [exec_stopHeard (by simp [hstn]) hn, noteEdge_stn, if_neg (by simp [hstn]), hlive]
      rfl
    rw [hnext]
    exact ⟨_, rfl, noteEdge_eq s, noteEdge_bus s, noteEdge_tx s⟩

end

end Sys2Proof.Machine
end

section
/-! PROOFS. O19, O20 and O21, the station states other than the entry to HALTED: its exit (R16), a RUN STATE (R7 to R12) and silence
(R11). -/

namespace Sys2Proof.Machine

section
variable {s t u : State}

/-! ## The transitions, by what they write -/

theorem handPosition_of_live (h : s.live = true) : handPosition s = { s with pos.keepAlive := some 100, msg := s.msg.supersede .position } :=
  if_pos h

theorem enterReady_ctl (s : State) : (enterReady s).ctl = s.ctl := handPosition_ctl _
theorem enterReady_set (s : State) : (enterReady s).set = s.set := handPosition_set _
theorem enterReady_sup (s : State) : (enterReady s).sup = s.sup := handPosition_sup _
theorem enterReady_spd (s : State) : (enterReady s).spd = s.spd := handPosition_spd _
theorem enterReady_fault (s : State) : (enterReady s).fault = s.fault := handPosition_fault _
theorem enterReady_reg (s : State) : (enterReady s).pos.reg = s.pos.reg := handPosition_reg _

theorem listening_fields (s : State) : s.listening.stn = .listen
    ∧ s.listening.ctl = { s.ctl with consoleHeard := false, neighbourHeard := false } ∧ s.listening.set = s.set
    ∧ s.listening.sup = s.sup ∧ s.listening.spd.fine = s.spd.fine ∧ s.listening.fault = s.fault
    ∧ (s.role = some .setter → s.listening.pos.reg = .uncaptured) := by
  refine ⟨rfl, rfl, rfl, rfl, rfl, rfl, fun h => ?_⟩
  show (uncapture s).pos.reg = _
  rw [uncapture_of_setter h]

/-- The exit to READY or LISTEN, no input active (R10, R16). -/
theorem enterReadyOrListen_of_inactive (he : s.port.eStop = false) (hw : s.port.webBreak = false) :
    enterReadyOrListen s = if s.heard then enterReady s else s.listening := by
  rw [enterReadyOrListen, enterListen_of_inactive he hw]

theorem enterReadyOrListen_fields (he : s.port.eStop = false) (hw : s.port.webBreak = false) :
    (enterReadyOrListen s).stn = (if s.heard then .ready else .listen)
      ∧ (enterReadyOrListen s).ctl = (if s.heard then s.ctl else { s.ctl with consoleHeard := false, neighbourHeard := false })
      ∧ (enterReadyOrListen s).set = s.set ∧ (enterReadyOrListen s).sup = s.sup
      ∧ (enterReadyOrListen s).spd.fine = s.spd.fine ∧ (enterReadyOrListen s).fault = s.fault
      ∧ (s.pos.reg = .uncaptured → (enterReadyOrListen s).pos.reg = .uncaptured) := by
  rw [enterReadyOrListen_of_inactive he hw]
  split
  · exact ⟨enterReady_stn s, enterReady_ctl s, enterReady_set s, enterReady_sup s, by rw [enterReady_spd], enterReady_fault s,
      fun h => by rw [enterReady_reg, h]⟩
  · refine ⟨rfl, rfl, rfl, rfl, rfl, rfl, fun h => ?_⟩
    show (uncapture s).pos.reg = _
    rw [uncapture_of_uncaptured h, h]

/-! ## O19: the exit from HALTED (R16) -/

theorem mayLeaveHalted_iff : s.mayLeaveHalted = true ↔ s.released := by
  unfold State.mayLeaveHalted State.released
  cases hlast : s.ctl.lastClear <;> cases hentry : s.ctl.entryClear <;>
    simp [Option.isNone_iff_eq_none, and_assoc]

/-- The over-band test from OFF: on exactly with a zone over its band (R151). -/
theorem overBand_off_iff : overBand false s.conf.band s.set.zones = true ↔ s.overTheBand := by
  unfold overBand State.overTheBand
  simp only
  split
  · next h =>
    simp only [List.any_eq_true, List.mem_filter, Zone.inUse, decide_eq_true_eq] at h
    obtain ⟨z, ⟨hz, hused⟩, hover⟩ := h
    refine ⟨fun _ => ⟨z, hz, hused, ?_⟩, fun _ => rfl⟩
    split at hover
    · next r hr => exact ⟨r, hr, of_decide_eq_true hover⟩
    · exact absurd hover (by decide)
  · next h =>
    refine ⟨fun hon => ?_, fun ⟨z, hz, hused, r, hr, hover⟩ => absurd ?_ h⟩
    · split at hon <;> exact absurd hon (by decide)
    · rw [List.any_eq_true]
      refine ⟨z, List.mem_filter.mpr ⟨hz, by simp [Zone.inUse, hused]⟩, ?_⟩
      rw [hr]
      exact decide_eq_true hover

theorem releaseRole_fields (s : State) : (releaseRole s).ctl = s.ctl ∧ (releaseRole s).fault = s.fault ∧ (releaseRole s).port = s.port
    ∧ (s.role = some .setter → (releaseRole s).pos.reg = .uncaptured ∧ (releaseRole s).set.overMark = false
        ∧ (releaseRole s).set.zones = s.set.zones ∧ (releaseRole s).set.vent = overBand false s.conf.band s.set.zones)
    ∧ (s.role = some .supply → (releaseRole s).spd.fine = 0
        ∧ (releaseRole s).sup.brake = (s.sup.brake && decide (s.sup.splice = .pressing ∧ s.pos.measured = 0))) := by
  unfold releaseRole
  cases h : s.role with
  | none => simp
  | some r =>
    cases r with
    | head => simp
    | supply => simp
    | setter =>
      have huncapture := uncapture_of_setter
        (s := { s with set.overMark := false, set.vent := overBand false s.conf.band s.set.zones }) h
      simp only [huncapture]
      simp

/-- What leaving HALTED writes (R16, R80, R142, R151). -/
theorem haltedExit_of_released (h : u.released) :
    (haltedExit u).stn = (if u.ctl.consoleHeard && u.ctl.neighbourHeard then .ready else .listen)
      ∧ (haltedExit u).ctl.quiet = none ∧ (haltedExit u).ctl.entryClear = none ∧ (haltedExit u).ctl.lastClear = u.ctl.lastClear
      ∧ (haltedExit u).fault = u.fault
      ∧ (u.role = some .setter → (haltedExit u).pos.reg = .uncaptured ∧ (haltedExit u).set.overMark = false
          ∧ (haltedExit u).set.zones = u.set.zones ∧ ((haltedExit u).set.vent = true ↔ u.overTheBand))
      ∧ (u.role = some .supply → (haltedExit u).spd.fine = 0
          ∧ ((haltedExit u).sup.brake = true ↔ u.sup.brake = true ∧ u.sup.splice = .pressing ∧ u.pos.measured = 0)) := by
  set v : State := { u with ctl.quiet := none, ctl.entryClear := none } with hv
  have hexit : haltedExit u = enterReadyOrListen (releaseRole v) := if_pos (mayLeaveHalted_iff.mpr h)
  obtain ⟨-, -, -, he, hw⟩ := h
  obtain ⟨hctl, hfault, hport, hsetter, hsupply⟩ := releaseRole_fields v
  obtain ⟨hstn, hctl', hset, hsup, hfine, hfault', hreg⟩ := enterReadyOrListen_fields (s := releaseRole v)
    (by rw [hport]; exact he) (by rw [hport]; exact hw)
  have hheard : (releaseRole v).heard = (u.ctl.consoleHeard && u.ctl.neighbourHeard) := by
    rw [State.heard, hctl]
  rw [hexit, hstn, hctl', hset, hsup, hfine, hfault', hheard, hctl, hfault]
  refine ⟨rfl, by split <;> rfl, by split <;> rfl, by split <;> rfl, rfl, fun hrole => ?_, fun hrole => ?_⟩
  · obtain ⟨hfree, hmark, hzones, hvent⟩ := hsetter hrole
    exact ⟨hreg hfree, hmark, hzones, by rw [hvent]; exact overBand_off_iff (s := u)⟩
  · obtain ⟨hzero, hbrake⟩ := hsupply hrole
    exact ⟨hzero, by rw [hbrake, Bool.and_eq_true, decide_eq_true_eq]⟩

theorem haltedExit_of_kept (h : ¬u.released) : haltedExit u = u := if_neg (by rwa [mayLeaveHalted_iff])

/-- The three causes of the test for leaving HALTED. -/
theorem exec_haltedExit {n : Nat} {c : Instr} (hlive : s.live = true) (hn : 3 ≤ n)
    (h : (c = .eStopBecomesInactive n ∧ s.port.eStop = true ∧ u = { s with port.eStop := false })
      ∨ (c = .webBreakBecomesInactive n ∧ s.port.webBreak = true ∧ u = { s with port.webBreak := false })
      ∨ (c = .quietTimerExpiry ∧ s.ctl.quiet.isSome = true ∧ u = { s with ctl.quiet := none })) :
    exec c s = .next (haltedExit u) := by
  have hfalls : ∀ {level : Bool}, level = true → falls level n = true := fun h => by rw [falls_iff]; exact ⟨h, hn⟩
  rcases h with ⟨rfl, hlevel, rfl⟩ | ⟨rfl, hlevel, rfl⟩ | ⟨rfl, hquiet, rfl⟩
  · have harm : exec (.eStopBecomesInactive n) s = execEStopBecomesInactive n s := rfl
    rw [harm, execEStopBecomesInactive, if_pos ⟨hlive, hfalls hlevel⟩]
  · have harm : exec (.webBreakBecomesInactive n) s = execWebBreakBecomesInactive n s := rfl
    rw [harm, execWebBreakBecomesInactive, if_pos ⟨hlive, hfalls hlevel⟩]
  · have harm : exec .quietTimerExpiry s = execQuietTimerExpiry s := rfl
    rw [harm, execQuietTimerExpiry, if_pos hquiet]

/-- Settles O19: the exit of HALTED is tested at each change of its conditions. -/
theorem haltedIsLeftWhenReleased : Obligations.HaltedIsLeftWhenReleased := by
  unfold Obligations.HaltedIsLeftWhenReleased
  refine ⟨fun s n c h => ?_, fun s u n c hlive hn h => ?_⟩
  · rcases h with ⟨rfl, hlevel⟩ | ⟨rfl, hlevel⟩
    · have harm : exec (.eStopBecomesInactive n) s = execEStopBecomesInactive n s := rfl
      rw [harm, execEStopBecomesInactive, if_neg (by rw [falls_iff, hlevel]; simp)]
    · have harm : exec (.webBreakBecomesInactive n) s = execWebBreakBecomesInactive n s := rfl
      rw [harm, execWebBreakBecomesInactive, if_neg (by rw [falls_iff, hlevel]; simp)]
  · rw [exec_haltedExit hlive hn h]
    refine ⟨fun hkept => by rw [haltedExit_of_kept hkept], fun hreleased => ⟨_, rfl, ?_⟩⟩
    have hexit := haltedExit_of_released hreleased
    rcases h with ⟨-, -, rfl⟩ | ⟨-, -, rfl⟩ | ⟨-, -, rfl⟩ <;> exact hexit

/-! ## O20: a RUN STATE (R7 to R12) -/

/-- STOPPING as it is entered, the test for its end not made. -/
def State.stopped (s : State) : State := handCeiling (handPosition { s with stn := .stopping })

theorem stopped_eq (s : State) : s.stopped = { s with
    stn := .stopping, pos.keepAlive := s.stopped.pos.keepAlive, spd := s.stopped.spd, msg := s.stopped.msg } := by
  unfold State.stopped
  rw [handPosition_of_live (s := { s with stn := .stopping }) rfl]
  rfl

theorem stopped_fine (s : State) : s.stopped.spd.fine = s.spd.fine := by
  unfold State.stopped
  rw [handCeiling_fine, handPosition_spd]

theorem stopped_atRest (s : State) : s.stopped.atRest = s.atRest := by
  have hrole : s.stopped.role = s.role := by rw [stopped_eq]; rfl
  have hunwind : s.stopped.sup = s.sup := by rw [stopped_eq]
  rw [State.atRest, State.atRest, hrole, hunwind, stopped_fine]

theorem enterStopping_moving (h : s.atRest = false) : enterStopping s = s.stopped := by
  show stoppingEnd s.stopped = _
  rw [stoppingEnd, if_neg (by rw [stopped_atRest, h]; simp)]

theorem enterStopping_resting (h : s.atRest = true) : enterStopping s = enterReadyOrListen s.stopped := by
  show stoppingEnd s.stopped = _
  rw [stoppingEnd, if_pos ⟨by rw [stopped_eq], by rw [stopped_atRest, h]⟩]

/-! ## The last clear count through a transition (R12) -/

theorem localCause_lastClear (code : FaultCode) (detail : Nat) (s : State) :
    (localCause code detail false s).ctl.lastClear = s.ctl.lastClear := by
  cases hlive : s.live with
  | false => simp [localCause, hlive]
  | true =>
    by_cases hstn : s.stn = .halted
    · simp [localCause, hlive, hstn]
    · rw [localCause_halts hlive hstn, postLasting_ctl, sendPattern_ctl, enterHalted_ctl]

theorem enterListen_lastClear (s : State) : (enterListen s).ctl.lastClear = s.ctl.lastClear := by
  have hlistening : s.listening.ctl.lastClear = s.ctl.lastClear := rfl
  rw [enterListen_eq]
  split_ifs
  · rw [localCause_lastClear, hlistening]
  · rw [localCause_lastClear, hlistening]
  · exact hlistening

theorem enterReadyOrListen_lastClear (s : State) : (enterReadyOrListen s).ctl.lastClear = s.ctl.lastClear := by
  unfold enterReadyOrListen
  split
  · rw [enterReady_ctl]
  · exact enterListen_lastClear s

theorem enterStopping_lastClear (s : State) : (enterStopping s).ctl.lastClear = s.ctl.lastClear := by
  have hctl : s.stopped.ctl = s.ctl := by rw [stopped_eq]
  cases h : s.atRest with
  | false => rw [enterStopping_moving h, hctl]
  | true => rw [enterStopping_resting h, enterReadyOrListen_lastClear, hctl]

theorem runStateActs_lastClear (run : Bool) (s : State) : (runStateActs run s).ctl.lastClear = s.ctl.lastClear := by
  unfold runStateActs
  split
  · unfold listenTest
    split
    · rw [enterReady_ctl]
    · rfl
  · split
    · unfold enterRunning
      rw [handCeiling_ctl, handPosition_ctl]
    · rfl
  · split
    · rfl
    · exact enterStopping_lastClear s
  · unfold haltedExit
    split
    · rw [enterReadyOrListen_lastClear, (releaseRole_fields _).1]
    · rfl
  · rfl

/-- A RUN STATE acts on the station with its set speed, clear count, heard flag and silence timer taken (R12, R77). -/
def State.withRunState (m : RunStateMsg) (s : State) : State := { s with
  spd.setSpeed := min m.setSpeed s.roleMax
  ctl.lastClear := some m.clear
  ctl.entryClear := if s.stn = .halted ∧ s.ctl.entryClear = none then some m.clear else s.ctl.entryClear
  ctl.consoleHeard := true
  link.consoleSilence := some s.conf.silenceLimit
  link.latch := none }

theorem exec_runState {p : List Byte} {l : Latch} {m : RunStateMsg} (h : s.hears 8 consoleStation p l) (hparse : parseRunState p = some m) :
    exec (.runState consoleStation p) s = .next (runStateActs m.run (s.withRunState m)) := by
  have harm : exec (.runState consoleStation p) s = execRunState consoleStation p s := rfl
  rw [harm, execRunState, receive_of_hears h, hparse]
  rfl

theorem withRunState_entryClear {m : RunStateMsg} {b : Byte} (h : s.ctl.entryClear = some b) :
    (s.withRunState m).ctl.entryClear = some b := by
  show (if s.stn = .halted ∧ s.ctl.entryClear = none then some m.clear else s.ctl.entryClear) = _
  rw [if_neg (by rw [h]; simp), h]

/-- In HALTED a RUN STATE releases the station when its clear count differs from that of the entry and the other conditions hold (R16). -/
theorem withRunState_released {m : RunStateMsg} (hstn : s.stn = .halted) : (s.withRunState m).released ↔
    (∃ b, s.ctl.entryClear = some b ∧ b ≠ m.clear) ∧ s.ctl.quiet = none ∧ s.port.eStop = false ∧ s.port.webBreak = false := by
  constructor
  · rintro ⟨-, ⟨a, b, ha, hb, hne⟩, hrest⟩
    refine ⟨?_, hrest⟩
    have hlast : some m.clear = some a := ha
    cases hentry : s.ctl.entryClear with
    | none =>
      have hclear : (s.withRunState m).ctl.entryClear = some m.clear := if_pos ⟨hstn, hentry⟩
      exact absurd (Option.some.inj (hlast.symm.trans (hclear.symm.trans hb))) hne
    | some c =>
      have hc : c = b := Option.some.inj ((withRunState_entryClear hentry).symm.trans hb)
      exact ⟨c, rfl, fun heq => hne (by rw [← hc, heq]; exact (Option.some.inj hlast).symm)⟩
  · rintro ⟨⟨b, hentry, hne⟩, hrest⟩
    exact ⟨hstn, ⟨m.clear, b, rfl, withRunState_entryClear hentry, hne.symm⟩, hrest⟩

theorem runStateActs_halted {run : Bool} (h : s.stn = .halted) : runStateActs run s = haltedExit s := by simp only [runStateActs, h]

/-- Settles O20: the RUN STATE's own quantities, then each station state in turn. -/
theorem runStateIsTaken : Obligations.RunStateIsTaken := by
  unfold Obligations.RunStateIsTaken
  intro s p l m hhears hparse
  set u := s.withRunState m with hu
  have hkept : (runStateActs m.run u).sansHalt = u.sansHalt := runStateActs_sansHalt _ _
  have hheard : u.heard = s.ctl.neighbourHeard := Bool.true_and _
  rw [exec_runState hhears hparse]
  refine ⟨_, rfl, (congrArg (fun v : State => v.spd.setSpeed) hkept :), runStateActs_lastClear _ u,
    (congrArg (fun v : State => v.link.consoleSilence) hkept :), fun hstn => ?_, fun hstn => ?_, fun hstn hrun => ?_,
    fun hstn hrun hrest => ?_, fun hstn hrun hrest hneighbour => ?_, fun hstn hrun hrest hneighbour he hw => ?_, fun hstn => ?_,
    fun hstn hentry => ?_, fun hstn hentry => ?_, fun b hstn hentry hheld => ?_, fun b hstn hentry hne hquiet he hw => ?_⟩
  · have hacts : runStateActs m.run u = listenTest u := by simp only [runStateActs, show u.stn = .listen from hstn]
    rw [hacts, listenTest, hheard]
    cases s.ctl.neighbourHeard with
    | false => rw [if_neg (by simp)]; exact ⟨rfl, hstn⟩
    | true => rw [if_pos ⟨hstn, rfl⟩, enterReady_ctl, enterReady_stn]; exact ⟨rfl, rfl⟩
  · have hacts : runStateActs m.run u = if m.run && s.mayRun then enterRunning u else u := by
      simp only [runStateActs, show u.stn = .ready from hstn]
      rfl
    rw [hacts]
    split
    · refine ⟨?_, enterRunning_stn u⟩
      unfold enterRunning
      rw [handCeiling_ctl, handPosition_ctl]
      rfl
    · exact ⟨rfl, hstn⟩
  · have hacts : runStateActs m.run u = u := by simp only [runStateActs, show u.stn = .running from hstn, hrun, if_true]
    rw [hacts]
    exact hstn
  · have hacts : runStateActs m.run u = enterStopping u := by
      simp only [runStateActs, show u.stn = .running from hstn, hrun, Bool.false_eq_true, if_false]
    rw [hacts, enterStopping_moving (s := u) hrest, stopped_eq]
  · have hacts : runStateActs m.run u = enterStopping u := by
      simp only [runStateActs, show u.stn = .running from hstn, hrun, Bool.false_eq_true, if_false]
    have hheard' : u.stopped.heard = true := by
      rw [stopped_eq]
      exact hheard.trans hneighbour
    rw [hacts, enterStopping_resting (s := u) hrest, enterReadyOrListen, if_pos hheard', enterReady_stn]
  · have hacts : runStateActs m.run u = enterStopping u := by
      simp only [runStateActs, show u.stn = .running from hstn, hrun, Bool.false_eq_true, if_false]
    have hheard' : u.stopped.heard = false := by
      rw [stopped_eq]
      exact hheard.trans hneighbour
    rw [hacts, enterStopping_resting (s := u) hrest, (enterReadyOrListen_fields (by rw [stopped_eq]; exact he)
      (by rw [stopped_eq]; exact hw)).1, hheard']
    rfl
  · have hacts : runStateActs m.run u = u := by simp only [runStateActs, show u.stn = .stopping from hstn]
    rw [hacts]
    exact hstn
  · have hclear : u.ctl.entryClear = some m.clear := if_pos ⟨hstn, hentry⟩
    rw [runStateActs_halted (s := s.withRunState m) hstn, haltedExit_of_kept]
    · exact ⟨hstn, hclear⟩
    · rw [withRunState_released hstn, hentry]
      exact fun ⟨⟨b, hb, _⟩, _⟩ => nomatch hb
  · rw [runStateActs_halted (s := s.withRunState m) hstn, haltedExit_of_kept]
    · exact hstn
    · rw [withRunState_released hstn, hentry]
      exact fun ⟨⟨b, hb, hne⟩, _⟩ => hne (Option.some.inj hb).symm
  · rw [runStateActs_halted (s := s.withRunState m) hstn, haltedExit_of_kept]
    · exact ⟨hstn, withRunState_entryClear hentry, rfl, rfl⟩
    · rw [withRunState_released hstn]
      rintro ⟨-, hquiet, he, hw⟩
      simp [hquiet, he, hw] at hheld
  · have hreleased : u.released := (withRunState_released hstn).mpr ⟨⟨b, hentry, hne⟩, hquiet, he, hw⟩
    rw [runStateActs_halted (s := s.withRunState m) hstn, (haltedExit_of_released hreleased).1]
    rfl

/-! ## O21: silence (R11, R35, R68, R132) -/

/-- The stop of a RUNNING station by a silence, no input active (R9, R10, R11). -/
theorem enterStopping_fields (he : s.port.eStop = false) (hw : s.port.webBreak = false) (hheard : s.heard = false) :
    (enterStopping s).stn = (if s.atRest then .listen else .stopping) ∧ (enterStopping s).fault = s.fault
      ∧ (s.ctl.consoleHeard = false → (enterStopping s).ctl.consoleHeard = false)
      ∧ (s.ctl.neighbourHeard = false → (enterStopping s).ctl.neighbourHeard = false) := by
  have hctl : s.stopped.ctl = s.ctl := by rw [stopped_eq]
  have hfault : s.stopped.fault = s.fault := by rw [stopped_eq]
  cases h : s.atRest with
  | false =>
    rw [enterStopping_moving h, hctl, hfault]
    exact ⟨by rw [stopped_eq]; rfl, rfl, id, id⟩
  | true =>
    obtain ⟨hstn, hctl', -, -, -, hfault', -⟩ := enterReadyOrListen_fields (s := s.stopped)
      (by rw [stopped_eq]; exact he) (by rw [stopped_eq]; exact hw)
    have hheard' : s.stopped.heard = false := by rw [State.heard, hctl]; exact hheard
    rw [enterStopping_resting h, hstn, hctl', hfault', hheard', hfault]
    exact ⟨rfl, rfl, fun _ => rfl, fun _ => rfl⟩

/-- What a silence does, no input active (R11). -/
theorem silence_fields (code : FaultCode) (detail : Nat) (he : s.port.eStop = false) (hw : s.port.webBreak = false)
    (hheard : s.heard = false) : s.silenced (silence code detail s) code detail
      ∧ (s.ctl.consoleHeard = false → (silence code detail s).ctl.consoleHeard = false)
      ∧ (s.ctl.neighbourHeard = false → (silence code detail s).ctl.neighbourHeard = false) := by
  set v := recordFault code detail s with hv
  have he' : v.port.eStop = false := by rw [hv, recordFault_port]; exact he
  have hw' : v.port.webBreak = false := by rw [hv, recordFault_port]; exact hw
  have hctl : v.ctl = s.ctl := recordFault_ctl _ _ _
  have hrest : v.atRest = s.atRest := by
    rw [State.atRest, State.atRest, State.role, hv, recordFault_cfg, recordFault_sup, recordFault_spd]
    rfl
  have hrecord : s.live = true → s.msg.room = true → v.fault = some ⟨code, half16 detail, s.stn⟩ := fun hlive hroom => by
    rw [hv, recordFault_room hroom hlive]
  cases hstn : s.stn with
  | ready =>
    have hsilence : silence code detail s = v.listening := by
      simp only [silence, hstn]
      exact enterListen_of_inactive he' hw'
    rw [hsilence]
    refine ⟨?_, fun _ => rfl, fun _ => rfl⟩
    unfold State.silenced
    rw [hstn]
    exact ⟨by simp, fun _ => rfl, by simp, by simp, fun _ hroom => by rw [← hstn]; exact hrecord (live_of_stn hstn) hroom⟩
  | running =>
    have hsilence : silence code detail s = enterStopping v := by simp only [silence, hstn, hv]
    obtain ⟨hstn', hfault, hconsole, hneighbour⟩ := enterStopping_fields he' hw' (by rw [State.heard, hctl]; exact hheard)
    rw [hctl] at hconsole hneighbour
    rw [hsilence]
    refine ⟨?_, hconsole, hneighbour⟩
    unfold State.silenced
    rw [hstn, hstn', hfault, hrest]
    exact ⟨by simp, by simp, fun _ => rfl, by simp, fun _ hroom => by rw [← hstn]; exact hrecord (live_of_stn hstn) hroom⟩
  | stopping =>
    have hsilence : silence code detail s = v := by simp only [silence, hstn, hv]
    rw [hsilence, hctl]
    refine ⟨?_, id, id⟩
    unfold State.silenced
    rw [hstn]
    exact ⟨by simp, by simp, by simp, fun _ => (recordFault_stn _ _ s).trans hstn,
      fun _ hroom => by rw [← hstn]; exact hrecord (live_of_stn hstn) hroom⟩
  | _ =>
    have hsilence : silence code detail s = s := by simp only [silence, hstn]
    rw [hsilence]
    refine ⟨?_, id, id⟩
    unfold State.silenced
    simp [hstn]

theorem neighbourLost_eq (s : State) : neighbourLost s =
    { s with sup.vHead := (neighbourLost s).sup.vHead, pos.errorRun := (neighbourLost s).pos.errorRun } := by
  unfold neighbourLost
  split <;> rfl

/-- Settles O21: the two silence timers. -/
theorem silenceStandsDown : Obligations.SilenceStandsDown := by
  unfold Obligations.SilenceStandsDown
  intro s he hw
  refine ⟨fun htimer => ?_, fun htimer => ?_⟩
  · set u : State := { s with link.consoleSilence := none, ctl.consoleHeard := false } with hu
    have hnext : exec .consoleSilenceTimerExpiry s = .next (silence .consoleSilent 7 u) := by
      have harm : exec .consoleSilenceTimerExpiry s = execConsoleSilenceTimerExpiry s := rfl
      rw [harm, execConsoleSilenceTimerExpiry, if_pos htimer]
    obtain ⟨hsilenced, hconsole, -⟩ := silence_fields (s := u) .consoleSilent 7 he hw rfl
    have hkept : (silence .consoleSilent 7 u).sansHalt = u.sansHalt := silence_sansHalt _ _ u
    rw [hnext]
    exact ⟨_, rfl, (congrArg (fun v : State => v.link.consoleSilence) hkept :), hconsole rfl, hsilenced⟩
  · set u : State := { s with link.neighbourSilence := none, ctl.neighbourHeard := false } with hu
    set v := silence .neighbourSilent s.neighbour.toNat u with hv
    have hnext : exec .neighbourSilenceTimerExpiry s = .next (neighbourLost v) := by
      have harm : exec .neighbourSilenceTimerExpiry s = execNeighbourSilenceTimerExpiry s := rfl
      rw [harm, execNeighbourSilenceTimerExpiry, if_pos htimer]
    obtain ⟨hsilenced, -, hneighbour⟩ := silence_fields (s := u) .neighbourSilent s.neighbour.toNat he hw (Bool.and_false _)
    have hkept : v.sansHalt = u.sansHalt := silence_sansHalt _ _ u
    have hrole : v.role = s.role := (congrArg State.role hkept :)
    rw [hnext]
    refine ⟨_, rfl, ?_, ?_, ?_, fun hsupply => ?_, fun hsetter => ?_⟩
    · rw [neighbourLost_eq]
      exact (congrArg (fun v : State => v.link.neighbourSilence) hkept :)
    · rw [neighbourLost_eq]
      exact hneighbour rfl
    · rw [neighbourLost_eq]
      exact hsilenced
    · have hlost : neighbourLost v = { v with sup.vHead := 0 } := by simp only [neighbourLost, hrole, hsupply]
      rw [hlost]
      exact ⟨rfl, (congrArg (fun v : State => v.sup.offset) hkept :)⟩
    · have hlost : neighbourLost v = { v with pos.errorRun := 0 } := by simp only [neighbourLost, hrole, hsetter]
      rw [hlost]
      exact ⟨rfl, (congrArg (fun v : State => v.pos.offset) hkept :)⟩

end

end Sys2Proof.Machine
end

section
/-! PROOFS. O23, the line coding: characters and their bits (R19, R21), the frame check (R22, R31), a REQUEST read back (R170). -/

namespace Sys2Proof.Machine

section

/-! ## Characters and bits (R19) -/

theorem bitsOf_eq (c : LinkChar) : bitsOf c = [false, c.data.getLsbD 0, c.data.getLsbD 1, c.data.getLsbD 2, c.data.getLsbD 3,
    c.data.getLsbD 4, c.data.getLsbD 5, c.data.getLsbD 6, c.data.getLsbD 7, c.mark, c.stop] := rfl

theorem sampled_bitsOf (c : LinkChar) : sampled (bitsOf c) = some c := by
  have hdata : (BitVec.ofBoolListLE [c.data.getLsbD 0, c.data.getLsbD 1, c.data.getLsbD 2, c.data.getLsbD 3, c.data.getLsbD 4,
      c.data.getLsbD 5, c.data.getLsbD 6, c.data.getLsbD 7] : BitVec 8) = c.data := by
    refine BitVec.eq_of_getLsbD_eq fun i hi => ?_
    have hlt : i < 8 := hi
    rw [BitVec.getLsbD_ofBoolListLE]
    interval_cases i <;> rfl
  exact congrArg (fun d => some (⟨d, c.mark, c.stop⟩ : LinkChar)) hdata

theorem bitsOf_of_sampled {bits : List Bool} {c : LinkChar} (h : sampled bits = some c) : bits = bitsOf c := by
  unfold sampled at h
  split at h
  · obtain rfl := Option.some.inj h
    simp only [bitsOf_eq, BitVec.getLsbD_ofBoolListLE]
    rfl
  · exact nomatch h

/-! ## The characters of a frame (R21, R22) -/

theorem frameChars_length (tag : Nat) (payload : List Byte) : (frameChars tag payload).length = payload.length + 4 := by
  simp [frameChars, halfBytes]

/-- The characters after the tag. -/
theorem frameChars_tail (tag : Nat) (payload : List Byte) : ∃ bytes : List Byte,
    frameChars tag payload = sentChar true (BitVec.ofNat 8 tag) :: bytes.map (sentChar false) := ⟨_, rfl⟩

theorem frameChars_get {tag i : Nat} {payload : List Byte} {c : LinkChar} (h : (frameChars tag payload)[i]? = some c) :
    c.stop = true ∧ c.mark = decide (i = 0) := by
  obtain ⟨bytes, hbytes⟩ := frameChars_tail tag payload
  rw [hbytes] at h
  cases i with
  | zero =>
    obtain rfl := Option.some.inj h
    exact ⟨rfl, rfl⟩
  | succ i =>
    rw [List.getElem?_cons_succ, List.getElem?_map, Option.map_eq_some_iff] at h
    obtain ⟨b, -, rfl⟩ := h
    exact ⟨rfl, rfl⟩

theorem flatMap_bitsOf_length (cs : List LinkChar) : (cs.flatMap bitsOf).length = 11 * cs.length := by
  rw [List.length_flatMap, List.map_congr_left (g := fun _ => 11) fun c _ => bitsOf_length c, List.map_const', List.sum_replicate,
    smul_eq_mul, Nat.mul_comm]

theorem lengthOk_le {kind n : Nat} (h : lengthOk kind n = true) : n ≤ 24 := by
  unfold lengthOk at h
  split at h <;> simp [requestLengthOk] at h <;> omega

/-- The receiver's checks, by character (R31). -/
theorem goodChars_of_checks {tag : LinkChar} {rest : List LinkChar} {n : Nat} (hn : rest.head?.map (·.data.toNat) = some n)
    (htag : isTag tag = true) (hchars : ∀ c ∈ rest, c.stop = true ∧ c.mark = false) (hle : n ≤ 24)
    (hlength : lengthOk (tag.data.toNat % 16) n = true) (hcount : (tag :: rest).length = n + 4)
    (hcheck : halfBytes (crc (((tag :: rest).map (·.data)).take (n + 2))) = ((tag :: rest).map (·.data)).drop (n + 2)) :
    goodChars (tag :: rest) = true := by
  have hall : rest.all (fun c => c.stop && !c.mark) = true := List.all_eq_true.mpr fun c hc => by
    obtain ⟨hstop, hmark⟩ := hchars c hc
    rw [hstop, hmark]
    rfl
  have hfirst : (rest.head?.map (·.data.toNat)).getD 25 = n := by rw [hn]; rfl
  simp only [goodChars, hfirst, htag, hall, hlength, hcount, hcheck, hle, decide_true, Bool.and_true]

/-- A frame passes the receiver's checks (R31). -/
theorem goodChars_frameChars {tag : Nat} {payload : List Byte} (htag : tag ≤ 127) (hlength : lengthOk (tag % 16) payload.length = true) :
    goodChars (frameChars tag payload) = true := by
  have hle := lengthOk_le hlength
  have htagByte : (BitVec.ofNat 8 tag).toNat = tag := by rw [BitVec.toNat_ofNat]; omega
  have hlenByte : (BitVec.ofNat 8 payload.length).toNat = payload.length := by rw [BitVec.toNat_ofNat]; omega
  set check := crc (BitVec.ofNat 8 tag :: BitVec.ofNat 8 payload.length :: payload) with hcheck
  have hdata : (frameChars tag payload).map (·.data)
      = (BitVec.ofNat 8 tag :: BitVec.ofNat 8 payload.length :: payload) ++ halfBytes check := by
    simp [frameChars, sentChar, hcheck, Function.comp_def]
  have htake : ((frameChars tag payload).map (·.data)).take (payload.length + 2)
      = BitVec.ofNat 8 tag :: BitVec.ofNat 8 payload.length :: payload := by
    rw [hdata]
    exact List.take_left' rfl
  have hdrop : ((frameChars tag payload).map (·.data)).drop (payload.length + 2) = halfBytes check := by
    rw [hdata]
    exact List.drop_left' rfl
  refine goodChars_of_checks (congrArg some hlenByte) ?_ (fun c hc => ?_) hle ?_ (frameChars_length tag payload) ?_
  · simp [isTag, sentChar, htagByte, htag]
  · obtain ⟨b, -, rfl⟩ := List.mem_map.mp hc
    exact ⟨rfl, rfl⟩
  · show lengthOk ((BitVec.ofNat 8 tag).toNat % 16) _ = true
    rw [htagByte, hlength]
  · exact (congrArg (fun l => halfBytes (crc l)) htake).trans hdrop.symm

/-! ## Fields and their bytes (R170) -/

theorem half_bytes (h : Half) : h.extractLsb' 8 8 ++ h.extractLsb' 0 8 = h :=
  (BitVec.extractLsb'_append_extractLsb'_eq_extractLsb' (rfl : 8 = 0 + 8)).trans BitVec.extractLsb'_eq_self

theorem word_bytes (w : Word) : (((w.extractLsb' 24 8 ++ w.extractLsb' 16 8 : Half) ++ (w.extractLsb' 8 8 ++ w.extractLsb' 0 8 : Half)) : Word)
    = w := by
  have hlow : (w.extractLsb' 8 8 ++ w.extractLsb' 0 8 : Half) = w.extractLsb' 0 16 :=
    BitVec.extractLsb'_append_extractLsb'_eq_extractLsb' (rfl : 8 = 0 + 8)
  have hhigh : (w.extractLsb' 24 8 ++ w.extractLsb' 16 8 : Half) = w.extractLsb' 16 16 :=
    BitVec.extractLsb'_append_extractLsb'_eq_extractLsb' (rfl : 24 = 16 + 8)
  rw [hlow, hhigh]
  exact (BitVec.extractLsb'_append_extractLsb'_eq_extractLsb' (rfl : 16 = 0 + 16)).trans BitVec.extractLsb'_eq_self

/-- A REQUEST this station sends is read back whole (R45, R170). -/
theorem parseRequest_bytes (m : RequestMsg) : parseRequest m.body.code m.bytes = some ⟨m.id, stationByte m.target, m.body⟩ := by
  obtain ⟨id, target, body, entry⟩ := m
  cases body with
  | patternBlock p i r second =>
    cases second <;>
      simp [parseRequest, parseReqBody, RequestMsg.bytes, ReqBody.bytes, ReqBody.code, StepRec.bytes, stepRecAt, byteAt, half, halfBytes,
        half_bytes]
  | seamSlot length margin =>
    simp only [parseRequest, parseReqBody, RequestMsg.bytes, ReqBody.bytes, ReqBody.code, byteAt, half, word, wordBytes]
    exact congrArg some (congrArg _ (congrArg₂ ReqBody.seamSlot (word_bytes length) (word_bytes margin)))
  | _ =>
    simp [parseRequest, parseReqBody, RequestMsg.bytes, ReqBody.bytes, ReqBody.code, byteAt, half, halfBytes, half_bytes]

/-- Settles O23: characters by their bits, frames by their characters, a REQUEST by its fields. -/
theorem sentIsReadBack : Obligations.SentIsReadBack := by
  unfold Obligations.SentIsReadBack
  refine ⟨fun c => ⟨bitsOf_eq c, sampled_bitsOf c, fun _ => bitsOf_of_sampled⟩, fun tag payload s => ⟨?_, fun i c => frameChars_get,
    fun htx hwire => ?_, fun htx => ?_, fun htx => ?_⟩, fun tag payload => goodChars_frameChars, parseRequest_bytes⟩
  · rw [flatMap_bitsOf_length, frameChars_length]
  · rcases htx with htx | htx <;> simp only [State.driven, htx, hwire]
  · simp only [State.driven, htx]
  · simp only [State.driven, htx]

end

end Sys2Proof.Machine
end

section
/-! PROOFS. O24 and O25, the end of a flight: withdrawn, cancelled or complete (R25 to R27, R38, R42, R43). -/

namespace Sys2Proof.Machine

section
variable {s t u : State} {m : Msg}

/-! ## Entries whose frame is in flight -/

theorem exec_frameCancelled {bit : Nat} (htx : s.link.tx = .sendingTag ∨ s.link.tx = .sendingBody) (hbit : 11 ≤ bit) :
    exec (.frameCancelled bit) s = .next (cancelFlying { s with link.tx := .waiting, link.wire := [], link.latch := none }) := by
  have harm : exec (.frameCancelled bit) s = execFrameCancelled bit s := rfl
  have hsending : s.sending = true := by rcases htx with h | h <;> simp [State.sending, h]
  rw [harm, execFrameCancelled, if_pos ⟨hsending, hbit⟩]
  rfl

theorem fail_of_replaced {e : QEntry} {passing : Bool} (h : e.flight = .inFlight passing true) :
    QEntry.fail e = { e with flight := .waiting } := by simp only [QEntry.fail, h]

theorem fail_of_sent {e : QEntry} {passing : Bool} (h : e.flight = .inFlight passing false) :
    QEntry.fail e = { e with failures := e.failures + 1, flight := .waiting } := by simp only [QEntry.fail, h]

/-- A cancellation below the failure limit leaves the frame at its place (R26). -/
theorem cancelFlying_stays {i : Nat} {e : QEntry} (hflying : s.msg.flying = some i) (hget : s.msg.queue[i]? = some e)
    (hfail : (QEntry.fail e).failures < 3) : cancelFlying s = { s with msg.queue := s.msg.queue.set i (QEntry.fail e) } := by
  simp only [cancelFlying, hflying, hget]
  rw [if_pos hfail, modifyAt_eq_set hget]

/-- At the failure limit the frame is dropped and LINK TRANSMIT recorded (R26). -/
theorem cancelFlying_drops {i : Nat} {e : QEntry} (hflying : s.msg.flying = some i) (hget : s.msg.queue[i]? = some e)
    (hfail : 3 ≤ (QEntry.fail e).failures) : cancelFlying s =
      recordFault .linkTransmit (tagOf (s.sender.getD 0) e.frame.kind) { s with msg := s.msg.land.free i } := by
  simp only [cancelFlying, hflying, hget]
  exact if_neg (Nat.not_lt.mpr hfail)

theorem land_oldestAsk (m : Msg) (i : Nat) : m.land.oldestAsk i = m.oldestAsk i := by
  simp only [Msg.oldestAsk, Msg.land, List.findIdx?_map]
  rfl

theorem eraseIdx_isEmpty_iff {α : Type} {l : List α} {i : Nat} (h : i < l.length) : (l.eraseIdx i).isEmpty = true ↔ l.length = 1 := by
  rw [List.isEmpty_iff_length_eq_zero, List.length_eraseIdx_of_lt h]
  omega

/-- A freed entry of a landed queue, before it goes to a held frame (R38, R43). -/
theorem land_free_eq {i : Nat} (h : i < m.queue.length) : m.land.free i = Msg.refill { m with
    queue := (m.queue.map fun e => { e with flight := .waiting }).eraseIdx i
    passCount := if m.queue.findIdx? (fun q => !q.frame.isNotice) = some i ∨ m.queue.length = 1 then 0 else m.passCount } := by
  have hcond : (m.land.oldestAsk i || (m.land.queue.eraseIdx i).isEmpty) = true ↔
      m.queue.findIdx? (fun q => !q.frame.isNotice) = some i ∨ m.queue.length = 1 := by
    have hlen : m.land.queue.length = m.queue.length := List.length_map _
    rw [Bool.or_eq_true, land_oldestAsk, eraseIdx_isEmpty_iff (by rw [hlen]; exact h), hlen, Msg.oldestAsk, beq_iff_eq]
  unfold Msg.free
  simp only [hcond]
  rfl

/-- With nothing held a free entry stays free (R42). -/
theorem refill_of_holdsNothing (h : m.holdsNothing) : m.refill = m := by
  obtain ⟨hposition, hceiling, hroll, hunsent⟩ := h
  unfold Msg.refill
  simp [hposition, hceiling, hroll, hunsent]

/-- A freed entry that goes to a held frame is counted nowhere (R40). -/
theorem refill_lost (m : Msg) : m.refill.lost = m.lost := by
  unfold Msg.refill
  repeat' split
  all_goals rfl

/-- A fault whose FAULT notice finds no entry is overtaken by LINK OVERRUN (R17, R40). -/
theorem recordFault_full {c : FaultCode} {d : Nat} (hlive : s.live = true) (hfull : s.msg.room = false) :
    recordFault c d s = { s with fault := some ⟨.linkOverrun, 5, s.stn⟩, msg.lost := satInc (satInc s.msg.lost) } := by
  have hstn : s.stn ≠ .configFault := fun h => by simp [State.live, h, StationState.live] at hlive
  simp only [recordFault, hlive, if_true, postLasting, hfull, Bool.false_eq_true, if_false, hstn]
  rfl

theorem recordFault_of_dead {c : FaultCode} {d : Nat} (hlive : s.live = false) : recordFault c d s = s := by
  simp only [recordFault, hlive, Bool.false_eq_true, if_false]

theorem room_eq_false (h : 12 ≤ m.queue.length) : m.room = false := by
  simp only [Msg.room, Config.queueSize, decide_eq_false_iff_not]
  omega

theorem room_of_lt (h : m.queue.length < 12) : m.room = true := by
  simp only [Msg.room, Config.queueSize, decide_eq_true_eq]
  exact h

theorem satInc_eq {n : Nat} (h : n ≤ 255) : satInc n = min 255 (n + 1) := by
  unfold satInc
  split <;> omega

/-- Settles O24: a withdrawal, then a cancellation below, and at, the failure limit. -/
theorem framesAreWithdrawnOrCancelled : Obligations.FramesAreWithdrawnOrCancelled := by
  unfold Obligations.FramesAreWithdrawnOrCancelled
  refine ⟨fun s bit htx hbit => ?_, fun s bit i e passing replaced htx hbit hflying hget hflight => ?_⟩
  · have harm : exec (.frameWithdrawn bit) s = execFrameWithdrawn bit s := rfl
    rw [harm, execFrameWithdrawn, if_pos ⟨htx, hbit⟩]
    rfl
  · set u : State := { s with link.tx := .waiting, link.wire := [], link.latch := none } with hu
    have hi : i < s.msg.queue.length := (List.getElem?_eq_some_iff.mp hget).1
    have hfree := land_free_eq (m := s.msg) hi
    set w : Msg := { s.msg with
      queue := (s.msg.queue.map fun e => { e with flight := .waiting }).eraseIdx i
      passCount := if s.msg.queue.findIdx? (fun q => !q.frame.isNotice) = some i ∨ s.msg.queue.length = 1 then 0
        else s.msg.passCount } with hw
    have hdropped : replaced = false → 3 ≤ e.failures + 1 → cancelFlying u =
        recordFault .linkTransmit (tagOf (s.sender.getD 0) e.frame.kind) { u with msg := w.refill } := fun hr hfail => by
      subst hr
      rw [cancelFlying_drops (s := u) hflying hget (by rw [fail_of_sent hflight]; exact hfail), ← hfree]
      rfl
    have htag : ∀ n, s.sender = some n → tagOf (s.sender.getD 0) e.frame.kind = n.toNat * 16 + e.frame.kind := fun n hn => by
      rw [hn]; rfl
    rw [exec_frameCancelled htx hbit]
    refine ⟨fun hr hzero => ?_, fun hr hfail => ?_, fun hr hfail hnothing => ⟨_, rfl, ?_⟩, fun hr hfail => ⟨_, w.refill, rfl, ?_⟩⟩
    · subst hr
      rw [cancelFlying_stays (s := u) hflying hget (by rw [fail_of_replaced hflight, hzero]; decide), fail_of_replaced hflight]
    · subst hr
      rw [cancelFlying_stays (s := u) hflying hget (by rw [fail_of_sent hflight]; exact hfail), fail_of_sent hflight]
    · have hkept : w.refill = w := refill_of_holdsNothing hnothing
      rw [hdropped hr hfail, hkept]
      refine ⟨recordFault_link _ _ _, fun hlive => ?_, fun hlive hlen n hn => ?_⟩
      · rw [recordFault_of_dead (by exact hlive)]
        exact ⟨rfl, rfl⟩
      · have hroom : w.room = true := room_of_lt (by
          show ((s.msg.queue.map _).eraseIdx i).length < 12
          rw [List.length_eraseIdx_of_lt (by rw [List.length_map]; exact hi), List.length_map]
          omega)
        rw [recordFault_room (by exact hroom) (by exact hlive), htag n hn]
        exact ⟨rfl, rfl⟩
    · rw [hdropped hr hfail]
      refine ⟨recordFault_link _ _ _, rfl, fun hlive => ?_, fun hlive hlen n hn => ?_, fun hlive hlen hlost => ?_⟩
      · rw [recordFault_of_dead (by exact hlive)]
        exact ⟨rfl, rfl⟩
      · rw [recordFault_room (by exact room_of_lt hlen) (by exact hlive), htag n hn]
        exact ⟨rfl, rfl⟩
      · rw [recordFault_full (by exact hlive) (by exact room_eq_false hlen)]
        have hcount : satInc (satInc w.refill.lost) = min 255 (w.refill.lost + 2) := by
          have hlost' : w.refill.lost = s.msg.lost := refill_lost w
          rw [satInc_eq (n := w.refill.lost) (by omega), satInc_eq (Nat.min_le_left _ _)]
          omega
        exact ⟨rfl, by rw [← hcount]⟩

/-! ## O25: a completion (R27, R38, R43) -/

theorem exec_frameComplete (htx : s.link.tx = .sendingTag ∨ s.link.tx = .sendingBody) :
    exec .frameComplete s = .next (completeFlying { s with link.tx := .waiting, link.wire := [], link.latch := none }) := by
  have harm : exec .frameComplete s = execFrameComplete s := rfl
  have hsending : s.sending = true := by rcases htx with h | h <;> simp [State.sending, h]
  rw [harm, execFrameComplete, if_pos hsending]
  rfl

theorem completeFlying_eq {i : Nat} {e : QEntry} (hflying : s.msg.flying = some i) (hget : s.msg.queue[i]? = some e) :
    completeFlying s = { s with msg := (s.msg.countPass e).completeAt i e } := by
  simp only [completeFlying, hflying, hget]

theorem countPass_eq {e : QEntry} {passing replaced : Bool} (h : e.flight = .inFlight passing replaced) :
    m.countPass e = { m with passCount := if passing then min 2 (m.passCount + 1) else m.passCount } := by
  unfold Msg.countPass
  rw [h]
  cases passing <;> rfl

theorem completeAt_replaced {i : Nat} {e : QEntry} {passing : Bool} (h : e.flight = .inFlight passing true) :
    m.completeAt i e = { m with queue := m.queue.eraseIdx i ++ [⟨e.frame, 0, .waiting⟩] } := by
  simp only [Msg.completeAt, h]

theorem completeAt_sent {i : Nat} {e : QEntry} {passing : Bool} (h : e.flight = .inFlight passing false) :
    m.completeAt i e = m.free i := by simp only [Msg.completeAt, h]

theorem refill_passCount (m : Msg) : m.refill.passCount = m.passCount := by
  unfold Msg.refill
  repeat' split
  all_goals rfl

/-- The oldest request or answer is one. -/
theorem isNotice_of_oldestAsk {i : Nat} {e : QEntry} (hget : m.queue[i]? = some e) (h : m.oldestAsk i = true) :
    e.frame.isNotice = false := by
  rw [Msg.oldestAsk, beq_iff_eq, List.findIdx?_eq_some_iff_getElem] at h
  obtain ⟨hi, hask, -⟩ := h
  obtain ⟨hi', rfl⟩ := List.getElem?_eq_some_iff.mp hget
  simpa using hask

/-- Settles O25: the completed frame's entry, and the pass count. -/
theorem completionFreesTheEntry : Obligations.CompletionFreesTheEntry := by
  unfold Obligations.CompletionFreesTheEntry
  intro s i e passing replaced htx hflying hget hflight
  set u : State := { s with link.tx := .waiting, link.wire := [], link.latch := none } with hu
  have hi : i < s.msg.queue.length := (List.getElem?_eq_some_iff.mp hget).1
  rw [exec_frameComplete htx, completeFlying_eq (s := u) hflying hget]
  refine ⟨_, rfl, rfl, ?_⟩
  have hcounted : (u.msg.countPass e) = { s.msg with passCount := if passing then min 2 (s.msg.passCount + 1) else s.msg.passCount } :=
    countPass_eq hflight
  set w : Msg := { s.msg with passCount := if passing then min 2 (s.msg.passCount + 1) else s.msg.passCount } with hw
  rw [hcounted]
  cases replaced with
  | true =>
    rw [completeAt_replaced hflight]
    exact ⟨(fun h => nomatch h), (fun h => nomatch h), fun _ => rfl, (fun h => nomatch h), fun _ _ => rfl, (fun h => nomatch h)⟩
  | false =>
    rw [completeAt_sent hflight]
    have hfree : w.free i = Msg.refill { s.msg with
        queue := s.msg.queue.eraseIdx i, passCount := if w.oldestAsk i || (s.msg.queue.eraseIdx i).isEmpty then 0 else w.passCount } := rfl
    have hcount : (w.free i).passCount = if w.oldestAsk i || (s.msg.queue.eraseIdx i).isEmpty then 0 else w.passCount := by
      rw [hfree, refill_passCount]
    refine ⟨fun _ => by rw [hcount, hfree], fun _ hnothing => ?_, (fun h => nomatch h), fun _ hlen => ?_, fun hnotice hlen => ?_,
      fun _ holdest => ?_⟩
    · rw [hcount, hfree]
      exact refill_of_holdsNothing hnothing
    · rw [hcount, if_pos]
      rw [Bool.or_eq_true, eraseIdx_isEmpty_iff hi]
      exact .inr hlen
    · rw [hcount, if_neg]
      rw [Bool.or_eq_true, eraseIdx_isEmpty_iff hi]
      rintro (holdest | hone)
      · exact absurd (isNotice_of_oldestAsk (m := w) hget holdest) (by rw [hnotice]; decide)
      · exact hlen.elim (fun h => nomatch h) fun h => absurd hone (Nat.ne_of_gt h)
    · rw [hcount, if_pos]
      rw [Bool.or_eq_true, Msg.oldestAsk, beq_iff_eq]
      exact .inl holdest

end

end Sys2Proof.Machine
end

section
/-! PROOFS. O27, the outbound queue: what is replaced, placed, held, marked or lost (R38 to R42). -/

namespace Sys2Proof.Machine

section
variable {m : Msg} {f : Frame}

/-! ## Superseding notices (R39) -/

theorem hold_eq (m : Msg) (f : Frame) : m.hold f = { m with
    heldPosition := (m.hold f).heldPosition, heldCeiling := (m.hold f).heldCeiling, heldRollState := (m.hold f).heldRollState } := by
  cases f <;> rfl

theorem hold_queue (m : Msg) (f : Frame) : (m.hold f).queue = m.queue := by rw [hold_eq]

/-- What is held of a frame's kind is discarded (R39). -/
theorem clearHeld_eq (m : Msg) (h : f.superseding = true) : m.clearHeld f = { m with
    heldPosition := m.heldPosition && f.kind != 0
    heldCeiling := if f.kind = 1 then none else m.heldCeiling
    heldRollState := if f.kind = 4 then none else m.heldRollState } := by
  cases f with
  | position => simp [Msg.clearHeld, Frame.kind]
  | ceiling c => simp [Msg.clearHeld, Frame.kind]
  | rollState r => simp [Msg.clearHeld, Frame.kind]
  | _ => simp [Frame.superseding] at h

theorem supersede_replaces (hkind : m.hasKind f.kind = true) : m.supersede f = { m.clearHeld f with
    queue := m.queue.map fun e => if e.frame.kind = f.kind then e.replaceWith f else e } := if_pos hkind

theorem supersede_places (hkind : m.hasKind f.kind = false) (hlen : m.queue.length < 12) : m.supersede f = (m.clearHeld f).place f := by
  rw [Msg.supersede, hkind, if_neg (by simp), if_pos (room_of_lt hlen)]

theorem supersede_holds (hkind : m.hasKind f.kind = false) (hlen : 12 ≤ m.queue.length) : m.supersede f = m.hold f := by
  rw [Msg.supersede, hkind, if_neg (by simp), room_eq_false hlen, if_neg (by simp)]

/-- A superseding notice by the three ways it can go (R39). -/
theorem supersede_rules (h : f.superseding = true) :
    m.supersede f = { m with
      queue := (m.supersede f).queue, heldPosition := (m.supersede f).heldPosition, heldCeiling := (m.supersede f).heldCeiling
      heldRollState := (m.supersede f).heldRollState }
    ∧ (m.hasKind f.kind = true ∨ m.queue.length < 12 →
        (m.supersede f).heldPosition = (m.heldPosition && f.kind != 0)
        ∧ (m.supersede f).heldCeiling = (if f.kind = 1 then none else m.heldCeiling)
        ∧ (m.supersede f).heldRollState = (if f.kind = 4 then none else m.heldRollState)) := by
  have hclear := clearHeld_eq m h
  cases hkind : m.hasKind f.kind with
  | true =>
    rw [supersede_replaces hkind, hclear]
    exact ⟨rfl, fun _ => ⟨rfl, rfl, rfl⟩⟩
  | false =>
    by_cases hlen : m.queue.length < 12
    · rw [supersede_places hkind hlen, hclear]
      exact ⟨rfl, fun _ => ⟨rfl, rfl, rfl⟩⟩
    · rw [supersede_holds hkind (Nat.le_of_not_lt hlen)]
      exact ⟨by rw [hold_queue]; exact hold_eq m f, fun hor => hor.elim (fun h => nomatch h) fun h => absurd h hlen⟩

/-- An entry of the queue after a superseding notice of a kind that it holds (R27, R39). -/
theorem supersede_entry (hkind : m.hasKind f.kind = true) {i : Nat} {e : QEntry} (hget : m.queue[i]? = some e) :
    (m.supersede f).queue[i]? = some (if e.frame.kind = f.kind then e.replaceWith f else e) := by
  rw [supersede_replaces hkind, List.getElem?_map, hget, Option.map_some]

/-! ## Lasting notices, requests and answers (R40, R41) -/

theorem postLasting_full {s : State} (hlen : 12 ≤ s.msg.queue.length) : postLasting f s =
    if s.stn = .configFault then { s with msg.lost := satInc s.msg.lost }
    else { s with fault := some ⟨.linkOverrun, half16 f.kind, s.stn⟩, msg.lost := satInc (satInc s.msg.lost) } := by
  rw [postLasting, room_eq_false hlen, if_neg (by simp)]

theorem satInc_satInc {n : Nat} (h : n ≤ 255) : satInc (satInc n) = min 255 (n + 2) := by
  rw [satInc_eq h, satInc_eq (Nat.min_le_left _ _)]
  omega

/-- A copy of a frame waits (R41). -/
theorem copyWaits_iff : m.copyWaits f = true ↔ ∃ e ∈ m.queue, e.flight = .waiting ∧ e.frame = f := by
  simp [Msg.copyWaits, QEntry.isWaiting]

theorem handAsk_of_copy {u : UnsentRef} (h : m.copyWaits f = true) : m.handAsk f u = m := if_pos h

theorem handAsk_of_room {u : UnsentRef} (h : m.copyWaits f = false) (hroom : m.room = true) :
    m.handAsk f u = { m with queue := m.queue ++ [⟨f, 0, .waiting⟩], unsent := m.unsent.filter fun x => decide (x ≠ u) } := by
  rw [Msg.handAsk, h, if_neg (by simp), if_pos hroom]
  rfl

theorem handAsk_of_full {u : UnsentRef} (h : m.copyWaits f = false) (hroom : m.room = false) : m.handAsk f u = m.markUnsent u := by
  rw [Msg.handAsk, h, if_neg (by simp), hroom, if_neg (by simp)]

theorem markUnsent_of_mem {u : UnsentRef} (h : u ∈ m.unsent) : m.markUnsent u = m := if_pos (List.contains_iff_mem.mpr h)

theorem markUnsent_of_notMem {u : UnsentRef} (h : u ∉ m.unsent) : m.markUnsent u = { m with unsent := m.unsent ++ [u] } :=
  if_neg (by rwa [List.contains_iff_mem])

theorem handInterim_of_room {a : AnswerMsg} (h : m.room = true) : m.handInterim a = m.place (.answer a) := if_pos h

theorem handInterim_of_full {a : AnswerMsg} (h : m.room = false) : m.handInterim a = m := if_neg (by rw [h]; simp)

/-! ## A freed entry (R42) -/

theorem refill_of_full (h : 12 ≤ m.queue.length) : m.refill = m := by
  rw [Msg.refill, room_eq_false h]
  rfl

/-- Settles O27: superseding, lasting, and requested frames, and the freed entry. -/
theorem noticesAreQueuedHeldOrLost : Obligations.NoticesAreQueuedHeldOrLost := by
  unfold Obligations.NoticesAreQueuedHeldOrLost
  refine ⟨fun m m' f hf hm => ?_, fun f s => ⟨fun hlen => ?_, fun hlen hstn hlost => ?_, fun hlen hstn hlost => ?_⟩,
    fun m f u => ⟨fun hcopy => handAsk_of_copy (copyWaits_iff.mpr hcopy), fun hno => ?_, fun a => ⟨fun hlen => ?_, fun hlen => ?_⟩⟩,
    fun m => ⟨refill_of_full, fun hlen => ⟨fun hp => ?_, fun c hp hc => ?_, fun r hp hc hr => ?_, fun hp hc hr =>
      ⟨fun hu => ?_, fun entry rest p hu hfind => ?_, fun requester id rest a hu hfind => ?_⟩⟩⟩⟩
  · subst hm
    obtain ⟨hrest, hheld⟩ := supersede_rules (m := m) hf
    refine ⟨hrest, fun hkind => ⟨?_, fun i e hget => ?_⟩, fun hkind hlen => ?_, hheld, fun hkind hlen => ?_⟩
    · rw [supersede_replaces hkind]
      exact List.length_map _
    · rw [supersede_entry hkind hget]
      refine ⟨fun hne => by rw [if_neg hne], fun heq hflight => ?_, fun p r heq hflight => ?_⟩
      · rw [if_pos heq, QEntry.replaceWith, hflight]
      · rw [if_pos heq, QEntry.replaceWith, hflight]
    · rw [supersede_places hkind hlen, clearHeld_eq m hf]
      rfl
    · rw [supersede_holds hkind hlen]
      refine ⟨by rw [hold_eq], ?_, ?_, ?_⟩
      · rintro rfl
        exact ⟨rfl, rfl, rfl⟩
      · rintro c rfl
        exact ⟨rfl, rfl, rfl⟩
      · rintro r rfl
        exact ⟨rfl, rfl, rfl⟩
  · rw [postLasting_room (room_of_lt hlen)]
    rfl
  · rw [postLasting_full hlen, if_neg hstn, satInc_satInc hlost]
  · rw [postLasting_full hlen, if_pos hstn, satInc_eq hlost]
  · have hcopy : m.copyWaits f = false := by
      rw [← Bool.not_eq_true, copyWaits_iff]
      rintro ⟨e, he, hwaits, hframe⟩
      exact hno e he hwaits hframe
    refine ⟨fun hlen => handAsk_of_room hcopy (room_of_lt hlen), fun hlen hu => ?_, fun hlen hu => ?_⟩
    · rw [handAsk_of_full hcopy (room_eq_false hlen), markUnsent_of_mem hu]
    · rw [handAsk_of_full hcopy (room_eq_false hlen), markUnsent_of_notMem hu]
  · rw [handInterim_of_room (room_of_lt hlen)]
    rfl
  · exact handInterim_of_full (room_eq_false hlen)
  · simp [Msg.refill, room_of_lt hlen, hp, Msg.place]
  · simp [Msg.refill, room_of_lt hlen, hp, hc, Msg.place]
  · simp [Msg.refill, room_of_lt hlen, hp, hc, hr, Msg.place]
  · simp [Msg.refill, room_of_lt hlen, hp, hc, hr, hu]
  · have hframe : m.unsentFrame (.request entry) = some p.frame := by rw [Msg.unsentFrame, hfind]; rfl
    simp [Msg.refill, room_of_lt hlen, hp, hc, hr, hu, hframe, Msg.place, PendingReq.frame]
  · have hframe : m.unsentFrame (.answer requester id) = some (.answer a.msg) := by rw [Msg.unsentFrame, hfind]; rfl
    simp [Msg.refill, room_of_lt hlen, hp, hc, hr, hu, hframe, Msg.place, Answered.msg]

end

end Sys2Proof.Machine
end

section
/-! PROOFS. O28, the examination of a REQUEST (R41, R45 to R48, R53). -/

namespace Sys2Proof.Machine

section
variable {s : State} {code : ReqCode} {sender : Station} {p : List Byte} {r : RequestIn} {serve : Byte → ReqBody → State → State}

/-! ## The steps of the examination (R45) -/

theorem receiveRequest_of_hears (hhears : ∃ l, s.hears 6 sender p l) (hparse : parseRequest code p = some r) :
    receiveRequest code sender p serve s = examine code sender r serve (dropLatch s) := by
  obtain ⟨l, hl⟩ := hhears
  rw [receiveRequest, receive_of_hears hl]
  simp only [hparse]

theorem examine_of_otherTarget (h : r.target ≠ stationByte s.conf.number) : examine code sender r serve s = s := if_pos h

theorem examine_of_answered {a : Answered} (htarget : r.target = stationByte s.conf.number)
    (h : s.msg.findAnswered sender r.id code = some a) :
    examine code sender r serve s = { s with msg := s.msg.handAsk (.answer a.msg) (.answer a.requester a.id) } := by
  simp only [examine, htarget, not_true, if_false, h, ne_eq]

theorem examine_of_delayed {d : Delayed} (htarget : r.target = stationByte s.conf.number)
    (hnone : s.msg.findAnswered sender r.id code = none) (h : s.msg.findDelayed sender r.id = some d) :
    examine code sender r serve s = answerDelayed d code s := by
  simp only [examine, htarget, not_true, if_false, hnone, h, ne_eq]

/-- A request new to the station (R45, steps 5 to 8). -/
theorem examine_of_new (htarget : r.target = stationByte s.conf.number) (hnone : s.msg.findAnswered sender r.id code = none)
    (h : s.msg.findDelayed sender r.id = none) : examine code sender r serve s =
      if s.role ≠ some code.role then answer sender r.id code (refused .wrongRole) s
      else if !s.allowed code sender then answer sender r.id code (refused .notAllowed) s
      else if code.delayable && s.msg.delays sender code then interim sender r.id code .busy s
      else serve r.id r.body s := by
  simp only [examine, htarget, not_true, if_false, hnone, h, ne_eq]

theorem allowed_iff : s.allowed code sender = true ↔ if code = .seamSlot then sender = s.neighbour else sender = consoleStation := by
  unfold State.allowed
  split <;> exact decide_eq_true_iff

/-- A delayed entry found is of the requester and id looked for. -/
theorem findDelayed_of {id : Byte} {d : Delayed} {m : Msg} (h : m.findDelayed sender id = some d) : d.requester = sender ∧ d.id = id := by
  have hfound := List.find?_some h
  simpa using hfound

theorem answerDelayed_pending {d : Delayed} (hcode : d.body.code = code) (h : d.result = none) :
    answerDelayed d code s = interim d.requester d.id code .wait s := by simp only [answerDelayed, hcode, h, if_true]

theorem answerDelayed_complete {d : Delayed} {f : Final} (hcode : d.body.code = code) (h : d.result = some f) :
    answerDelayed d code s = answer d.requester d.id code f { s with msg := s.msg.dropDelayed d.requester d.id } := by
  simp only [answerDelayed, hcode, h, if_true]

theorem answerDelayed_other {d : Delayed} (hcode : d.body.code ≠ code) : answerDelayed d code s = interim d.requester d.id code .busy s :=
  if_neg hcode

theorem interim_of_room {id : Byte} {b : AnswerBody} (h : s.msg.room = true) :
    interim sender id code b s = { s with msg := s.msg.place (.answer ⟨id, sender, code, b⟩) } := by
  rw [interim, handInterim_of_room h]

theorem interim_of_full {id : Byte} {b : AnswerBody} (h : s.msg.room = false) : interim sender id code b s = s := by
  rw [interim, handInterim_of_full h]

/-! ## O28 -/

/-- Each REQUEST command examines its request (R32, R45). -/
theorem exec_request {c : Instr} (h : (c = .panelOrder sender p ∧ code = .panelOrder) ∨ (c = .setpoint sender p ∧ code = .setpoint)
    ∨ (c = .rollLoad sender p ∧ code = .rollLoad) ∨ (c = .seamSlot sender p ∧ code = .seamSlot)
    ∨ (c = .orderCancel sender p ∧ code = .orderCancel) ∨ (c = .patternBlock sender p ∧ code = .patternBlock)
    ∨ (c = .patternCommit sender p ∧ code = .patternCommit) ∨ (c = .patternClear sender p ∧ code = .patternClear)) (s : State) :
    ∃ serve, exec c s = .next (receiveRequest code sender p serve s) := by
  rcases h with ⟨rfl, rfl⟩ | ⟨rfl, rfl⟩ | ⟨rfl, rfl⟩ | ⟨rfl, rfl⟩ | ⟨rfl, rfl⟩ | ⟨rfl, rfl⟩ | ⟨rfl, rfl⟩ | ⟨rfl, rfl⟩
  all_goals exact ⟨_, rfl⟩

theorem exec_delayableRequest {c : Instr} (h : (c = .seamSlot sender p ∧ code = .seamSlot) ∨ (c = .rollLoad sender p ∧ code = .rollLoad))
    (s : State) : ∃ serve, exec c s = .next (receiveRequest code sender p serve s) := by
  rcases h with ⟨rfl, rfl⟩ | ⟨rfl, rfl⟩
  all_goals exact ⟨_, rfl⟩

/-- Settles O28: the steps of the examination in turn. -/
theorem requestsAreExamined : Obligations.RequestsAreExamined := by
  unfold Obligations.RequestsAreExamined
  refine ⟨fun s c code sender p r hc hhears hparse => ⟨fun hother => ?_, fun htarget a hfound => ?_, fun htarget hnone hdelayed =>
    ⟨fun hrole => ?_, fun hrole hdenied => ?_⟩⟩, fun s c code sender p r d hc hasked hnone hdelayed hroom =>
    ⟨fun hcode hresult => ?_, fun hcode => ?_, fun f hcode hresult => ?_⟩,
    fun s c code sender p r d hc hasked hnone hdelayed hrole hneighbour hconsole hd hrequester hcode => ?_⟩
  · obtain ⟨serve, hexec⟩ := exec_request hc s
    rw [hexec, receiveRequest_of_hears hhears hparse, examine_of_otherTarget (s := dropLatch s) hother]
    rfl
  · obtain ⟨serve, hexec⟩ := exec_request hc s
    rw [hexec, receiveRequest_of_hears hhears hparse, examine_of_answered (s := dropLatch s) htarget hfound]
    exact ⟨_, rfl, rfl, handAsk_answersOnly _ _ _, handAsk_waits _ _ _⟩
  · obtain ⟨serve, hexec⟩ := exec_request hc s
    rw [hexec, receiveRequest_of_hears hhears hparse, examine_of_new (s := dropLatch s) htarget hnone hdelayed, if_pos (by exact hrole)]
    exact ⟨_, rfl, rfl, finish_answersOnly _ _, finish_gives _ _⟩
  · obtain ⟨serve, hexec⟩ := exec_request hc s
    have hallowed : (dropLatch s).allowed code sender = false := by
      rw [← Bool.not_eq_true, allowed_iff]
      rcases hdenied with ⟨hcode, hsender⟩ | ⟨hcode, hsender⟩
      · rw [if_neg hcode]
        exact hsender
      · rw [if_pos hcode]
        exact hsender
    rw [hexec, receiveRequest_of_hears hhears hparse, examine_of_new (s := dropLatch s) htarget hnone hdelayed,
      if_neg (not_not.mpr (by exact hrole)), hallowed, if_pos (by rfl)]
    exact ⟨_, rfl, rfl, finish_answersOnly _ _, finish_gives _ _⟩
  · obtain ⟨serve, hexec⟩ := exec_delayableRequest hc s
    obtain ⟨hhears, hparse, htarget⟩ := hasked
    obtain ⟨rfl, hid⟩ := findDelayed_of hdelayed
    rw [hexec, receiveRequest_of_hears hhears hparse, examine_of_delayed (s := dropLatch s) htarget hnone hdelayed,
      answerDelayed_pending hcode hresult, interim_of_room (by exact hroom), hid]
    rfl
  · obtain ⟨serve, hexec⟩ := exec_delayableRequest hc s
    obtain ⟨hhears, hparse, htarget⟩ := hasked
    obtain ⟨rfl, hid⟩ := findDelayed_of hdelayed
    rw [hexec, receiveRequest_of_hears hhears hparse, examine_of_delayed (s := dropLatch s) htarget hnone hdelayed,
      answerDelayed_other hcode, interim_of_room (by exact hroom), hid]
    rfl
  · obtain ⟨serve, hexec⟩ := exec_delayableRequest hc s
    obtain ⟨hhears, hparse, htarget⟩ := hasked
    obtain ⟨rfl, hid⟩ := findDelayed_of hdelayed
    rw [hexec, receiveRequest_of_hears hhears hparse, examine_of_delayed (s := dropLatch s) htarget hnone hdelayed,
      answerDelayed_complete hcode hresult, hid]
    have hanswers := (finish_answersOnly ((dropLatch s).msg.dropDelayed d.requester r.id) ⟨d.requester, r.id, code, f⟩).1
    exact ⟨_, rfl, rfl, finish_gives _ _, congrArg Msg.delayed hanswers⟩
  · obtain ⟨serve, hexec⟩ := exec_delayableRequest hc s
    obtain ⟨hhears, hparse, htarget⟩ := hasked
    have hallowed : (dropLatch s).allowed code sender = true := by
      rw [allowed_iff]
      rcases hc with ⟨-, rfl⟩ | ⟨-, rfl⟩
      · exact hneighbour rfl
      · exact hconsole rfl
    have hdelays : (code.delayable && (dropLatch s).msg.delays sender code) = true := by
      have hdelayable : code.delayable = true := by rcases hc with ⟨-, rfl⟩ | ⟨-, rfl⟩ <;> rfl
      rw [hdelayable, Bool.true_and]
      exact List.any_eq_true.mpr ⟨d, hd, by simp [hrequester, hcode]⟩
    rw [hexec, receiveRequest_of_hears hhears hparse, examine_of_new (s := dropLatch s) htarget hnone hdelayed,
      if_neg (not_not.mpr (by exact hrole)), hallowed, if_neg (by simp), if_pos hdelays]
    refine ⟨fun hroom => ?_, fun hfull => ?_⟩
    · rw [interim_of_room (by exact hroom)]
      rfl
    · rw [interim_of_full (by exact hfull)]
      rfl

end

end Sys2Proof.Machine
end

section
/-! PROOFS. O29 and O30, the pending requests and the delayed answers: an ANSWER taken (R51, R136), a repeat, a request given up (R50), an
answer no longer held (R55, R124). -/

namespace Sys2Proof.Machine

section
variable {s t : State} {m m' : Msg}

/-! ## A pending entry that is freed (R50, R51) -/

/-- From `m` to `m'` waiting frames have been withdrawn and held ones given their entries. -/
structure Msg.Withdraws (m m' : Msg) : Prop where
  pendings : m'.pendings = m.pendings
  unsent : ∀ u ∈ m'.unsent, u ∈ m.unsent
  length : m'.queue.length ≤ m.queue.length

theorem Msg.Withdraws.trans {m'' : Msg} (h : m.Withdraws m') (h' : m'.Withdraws m'') : m.Withdraws m'' :=
  ⟨h'.pendings.trans h.pendings, fun u hu => h.unsent u (h'.unsent u hu), h'.length.trans h.length⟩

theorem refill_unsent (m : Msg) : m.refill.unsent = m.unsent ∨ m.refill.unsent = m.unsent.tail := by
  unfold Msg.refill
  repeat' split
  all_goals simp_all [Msg.place]

theorem refill_length_le (m : Msg) : m.refill.queue.length ≤ m.queue.length + 1 := by
  unfold Msg.refill
  repeat' split
  all_goals simp [Msg.place]

theorem free_withdraws {i : Nat} (h : i < m.queue.length) : m.Withdraws (m.free i) := by
  set x : Msg := { m with
    queue := m.queue.eraseIdx i, passCount := if m.oldestAsk i || (m.queue.eraseIdx i).isEmpty then 0 else m.passCount } with hx
  have hfree : m.free i = x.refill := rfl
  have hlength : (m.queue.eraseIdx i).length + 1 = m.queue.length := by
    rw [List.length_eraseIdx_of_lt h]
    omega
  rw [hfree]
  refine ⟨(refill_keepsTables x).pendings, fun u hu => ?_, (refill_length_le x).trans_eq hlength⟩
  rcases refill_unsent x with hsame | htail
  · rwa [hsame] at hu
  · rw [htail] at hu
    exact List.mem_of_mem_tail hu

theorem withdrawUpTo_withdraws (f : Frame) (n : Nat) (m : Msg) : m.Withdraws (m.withdrawUpTo f n) := by
  induction n generalizing m with
  | zero => exact ⟨rfl, fun _ h => h, le_rfl⟩
  | succ n ih =>
    unfold Msg.withdrawUpTo
    split
    · next i hi =>
      obtain ⟨hlt, -⟩ := List.findIdx?_eq_some_iff_getElem.mp hi
      exact (free_withdraws hlt).trans (ih _)
    · exact ⟨rfl, fun _ h => h, le_rfl⟩

theorem closeRequest_spec (m : Msg) (p : PendingReq) : (m.closeRequest p).pendings = m.pendings.filter (fun q => q.entry != p.entry)
    ∧ UnsentRef.request p.entry ∉ (m.closeRequest p).unsent ∧ (m.closeRequest p).queue.length ≤ m.queue.length := by
  set x : Msg := Msg.unmark { m with pendings := m.pendings.filter fun q => q.entry != p.entry } (.request p.entry) with hx
  have hclose : m.closeRequest p = x.withdrawUpTo p.frame x.queue.length := rfl
  obtain ⟨hpendings, hunsent, hlength⟩ := withdrawUpTo_withdraws p.frame x.queue.length x
  rw [hclose]
  refine ⟨hpendings, fun hmem => ?_, hlength⟩
  have hfiltered : UnsentRef.request p.entry ∈ m.unsent.filter fun u => decide (u ≠ .request p.entry) := hunsent _ hmem
  simp at hfiltered

/-! ## A seam slot's outcome (R136) -/

/-- The splice state as it is set: a splice that is no longer REQUESTING has nothing outstanding. -/
theorem setSplice_sup (x : SpliceState) (s : State) : (setSplice x s).sup = { s.sup with
    splice := x, outstanding := if x = .requesting then s.sup.outstanding else none, rollTimer := (setSplice x s).sup.rollTimer } := by
  have hview : { (setSplice x s).sup with rollTimer := none } = { s.sup with
      splice := x, outstanding := if x = SpliceState.requesting then s.sup.outstanding else none, rollTimer := none } :=
    congrArg (fun u : State => u.sup) (setSplice_sansNotices x s)
  calc (setSplice x s).sup = { ({ (setSplice x s).sup with rollTimer := none } : Supply) with
        rollTimer := (setSplice x s).sup.rollTimer } := rfl
    _ = _ := by rw [hview]

theorem setSplice_pendings (x : SpliceState) (s : State) : (setSplice x s).msg.pendings = s.msg.pendings :=
  (setSplice_hands .refl).tables.1

theorem judgeSlot_pendings (v : Word) (s : State) : (judgeSlot v s).msg.pendings = s.msg.pendings := by
  simp only [judgeSlot]
  split_ifs
  · rfl
  · exact setSplice_pendings _ _
  · rw [setSplice_pendings, setSplice_pendings]

theorem slotOutcome_pendings (entry : Nat) (o : Outcome) (s : State) : (slotOutcome entry o s).msg.pendings = s.msg.pendings := by
  unfold slotOutcome
  split
  · cases o with
    | done v => exact judgeSlot_pendings v s
    | refused r => exact setSplice_pendings _ _
    | undelivered => rfl
  · rfl

theorem slotOutcome_of_other {entry : Nat} {o : Outcome} (h : ¬(s.sup.splice = .requesting ∧ s.sup.outstanding = some entry)) :
    slotOutcome entry o s = s := if_neg h

theorem slotOutcome_done {entry : Nat} {v : Word} (hsplice : s.sup.splice = .requesting) (hentry : s.sup.outstanding = some entry) :
    slotOutcome entry (.done v) s = judgeSlot v s := if_pos ⟨hsplice, hentry⟩

theorem slotOutcome_refused {entry : Nat} {r : Byte} (hsplice : s.sup.splice = .requesting) (hentry : s.sup.outstanding = some entry) :
    slotOutcome entry (.refused r) s = setSplice .noSlot s := if_pos ⟨hsplice, hentry⟩

theorem slotOutcome_undelivered {entry : Nat} (hsplice : s.sup.splice = .requesting) (hentry : s.sup.outstanding = some entry) :
    slotOutcome entry .undelivered s = { s with sup.outstanding := none } := if_pos ⟨hsplice, hentry⟩

theorem finalAnswer_pendings (p : PendingReq) (o : Outcome) (s : State) :
    (finalAnswer p o s).msg.pendings = s.msg.pendings.filter fun x => x.entry != p.entry :=
  (slotOutcome_pendings _ _ _).trans (closeRequest_spec s.msg p).1

/-! ## O29: an ANSWER (R51) -/

section
variable {code : Byte} {sender : Station} {p : List Byte} {l : Latch} {a : AnswerIn} {act : PendingReq → AnswerIn → State → State}

/-- An ANSWER for another requester, of another code or without a pending entry is discarded (R51). -/
theorem receiveAnswer_discards (hhears : s.hears 7 sender p l) (hparse : parseAnswer p = some a)
    (h : a.requester ≠ stationByte s.conf.number ∨ s.msg.findPending a.id sender = none) :
    receiveAnswer code sender p act s = dropLatch s := by
  rw [receiveAnswer, receive_of_hears hhears]
  simp only [hparse]
  split
  · next hmine =>
    obtain hother | hnone := h
    · exact absurd hmine.2 hother
    · have hnone' : (dropLatch s).msg.findPending a.id sender = none := hnone
      rw [hnone']
  · rfl

theorem receiveAnswer_acts {q : PendingReq} (hhears : s.hears 7 sender p l) (hparse : parseAnswer p = some a)
    (hcode : a.code = code) (hmine : a.requester = stationByte s.conf.number) (hfind : s.msg.findPending a.id sender = some q) :
    receiveAnswer code sender p act s = act q a (dropLatch s) := by
  have hfind' : (dropLatch s).msg.findPending a.id sender = some q := hfind
  have hmine' : a.requester = stationByte (dropLatch s).conf.number := hmine
  rw [receiveAnswer, receive_of_hears hhears]
  simp only [hparse, hcode, ← hmine', hfind', and_self, if_true]

end

theorem exec_answerWait (sender : Station) (p : List Byte) (s : State) : exec (.answerWait sender p) s = .next
    (receiveAnswer 2 sender p (fun q _ t => { t with msg := t.msg.onPending q.entry fun x => { x with attempts := 1 } }) s) := rfl

theorem exec_answerBusy (sender : Station) (p : List Byte) (s : State) : exec (.answerBusy sender p) s = .next
    (receiveAnswer 3 sender p (fun _ _ t => t) s) := rfl

theorem exec_answerDone (sender : Station) (p : List Byte) (s : State) : exec (.answerDone sender p) s = .next
    (receiveAnswer 1 sender p (fun q a t => finalAnswer q (.done a.value) t) s) := rfl

theorem exec_answerRefused (sender : Station) (p : List Byte) (s : State) : exec (.answerRefused sender p) s = .next
    (receiveAnswer 4 sender p (fun q a t => finalAnswer q (.refused a.reason) t) s) := rfl

/-- BUSY changes nothing, with an entry or without (R51). -/
theorem receiveAnswer_busy {code : Byte} {sender : Station} {p : List Byte} {l : Latch} {a : AnswerIn} (hhears : s.hears 7 sender p l)
    (hparse : parseAnswer p = some a) : receiveAnswer code sender p (fun _ _ t => t) s = dropLatch s := by
  rw [receiveAnswer, receive_of_hears hhears]
  simp only [hparse]
  split_ifs
  · split <;> rfl
  · rfl

/-- The splice after a DONE for its outstanding SEAM SLOT (R136). -/
theorem judgeSlot_rules (v : Word) (s : State) :
    (sdiff v s.arrival < s.conf.minSpliceLead → (judgeSlot v s).sup = { s.sup with outstanding := none })
    ∧ ((s.conf.minSpliceLead : Int) ≤ sdiff v s.arrival → (s.sup.runningRemaining : Int) - s.conf.runoutReserve < sdiff v s.arrival →
        (judgeSlot v s).sup.splice = .noSlot ∧ (judgeSlot v s).sup.outstanding = none ∧ (judgeSlot v s).sup.fpos = s.sup.fpos)
    ∧ ((s.conf.minSpliceLead : Int) ≤ sdiff v s.arrival → sdiff v s.arrival ≤ (s.sup.runningRemaining : Int) - s.conf.runoutReserve →
        (judgeSlot v s).sup.splice = .filling ∧ (judgeSlot v s).sup.fpos = some v ∧ (judgeSlot v s).sup.outstanding = none) := by
  refine ⟨fun hclose => ?_, fun hlead hfar => ?_, fun hlead hnear => ?_⟩
  · have hjudge : judgeSlot v s = { s with sup.outstanding := none } := if_pos hclose
    rw [hjudge]
  · have hjudge : judgeSlot v s = setSplice .noSlot s := (if_neg (Int.not_lt.mpr hlead)).trans (if_pos hfar)
    rw [hjudge, setSplice_sup]
    exact ⟨rfl, rfl, rfl⟩
  · have hjudge : judgeSlot v s = setSplice .filling (setSplice .slotted { s with sup.fpos := some v }) :=
      (if_neg (Int.not_lt.mpr hlead)).trans (if_neg (Int.not_lt.mpr hnear))
    rw [hjudge, setSplice_sup, setSplice_sup]
    exact ⟨rfl, rfl, rfl⟩

/-- Settles O29: an ANSWER for another station, one without an entry, and the final ones. -/
theorem answersAreTaken : Obligations.AnswersAreTaken := by
  unfold Obligations.AnswersAreTaken
  refine ⟨fun s sender p l a hhears hparse hother c hc => ?_, fun s sender p l a hhears hparse hmine =>
    ⟨fun q hcode hfind => ?_, fun _ => ?_, fun hnone => ⟨?_, ?_, ?_⟩, rfl⟩, fun s sender p l a q hhears hparse hmine hfind =>
    ⟨fun hcode => ?_, fun hcode => ?_⟩⟩
  · rcases hc with rfl | rfl | rfl | rfl
    · rw [exec_answerWait, receiveAnswer_discards hhears hparse (.inl hother)]
      rfl
    · rw [exec_answerBusy, receiveAnswer_discards hhears hparse (.inl hother)]
      rfl
    · rw [exec_answerDone, receiveAnswer_discards hhears hparse (.inl hother)]
      rfl
    · rw [exec_answerRefused, receiveAnswer_discards hhears hparse (.inl hother)]
      rfl
  · rw [exec_answerWait, receiveAnswer_acts hhears hparse hcode hmine hfind]
    rfl
  · rw [exec_answerBusy, receiveAnswer_busy hhears hparse]
    rfl
  · rw [exec_answerDone, receiveAnswer_discards hhears hparse (.inr hnone)]
    rfl
  · rw [exec_answerWait, receiveAnswer_discards hhears hparse (.inr hnone)]
    rfl
  · rw [exec_answerRefused, receiveAnswer_discards hhears hparse (.inr hnone)]
    rfl
  · set u : State := { dropLatch s with msg := s.msg.closeRequest q } with hu
    rw [exec_answerDone, receiveAnswer_acts hhears hparse hcode hmine hfind]
    refine ⟨_, rfl, finalAnswer_pendings _ _ _, fun hother => ?_, fun hsplice hentry => ?_⟩
    · exact (congrArg State.sup (slotOutcome_of_other (s := u) hother) :)
    · have houtcome : finalAnswer q (.done a.value) (dropLatch s) = judgeSlot a.value u :=
        slotOutcome_done (s := u) hsplice hentry
      rw [houtcome]
      exact judgeSlot_rules a.value u
  · set u : State := { dropLatch s with msg := s.msg.closeRequest q } with hu
    rw [exec_answerRefused, receiveAnswer_acts hhears hparse hcode hmine hfind]
    refine ⟨_, rfl, finalAnswer_pendings _ _ _, fun hother => ?_, fun hsplice hentry => ?_⟩
    · exact (congrArg State.sup (slotOutcome_of_other (s := u) hother) :)
    · have houtcome : finalAnswer q (.refused a.reason) (dropLatch s) = setSplice .noSlot u :=
        slotOutcome_refused (s := u) (r := a.reason) hsplice hentry
      rw [houtcome, setSplice_sup]
      exact ⟨rfl, rfl⟩

/-! ## O30: repeats, and answers no longer held (R50, R55, R124) -/

/-- No watch is due: each target lies ahead (R57, R62). -/
theorem nextDue_eq_none_iff : nextDue s = none ↔ ∀ w ∈ s.pos.watches, w.past s < 0 := by
  unfold nextDue
  split
  · next h =>
    rw [List.filter_eq_nil_iff] at h
    exact ⟨fun _ w hw => Int.not_le.mp fun hle => h w hw (decide_eq_true hle), fun _ => rfl⟩
  · next w ws h =>
    have hmem : w ∈ s.pos.watches.filter fun w => decide (0 ≤ w.past s) := h ▸ List.mem_cons_self
    obtain ⟨hw, hdue⟩ := List.mem_filter.mp hmem
    exact ⟨(fun h => nomatch h), fun hall => absurd (hall w hw) (Int.not_lt.mpr (of_decide_eq_true hdue))⟩

theorem nextDue_dropEvent {e : WatchEvent} (h : nextDue s = none) : nextDue (dropEvent e s) = none := by
  rw [nextDue_eq_none_iff] at h ⊢
  exact fun w hw => h w (List.mem_of_mem_filter hw)

theorem commitRule_of_idle (hnext : s.lay.next = none) (hpending : s.msg.pendingSlot = none) (hqueued : s.lay.queued = []) :
    commitRule s = s := by
  unfold commitRule
  simp only [hnext, hpending, hqueued]

theorem pendingSlot_of_nil (h : m.delayed = []) : m.pendingSlot = none := by
  rw [Msg.pendingSlot, h]
  rfl

theorem reformOwn_delayed_nil (h : s.msg.delayed = []) : (reformOwn s).msg.delayed = [] := by
  obtain ⟨-, -, hkeys, -⟩ := (reformOwn_hands (s := s) .refl).tables
  rw [h] at hkeys
  exact List.map_eq_nil_iff.mp hkeys

theorem exec_repeatTimerExpiry {entry : Nat} {q : PendingReq}
    (h : s.msg.pendings.find? (fun x => x.entry == entry && x.timer.isSome) = some q) : exec (.repeatTimerExpiry entry) s = .next
      (if q.attempts < s.conf.attemptLimit then repeatRequest q s else giveUp q s) := by
  have harm : exec (.repeatTimerExpiry entry) s = execRepeatTimerExpiry entry s := rfl
  rw [harm, execRepeatTimerExpiry]
  simp only [h]

theorem exec_holdTimerExpiry {requester : Station} {id : Byte} {d : Delayed} (h : s.msg.findDelayed requester id = some d)
    (hhold : d.hold.isSome = true) : exec (.holdTimerExpiry requester id) s = .next
      (if d.body.code = .seamSlot then settle (withdrawSlot requester id { s with msg := s.msg.dropDelayed requester id })
      else { s with msg := s.msg.dropDelayed requester id }) := by
  have harm : exec (.holdTimerExpiry requester id) s = execHoldTimerExpiry requester id s := rfl
  rw [harm, execHoldTimerExpiry]
  simp only [h, hhold, if_true]

theorem postLasting_tables (f : Frame) (s : State) :
    (postLasting f s).msg.pendings = s.msg.pendings ∧ (postLasting f s).msg.unsent = s.msg.unsent := by
  unfold postLasting
  split_ifs <;> exact ⟨rfl, rfl⟩

theorem recordFault_tables (c : FaultCode) (d : Nat) (s : State) :
    (recordFault c d s).msg.pendings = s.msg.pendings ∧ (recordFault c d s).msg.unsent = s.msg.unsent := by
  unfold recordFault
  split
  · exact postLasting_tables _ _
  · exact ⟨rfl, rfl⟩

/-- What a request given up does to its owner and the fault record (R50, R136). -/
theorem giveUp_rules (q : PendingReq) (s : State) :
    (giveUp q s).msg.pendings = s.msg.pendings.filter (fun x => x.entry != q.entry)
      ∧ UnsentRef.request q.entry ∉ (giveUp q s).msg.unsent
      ∧ (s.sup.splice = .requesting → s.sup.outstanding = some q.entry → (giveUp q s).sup = { s.sup with outstanding := none })
      ∧ (s.live = true → s.msg.queue.length < 12 →
          (giveUp q s).fault = some ⟨.requestUndelivered, half16 (q.target.toNat * 256 + q.id.toNat), s.stn⟩) := by
  obtain ⟨hpendings, hunsent, hlength⟩ := closeRequest_spec s.msg q
  set u : State := { s with msg := s.msg.closeRequest q } with hu
  set v := slotOutcome q.entry .undelivered u with hv
  have hgiveUp : giveUp q s = recordFault .requestUndelivered (q.target.toNat * 256 + q.id.toNat) v := rfl
  have hvmsg : v.msg = u.msg := by
    rw [hv, slotOutcome]
    split <;> rfl
  have hvstn : v.stn = s.stn := by
    rw [hv, slotOutcome]
    split <;> rfl
  have hkept : (giveUp q s).msg.pendings = v.msg.pendings ∧ (giveUp q s).msg.unsent = v.msg.unsent := by
    rw [hgiveUp]
    exact recordFault_tables _ _ v
  rw [hkept.1, hkept.2, hvmsg]
  refine ⟨hpendings, hunsent, fun hsplice hentry => ?_, fun hlive hlen => ?_⟩
  · rw [hgiveUp, recordFault_sup, hv, slotOutcome_undelivered (s := u) hsplice hentry]
  · have hroom : v.msg.room = true := room_of_lt (by rw [hvmsg]; exact hlength.trans_lt hlen)
    rw [hgiveUp, recordFault_room hroom (by rw [State.live, hvstn]; exact hlive), hvstn]

/-- Settles O30: a repeat below the attempt limit, the request given up at it, and the hold timer. -/
theorem requestsAndAnswersExpire : Obligations.RequestsAndAnswersExpire := by
  unfold Obligations.RequestsAndAnswersExpire
  refine ⟨fun s entry q hfind => ?_, fun s requester id d hfound hhold hquiet => ⟨fun hcode => ?_, fun hcode hother => ?_,
    fun len g used start hcode hnext hg hnil hqueued => ?_⟩⟩
  · obtain rfl : q.entry = entry := by
      have hmatch := List.find?_some hfind
      simp only [Bool.and_eq_true, beq_iff_eq] at hmatch
      exact hmatch.1
    rw [exec_repeatTimerExpiry hfind]
    refine ⟨fun hbelow => ?_, fun hlimit => ?_⟩
    · rw [if_pos hbelow]
      set m := s.msg.onPending q.entry (PendingReq.repeated s.conf.repeatInterval) with hm
      have hkept := (handAsk_answersOnly m q.frame (.request q.entry)).1
      refine ⟨_, rfl, rfl, (congrArg Msg.nextId hkept :), (congrArg Msg.pendings hkept :), fun hcopy => ?_, fun hcopy hroom => ?_,
        fun hcopy hfull => ?_⟩
      · exact (congrArg Msg.queue (handAsk_of_copy (m := m) hcopy) :)
      · exact (congrArg Msg.queue (handAsk_of_room (m := m) hcopy hroom) :)
      · have hmarked : m.handAsk q.frame (.request q.entry) = m.markUnsent (.request q.entry) := handAsk_of_full (m := m) hcopy hfull
        refine ⟨?_, ?_⟩
        · show (m.handAsk q.frame (.request q.entry)).queue = _
          rw [hmarked, Msg.markUnsent]
          split <;> rfl
        · show _ ∈ (m.handAsk q.frame (.request q.entry)).unsent
          rw [hmarked]
          exact markUnsent_mem m _
    · rw [if_neg (Nat.not_lt.mpr hlimit)]
      exact ⟨_, rfl, giveUp_rules q s⟩
  · rw [exec_holdTimerExpiry hfound hhold, if_neg hcode]
    rfl
  · have hkept : withdrawSlot requester id { s with msg := s.msg.dropDelayed requester id }
        = { s with msg := s.msg.dropDelayed requester id } := by
      unfold withdrawSlot
      split
      · next n hn => rw [if_neg (by rw [hother n hn]; simp)]
      · rfl
    have hdue : nextDue { s with msg := s.msg.dropDelayed requester id } = none := by
      rw [← hquiet]
      exact nextDue_of_pos rfl
    rw [exec_holdTimerExpiry hfound hhold, if_pos hcode, hkept, settle_none hdue]
    rfl
  · subst hg
    set u : State := dropEvent .itemStart { s with lay.next := none, msg := s.msg.dropDelayed requester id } with hu
    have hnodelay : (reformOwn u).msg.delayed = [] := reformOwn_delayed_nil (s := u) hnil
    have hrule : commitRule (reformOwn u) = reformOwn u :=
      commitRule_of_idle (by rw [reformOwn_lay]; rfl) (pendingSlot_of_nil hnodelay) (by rw [reformOwn_lay]; exact hqueued)
    have hplanned : (⟨.gap ⟨.planned requester id, len, used⟩, start⟩ : NextItem).isPlanned requester id = true := by
      simp [NextItem.isPlanned]
    have hwithdrawn : withdrawSlot requester id { s with msg := s.msg.dropDelayed requester id } = reformOwn u := by
      rw [← hrule, withdrawSlot]
      simp only [hnext, hplanned, if_true]
      rfl
    have hpos : (reformOwn u).pos = u.pos := by rw [reformOwn_eq]
    have hsettled : settle (reformOwn u) = reformOwn u := by
      refine settle_none ((nextDue_of_pos hpos).trans (nextDue_dropEvent ?_))
      rw [← hquiet]
      exact nextDue_of_pos rfl
    rw [exec_holdTimerExpiry hfound hhold, if_pos hcode, hwithdrawn, hsettled]
    refine ⟨_, rfl, hnodelay, by rw [reformOwn_lay]; rfl, by rw [reformOwn_lay]; rfl, fun w hw => ?_⟩
    rw [hpos] at hw
    exact of_decide_eq_true (List.mem_filter.mp hw).2

end

end Sys2Proof.Machine
end

section
/-! PROOFS. O31, encoder edges: counts (R58, R59), the choice among due watches (R62, log 12), the POSITION cadence (R70), metering and ROLL
RUNOUT (R129). -/

namespace Sys2Proof.Machine

section
variable {s t u : State}

/-! ## Counts (R58, R59) -/

theorem count_a (c : Channel) (scale : Nat) : c.count .a scale =
    { c with a := !c.a, fine := if c.a = c.b then c.fine + BitVec.ofNat 42 scale else c.fine - BitVec.ofNat 42 scale } := by
  by_cases h : c.a = c.b <;> simp [Channel.count, Channel.toggle, Channel.forward, h]

theorem count_b (c : Channel) (scale : Nat) : c.count .b scale =
    { c with b := !c.b, fine := if c.a = c.b then c.fine - BitVec.ofNat 42 scale else c.fine + BitVec.ofNat 42 scale } := by
  by_cases h : c.a = c.b <;> simp [Channel.count, Channel.toggle, Channel.forward, h]

/-- A count and the one back restore the channel (R58). -/
theorem count_count (c : Channel) (line : EncLine) (scale : Nat) : (c.count line scale).count line scale = c := by
  obtain ⟨fine, a, b⟩ := c
  cases line with
  | a =>
    rw [count_a, count_a]
    by_cases h : a = b <;> simp [h]
  | b =>
    rw [count_b, count_b]
    by_cases h : a = b <;> simp [h]

/-! ## The watch that fires next (R62) -/

theorem firstOf_past (s : State) (v w : Watch) : v.past s ≤ (firstOf s v w).past s ∧ w.past s ≤ (firstOf s v w).past s
    ∧ (firstOf s v w = v ∨ firstOf s v w = w) := by
  unfold firstOf
  split
  · next h => exact ⟨by omega, le_rfl, .inr rfl⟩
  · next h => exact ⟨le_rfl, by omega, .inl rfl⟩

theorem foldl_firstOf (s : State) (ws : List Watch) (w : Watch) : ws.foldl (firstOf s) w ∈ w :: ws
    ∧ ∀ v ∈ w :: ws, v.past s ≤ (ws.foldl (firstOf s) w).past s := by
  induction ws generalizing w with
  | nil => simp
  | cons x ws ih =>
    obtain ⟨hw, hx, hone⟩ := firstOf_past s w x
    obtain ⟨hmem, hmost⟩ := ih (firstOf s w x)
    rw [List.foldl_cons]
    refine ⟨?_, fun v hv => ?_⟩
    · rcases List.mem_cons.mp hmem with heq | hrest
      · rcases hone with h | h <;> rw [heq, h] <;> simp
      · exact List.mem_cons_of_mem _ (List.mem_cons_of_mem _ hrest)
    · have hfirst := hmost _ List.mem_cons_self
      rcases List.mem_cons.mp hv with rfl | hv
      · exact hw.trans hfirst
      · rcases List.mem_cons.mp hv with rfl | hv
        · exact hx.trans hfirst
        · exact hmost v (List.mem_cons_of_mem _ hv)

/-- The watch that fires is one that is due, and none is further past its target (R62, log 12). -/
theorem nextDue_eq_some {w : Watch} (h : nextDue s = some w) :
    w ∈ s.pos.watches ∧ 0 ≤ w.past s ∧ ∀ v ∈ s.pos.watches, v.past s ≤ w.past s := by
  unfold nextDue at h
  split at h
  · exact nomatch h
  · next x ws hdue =>
    obtain rfl := Option.some.inj h
    obtain ⟨hmem, hmost⟩ := foldl_firstOf s ws x
    rw [← hdue] at hmem hmost
    obtain ⟨hw, hpast⟩ := List.mem_filter.mp hmem
    refine ⟨hw, of_decide_eq_true hpast, fun v hv => ?_⟩
    by_cases hpast' : 0 ≤ v.past s
    · exact hmost v (List.mem_filter.mpr ⟨hv, decide_eq_true hpast'⟩)
    · have := of_decide_eq_true hpast
      omega

/-! ## A position that has changed (R59, R62, R70) -/

theorem exec_encoderCount {ch : EncChannel} {line : EncLine} {n : Nat} (huses : s.usesChannel ch = true) (hn : s.conf.deglitch ≤ n) :
    exec (.encoderCount ch line n) s = .next (if (takeCount ch line s).luOf ch = s.luOf ch then takeCount ch line s
      else positionChanged s.refPos ch (sdiff ((takeCount ch line s).luOf ch) (s.luOf ch)) (takeCount ch line s)) := by
  have harm : exec (.encoderCount ch line n) s = execEncoderCount ch line n s := rfl
  rw [harm, execEncoderCount, if_pos ⟨huses, hn⟩]

theorem onArm_sup (n : ArmName) (f : Arm → Arm) (s : State) : onArm n f s = { s with sup := (onArm n f s).sup } := by
  cases n <;> rfl

/-- Metering leaves the channels as they are. -/
theorem meter_channels (d : Int) (s : State) : (meter d s).pos.ch0 = s.pos.ch0 ∧ (meter d s).pos.ch1 = s.pos.ch1 := by
  unfold meter
  split
  · exact ⟨rfl, rfl⟩
  · next n _ =>
    have hpos : (onArm n (fun a => a.meter d) s).pos = s.pos := by rw [onArm_sup]
    rw [← hpos]
    simp only
    split
    · have hkept := localCause_sansHalt .rollRunout (s.sup.arm n).rollId true (onArm n (fun a => a.meter d) s)
      exact ⟨(congrArg (fun v : State => v.pos.ch0) hkept :), (congrArg (fun v : State => v.pos.ch1) hkept :)⟩
    · exact ⟨rfl, rfl⟩

theorem positionChanged_channels (old : Word) (ch : EncChannel) (d : Int) (s : State) :
    (positionChanged old ch d s).pos.ch0 = s.pos.ch0 ∧ (positionChanged old ch d s).pos.ch1 = s.pos.ch1 := by
  have hkept : ∀ v : State, (cadence old (settle v)).pos.ch0 = v.pos.ch0 ∧ (cadence old (settle v)).pos.ch1 = v.pos.ch1 := fun v => by
    have hview : (cadence old (settle v)).sansHalt = v.sansHalt := by rw [cadence_sansHalt, settle_sansHalt]
    exact ⟨(congrArg (fun v : State => v.pos.ch0) hview :), (congrArg (fun v : State => v.pos.ch1) hview :)⟩
  unfold positionChanged
  rw [(hkept _).1, (hkept _).2]
  split
  · exact meter_channels d s
  · exact ⟨rfl, rfl⟩

/-- An edge's count stands in the channels (R59). -/
theorem encoderCount_channels {ch : EncChannel} {line : EncLine} {n : Nat} (huses : s.usesChannel ch = true) (hn : s.conf.deglitch ≤ n) :
    ∃ t, exec (.encoderCount ch line n) s = .next t ∧ t.pos.ch0 = (takeCount ch line s).pos.ch0
      ∧ t.pos.ch1 = (takeCount ch line s).pos.ch1 := by
  rw [exec_encoderCount huses hn]
  refine ⟨_, rfl, ?_⟩
  split
  · exact ⟨rfl, rfl⟩
  · exact positionChanged_channels _ _ _ _

/-- The notice of a changed cadence bit (R70). -/
theorem cadence_of_live {old : Word} (h : s.live = true) : cadence old s =
    if old.getLsbD s.conf.cadenceBit = s.refPos.getLsbD s.conf.cadenceBit then s
    else { s with pos.keepAlive := some 100, msg := s.msg.supersede .position } := by
  unfold cadence
  rw [handPosition_of_live h]

/-! ## Metering (R129) -/

theorem sdiff_eq_zero_iff {a b : Word} : sdiff a b = 0 ↔ a = b := by
  refine ⟨fun h => ?_, fun h => ?_⟩
  · have hzero : a - b = 0 := BitVec.eq_of_toInt_eq (h.trans rfl)
    bv_omega
  · rw [h, sdiff, BitVec.sub_self]
    rfl

theorem running_eq {v : Supply} {arm : ArmName} (h : (v.arm arm).state = .running) (hother : (v.arm (otherOf arm)).state ≠ .running) :
    v.running = some arm := by
  cases arm with
  | a => exact if_pos h
  | b => exact (if_neg hother).trans (if_pos h)

theorem arm_of_sansHalt (h : t.sansHalt = s.sansHalt) (n : ArmName) : t.sup.arm n = s.sup.arm n := by
  cases n
  · exact (congrArg (fun v : State => v.sup.armA) h :)
  · exact (congrArg (fun v : State => v.sup.armB) h :)

theorem refPos_of_supply (h : s.role = some .supply) : s.refPos = s.pos.ch0.lu := by simp only [State.refPos, h]

/-- Where the entry to HALTED makes no watch due, none is due after it. -/
theorem nextDue_enterHalted (h : nextDue (haltRole s) = none) : nextDue (enterHalted s) = none := by
  obtain ⟨-, -, -, -, -, -, -, hpos⟩ := atHalt_fields s
  obtain ⟨k, hkeep⟩ : ∃ k, (atHalt s).pos = { (haltRole s).pos with keepAlive := k } := ⟨_, hpos⟩
  have hatHalt : nextDue (atHalt s) = none := by
    rw [← h]
    exact nextDue_congr (by rw [hkeep]) fun n => by cases n <;> simp only [State.posOf, State.mapPos, hkeep]
  rw [enterHalted_eq, settle_none hatHalt]
  unfold cadence
  split
  · exact hatHalt
  · rw [nextDue_handPosition, hatHalt]

theorem nextDue_localCause {c : FaultCode} {d : Nat} {latched : Bool} (hrole : s.role = some .supply) (h : nextDue s = none) :
    nextDue (localCause c d latched s) = none := by
  cases hlive : s.live with
  | false => simp [localCause, hlive, h]
  | true =>
    by_cases hstn : s.stn = .halted
    · have hcause : localCause c d latched s = recordFault c d (if latched then { s with ctl.entryClear := s.ctl.lastClear } else s) := by
        simp [localCause, hlive, hstn]
      rw [hcause, ← h]
      refine nextDue_of_pos ?_
      rw [recordFault_pos]
      split <;> rfl
    · have hquiet : nextDue (haltRole { s with fault := some ⟨c, half16 d, s.stn⟩ }) = none := by
        rw [haltRole_of_supply (by exact hrole), ← h]
        exact nextDue_of_pos rfl
      rw [localCause_halts hlive hstn]
      have hpos : (postLasting (.fault ⟨c, half16 d, s.stn⟩)
          (sendPattern (enterHalted { s with fault := some ⟨c, half16 d, s.stn⟩ }))).pos
            = (enterHalted { s with fault := some ⟨c, half16 d, s.stn⟩ }).pos := by
        rw [postLasting_pos, sendPattern_pos]
      rw [nextDue_of_pos hpos, nextDue_enterHalted hquiet]

/-- A latched cause sets the entry clear count in HALTED too, and elsewhere sends the pattern (R14). -/
theorem localCause_latched {c : FaultCode} {d : Nat} (hlive : s.live = true) : (localCause c d true s).stn = .halted
    ∧ (localCause c d true s).ctl.entryClear = s.ctl.lastClear
    ∧ (s.stn ≠ .halted → (localCause c d true s).link.tx = .sendingStop) := by
  refine ⟨by rw [localCause_stn, if_pos hlive], ?_, fun hne => ?_⟩
  · by_cases hstn : s.stn = .halted
    · have hcause : localCause c d true s = recordFault c d { s with ctl.entryClear := s.ctl.lastClear } := by
        simp [localCause, hlive, hstn]
      rw [hcause, recordFault_ctl]
    · rw [localCause_halts hlive hstn, postLasting_ctl, sendPattern_ctl, enterHalted_ctl]
  · rw [localCause_halts hlive hne, postLasting_link, sendPattern_tx]

theorem meter_running {d : Int} {arm : ArmName} (h : s.sup.running = some arm) : meter d s =
    if 0 < (s.sup.arm arm).remaining ∧ ((s.sup.arm arm).meter d).remaining = 0 then
      localCause .rollRunout (s.sup.arm arm).rollId true (onArm arm (fun a => a.meter d) s)
    else onArm arm (fun a => a.meter d) s := by
  simp only [meter, h, onArm_arm]

/-- The SUPPLY's metering on an edge, its arm RUNNING (R59, R129). -/
theorem positionChanged_supply {old : Word} {d : Int} (hrole : s.role = some .supply) :
    positionChanged old .ch0 d s = cadence old (settle (meter d s)) := by
  have hcond : EncChannel.ch0 = .ch0 ∧ s.role = some .supply := ⟨rfl, hrole⟩
  unfold positionChanged
  rw [if_pos hcond]

theorem positionChanged_other {old : Word} {ch : EncChannel} {d : Int} (h : ¬(ch = .ch0 ∧ s.role = some .supply)) :
    positionChanged old ch d s = cadence old (settle s) := by
  unfold positionChanged
  rw [if_neg h]

/-- A metered edge that runs the roll out (R129). -/
theorem meter_runout {d : Int} {arm : ArmName} (hlive : s.live = true) (hrole : s.role = some .supply) (hrunning : s.sup.running = some arm)
    (hleft : 0 < (s.sup.arm arm).remaining) (hout : ((s.sup.arm arm).meter d).remaining = 0) :
    (meter d s).stn = .halted ∧ (meter d s).ctl.entryClear = s.ctl.lastClear ∧ (s.stn ≠ .halted → (meter d s).link.tx = .sendingStop)
      ∧ (∀ id, nextDue s = none → s.msg.queue.length ≤ 6 → (s.sup.arm arm).roll = some id →
          (meter d s).fault = some ⟨.rollRunout, id, s.stn⟩ ∧ nextDue (meter d s) = none) := by
  set v := onArm arm (fun a => a.meter d) s with hv
  have hstate : v = { s with sup := v.sup } := onArm_sup _ _ _
  have hvlive : v.live = true := by rw [hstate]; exact hlive
  have hvrole : v.role = some .supply := by rw [hstate]; exact hrole
  have hstn : v.stn = s.stn := by rw [hstate]
  rw [meter_running hrunning, if_pos ⟨hleft, hout⟩]
  obtain ⟨hhalted, hclear, htx⟩ := localCause_latched (c := .rollRunout) (d := (s.sup.arm arm).rollId) hvlive
  refine ⟨hhalted, by rw [hclear, hstate], fun hne => htx (by rw [hstn]; exact hne), fun id hquiet hlen hroll => ?_⟩
  have hdue : nextDue v = none := by
    rw [← hquiet]
    exact nextDue_of_pos (by rw [hstate])
  have hroll' : half16 (s.sup.arm arm).rollId = id := by
    rw [Arm.rollId, hroll]
    exact (BitVec.ofNat_toNat 16 id).trans (BitVec.setWidth_eq id)
  have hentry : v.stn = .halted ∨ nextDue (haltRole v) = none := by
    rw [haltRole_of_supply hvrole, ← hdue]
    exact .inr (nextDue_of_pos rfl)
  have hrecords := localCause_records (c := .rollRunout) (d := (s.sup.arm arm).rollId) (l := true) hvlive hentry
    (by rw [hstate]; exact hlen.trans (by decide))
  refine ⟨?_, nextDue_localCause hvrole hdue⟩
  rw [hrecords.1, hroll', hstn]

/-- Settles O31: counts, adopted levels, the due watch, the delivery of the watches, and the SUPPLY's metering. -/
theorem edgesAreCountedAndMetered : Obligations.EdgesAreCountedAndMetered := by
  unfold Obligations.EdgesAreCountedAndMetered
  refine ⟨⟨fun s line n hn => ⟨fun hlive => ?_, fun hhead => ?_⟩, count_count⟩, fun s n hn => ⟨fun hlive => ?_, fun hhead => ?_⟩,
    fun s => ⟨nextDue_eq_none_iff, fun w hw => nextDue_eq_some hw⟩, fun s u t ch line n k hn hcase hu => ?_,
    fun s line n d rem arm hsupply hn hrunning hother hd hrem => ?_⟩
  · obtain ⟨t, hnext, hch0, hch1⟩ := encoderCount_channels (ch := .ch0) (line := line) hlive hn
    refine ⟨t, hnext, hch1, ?_⟩
    rw [hch0]
    show (s.pos.ch0.count line s.conf.scale0).a = _ ∧ (s.pos.ch0.count line s.conf.scale0).b = _ ∧ _
    cases line with
    | a =>
      refine ⟨rfl, rfl, fun _ h => ?_, fun _ h => ?_, (fun h => nomatch h), (fun h => nomatch h)⟩
      · show (s.pos.ch0.count .a s.conf.scale0).fine = _
        rw [count_a, if_pos h]
      · show (s.pos.ch0.count .a s.conf.scale0).fine = _
        rw [count_a, if_neg h]
    | b =>
      refine ⟨rfl, rfl, (fun h => nomatch h), (fun h => nomatch h), fun _ h => ?_, fun _ h => ?_⟩
      · show (s.pos.ch0.count .b s.conf.scale0).fine = _
        rw [count_b, if_neg h]
      · show (s.pos.ch0.count .b s.conf.scale0).fine = _
        rw [count_b, if_pos h]
  · obtain ⟨t, hnext, hch0, hch1⟩ := encoderCount_channels (ch := .ch1) (line := line) hhead hn
    exact ⟨t, hnext, hch0, hch1⟩
  · have harm : exec (.bothAcceptedLevelsChange .ch0 n) s = execBothAcceptedLevelsChange .ch0 n s := rfl
    rw [harm, execBothAcceptedLevelsChange, if_pos ⟨hlive, hn⟩]
    rfl
  · have harm : exec (.bothAcceptedLevelsChange .ch1 n) s = execBothAcceptedLevelsChange .ch1 n s := rfl
    rw [harm, execBothAcceptedLevelsChange, if_pos ⟨hhead, hn⟩]
    rfl
  · subst hu
    have huses : s.usesChannel ch = true := by
      rcases hcase with ⟨hlive, -, rfl⟩ | ⟨hhead, rfl⟩
      · exact hlive
      · exact hhead
    have hnotSupply : ¬(ch = .ch0 ∧ (takeCount ch line s).role = some .supply) := by
      rintro ⟨rfl, hrole⟩
      rcases hcase with ⟨-, hne, -⟩ | ⟨-, h⟩
      · exact hne hrole
      · exact nomatch h
    have hlive : s.live = true := by
      rcases hcase with ⟨hlive, -, -⟩ | ⟨hhead, -⟩
      · exact hlive
      · exact ((Bool.and_eq_true _ _).mp hhead).1
    rw [exec_encoderCount huses hn]
    refine ⟨fun hsame => by rw [if_pos hsame], fun hmoved hfires hk => ?_⟩
    have hsettle : settle (takeCount ch line s) = t := settle_of_fires hfires hk
    have hstn : (takeCount ch line s).stn = s.stn := by cases ch <;> rfl
    have hcfg : (takeCount ch line s).cfg = s.cfg := by cases ch <;> rfl
    have htlive : t.live = true := by
      rw [← hsettle, State.live, settle_stn, hstn]
      exact hlive
    have htconf : t.conf = s.conf := by rw [← hsettle, State.conf, settle_cfg, hcfg]; rfl
    rw [if_neg hmoved, positionChanged_other hnotSupply, hsettle, cadence_of_live htlive, htconf]
  · obtain ⟨hlive, hrole⟩ : s.live = true ∧ s.role = some .supply := by simpa [State.isRole] using hsupply
    set u := takeCount .ch0 line s with hu
    have hrunning' : u.sup.running = some arm := running_eq (v := s.sup) hrunning hother
    have hremaining : ((s.sup.arm arm).meter d).remaining = rem := hrem.symm
    have hlu : (takeCount .ch0 line s).luOf .ch0 = s.luOf .ch0 ↔ d = 0 := by
      rw [hd, sdiff_eq_zero_iff]
      rfl
    rw [exec_encoderCount (ch := .ch0) hlive hn]
    by_cases hzero : d = 0
    · rw [if_pos (hlu.mpr hzero)]
      exact ⟨_, rfl, fun h => absurd hzero h, fun _ => rfl, rfl, fun h => absurd hzero h, fun _ => rfl, fun h => absurd hzero h⟩
    · have hmoved : positionChanged s.refPos .ch0 (sdiff (u.luOf .ch0) (s.luOf .ch0)) u = cadence s.refPos (settle (meter d u)) := by
        rw [positionChanged_supply (by exact hrole), hd]
        rfl
      rw [if_neg (fun h => hzero (hlu.mp h)), hmoved]
      set t := cadence s.refPos (settle (meter d u)) with ht
      set v := onArm arm (fun a => a.meter d) u with hv
      have hview : t.sansHalt = v.sansHalt := by
        rw [ht, cadence_sansHalt, settle_sansHalt, meter_running hrunning']
        split
        · exact localCause_sansHalt _ _ _ _
        · rfl
      have hstn : t.stn = (meter d u).stn := by rw [ht, cadence_stn, settle_stn]
      have hkept : 0 < rem → meter d u = v := fun hpos => by
        rw [meter_running hrunning', if_neg]
        rintro ⟨-, hout⟩
        exact absurd (hremaining.symm.trans hout) (Nat.pos_iff_ne_zero.mp hpos)
      have hvstate : v = { u with sup := v.sup } := onArm_sup _ _ _
      refine ⟨_, rfl, fun _ => ?_, fun h => absurd h hzero, ?_, fun _ hleft hout => ?_, fun hpos => ?_, fun _ hpos hquiet => ?_⟩
      · rw [arm_of_sansHalt hview, onArm_arm]
        exact congrArg (fun r => ({ s.sup.arm arm with remaining := r } : Arm)) hremaining
      · rw [arm_of_sansHalt hview, onArm_arm_other]
        rfl
      · obtain ⟨hhalted, hclear, htx, hfault⟩ := meter_runout (s := u) (d := d) hlive hrole hrunning' hleft
          (hremaining.trans hout)
        refine ⟨by rw [hstn, hhalted], by rw [ht, cadence_ctl, settle_ctl, hclear]; rfl, fun hne => ?_, fun id hquiet hlen hroll => ?_⟩
        · rw [ht, cadence_link, settle_link]
          exact htx hne
        · obtain ⟨hrecord, hdue⟩ := hfault id hquiet hlen hroll
          rw [ht, settle_none hdue, cadence_fault, hrecord]
          rfl
      · rw [hstn, hkept hpos, hvstate]
        rfl
      · have hdue : nextDue v = none := by
          rw [← hquiet]
          exact nextDue_of_pos (by rw [hvstate])
        have hvlive : v.live = true := by rw [hvstate]; exact hlive
        have hvconf : v.conf = s.conf := by rw [hvstate]; rfl
        have hvref : v.refPos = v.pos.ch0.lu := refPos_of_supply (by rw [hvstate]; exact hrole)
        have hvmsg : v.msg = s.msg := by rw [hvstate]; rfl
        have hvpos : v.pos = { s.pos with ch0 := v.pos.ch0 } := by rw [hvstate]; rfl
        have hcadence : t = if s.pos.ch0.lu.getLsbD s.conf.cadenceBit = v.pos.ch0.lu.getLsbD s.conf.cadenceBit then v
            else { v with pos.keepAlive := some 100, msg := v.msg.supersede .position } := by
          rw [ht, hkept hpos, settle_none hdue, cadence_of_live hvlive, hvconf, hvref, refPos_of_supply hrole]
        have hch0 : t.pos.ch0 = v.pos.ch0 := (congrArg (fun x : State => x.pos.ch0) hview :)
        rw [hch0, hcadence]
        refine ⟨?_, fun hsame => ?_, fun hchanged => ?_⟩
        · split
          · rw [hvstate]; rfl
          · rw [hvstate]; rfl
        · rw [if_pos hsame, hvmsg, hvpos]
          exact ⟨rfl, rfl⟩
        · rw [if_neg hchanged, hvmsg]
          exact ⟨rfl, rfl⟩

end

end Sys2Proof.Machine
end

section
/-! PROOFS. O32 and O33, timers of every role: the speed timer (R61, R139, R161), and those that hand a notice (R70, R83, R141). -/

namespace Sys2Proof.Machine

section
variable {s t : State}

/-! ## O32: the speed timer -/

/-- The state after an expiry of the speed timer, the press not yet checked (R61, R161). -/
def measured (s : State) : State := { s with
  pos.measured := speedNow s
  pos.prev := s.pos.ch0.lu
  pos.speedTimer := some 10
  map.spans := s.map.spans.map (Span.speedTick s.stn (speedNow s)) }

theorem exec_speedTimerExpiry (h : s.pos.speedTimer.isSome = true) : exec .speedTimerExpiry s = .next
    (if s.isRole .supply = true ∧ s.pos.measured ≠ 0 then pressCheck (measured s) else measured s) := by
  have harm : exec .speedTimerExpiry s = execSpeedTimerExpiry s := rfl
  rw [harm, execSpeedTimerExpiry, if_pos h]
  rfl

theorem speedTick_approaching {stn : StationState} {v : Nat} {sp : Span} (h : sp.phase = .approaching) : sp.speedTick stn v = sp := by
  simp only [Span.speedTick, h]

theorem speedTick_inChest {stn : StationState} {v p st : Nat} {tl : Option Int} {sp : Span} (h : sp.phase = .inChest p tl st) :
    sp.speedTick stn v = { sp with
      phase := .inChest (max p v) tl
        (if v = 0 ∧ (stn = .ready ∨ stn = .running ∨ stn = .stopping) then min 1000000 (st + 10) else st) } := by
  simp only [Span.speedTick, h]

/-- The press check acts on a PRESSING splice at rest alone (R139). -/
theorem pressCheck_eq (s : State) : pressCheck s = { s with sup := (pressCheck s).sup } := by
  unfold pressCheck
  split_ifs <;> rfl

theorem pressCheck_of_other (h : ¬(s.sup.splice = .pressing ∧ s.pos.measured = 0)) : pressCheck s = s := if_neg h

theorem pressCheck_pressing (h : s.sup.splice = .pressing ∧ s.pos.measured = 0) : (pressCheck s).sup.brake = true
    ∧ (s.stn = .running → s.sup.pressFire = false →
        (pressCheck s).sup.pressFire = true ∧ (pressCheck s).sup.pressTimer = some s.conf.pressTimeout)
    ∧ (s.stn ≠ .running → (pressCheck s).sup.pressFire = s.sup.pressFire ∧ (pressCheck s).sup.pressTimer = s.sup.pressTimer) := by
  unfold pressCheck
  rw [if_pos h]
  split_ifs with hfires
  · exact ⟨rfl, fun _ _ => ⟨rfl, rfl⟩, fun hne => absurd hfires.1 hne⟩
  · exact ⟨rfl, fun hstn hfire => absurd ⟨hstn, hfire⟩ hfires, fun _ => ⟨rfl, rfl⟩⟩

/-- Settles O32: the measured speed, the spans in the chest, and the press check. -/
theorem speedTimerMeasures : Obligations.SpeedTimerMeasures := by
  unfold Obligations.SpeedTimerMeasures
  intro s v htimer hv
  have hspeed : speedNow s = v := hv.symm
  have hspans : (measured s).map.spans = s.map.spans.map (Span.speedTick s.stn v) := by rw [← hspeed]; rfl
  have hpos : (measured s).pos = { s.pos with measured := v, prev := s.pos.ch0.lu, speedTimer := some 10 } := by rw [← hspeed]; rfl
  have hspan : ∀ (i : Nat) (sp : Span), s.map.spans[i]? = some sp → (measured s).map.spans[i]? = some (sp.speedTick s.stn v) :=
    fun i sp hi => by rw [hspans, List.getElem?_map, hi, Option.map_some]
  have hstate : ∀ u : State, u = { measured s with sup := u.sup } → u = { s with pos := u.pos, map.spans := u.map.spans, sup := u.sup }
      ∧ u.pos = { s.pos with measured := v, prev := s.pos.ch0.lu, speedTimer := some 10 }
      ∧ u.map.spans.length = s.map.spans.length
      ∧ (∀ (i : Nat) (sp : Span), s.map.spans[i]? = some sp →
          (sp.phase = .approaching → u.map.spans[i]? = some sp)
          ∧ (∀ p tl st st', sp.phase = .inChest p tl st →
              st' = (if v = 0 ∧ (s.stn = .ready ∨ s.stn = .running ∨ s.stn = .stopping) then min 1000000 (st + 10) else st) →
              u.map.spans[i]? = some { sp with phase := .inChest (max p v) tl st' })) := by
    intro u hu
    have hmap : u.map.spans = (measured s).map.spans := by rw [hu]
    refine ⟨by rw [hu]; rfl, by rw [hu, ← hpos], ?_, fun i sp hi => ⟨fun happ => ?_, fun p tl st st' hin hst => ?_⟩⟩
    · rw [hmap, hspans, List.length_map]
    · rw [hmap, hspan i sp hi, speedTick_approaching happ]
    · rw [hmap, hspan i sp hi, speedTick_inChest hin, hst]
  rw [exec_speedTimerExpiry htimer]
  by_cases hcheck : s.isRole .supply = true ∧ s.pos.measured ≠ 0
  · rw [if_pos hcheck]
    obtain ⟨hframe, hpos', hlength, hspans'⟩ := hstate _ (pressCheck_eq (measured s))
    have hcond : (measured s).sup.splice = .pressing ∧ (measured s).pos.measured = 0 ↔ s.sup.splice = .pressing ∧ v = 0 := by
      rw [hpos]
      exact Iff.rfl
    refine ⟨_, rfl, hframe, hpos', hlength, hspans', fun hnot => ?_, fun _ _ hzero hsplice => pressCheck_pressing (hcond.mpr ⟨hsplice, hzero⟩)⟩
    rw [pressCheck_of_other]
    · rfl
    · rw [hcond]
      exact fun ⟨hsplice, hzero⟩ => hnot ⟨hcheck.1, hcheck.2, hzero, hsplice⟩
  · rw [if_neg hcheck]
    obtain ⟨hframe, hpos', hlength, hspans'⟩ := hstate (measured s) rfl
    exact ⟨_, rfl, hframe, hpos', hlength, hspans', fun _ => rfl, fun hrole hmoving => absurd ⟨hrole, hmoving⟩ hcheck⟩

/-! ## O33: the notices of timers, and the posting of a changed ceiling (R70, R83, R141) -/

/-- A change of the own ceiling is posted when it leaves the band above P (R83). -/
theorem postsChange_iff {p old new : Nat} : postsChange (some p) old new = true ↔ new ≠ old ∧ (new < p ∨ p + p / 32 < new) := by
  simp [postsChange]

theorem reformOwn_posts (h : postsChange s.spd.lastPosted s.spd.ownValue (roleCeiling s).1 = true) :
    reformOwn s = handCeiling (setOwn s) := if_pos h

theorem reformOwn_keeps (h : postsChange s.spd.lastPosted s.spd.ownValue (roleCeiling s).1 = false) : reformOwn s = setOwn s :=
  if_neg (by simpa using h)

/-- Settles O33: the three timers, then the own ceiling's change. -/
theorem noticesArePosted : Obligations.NoticesArePosted := by
  unfold Obligations.NoticesArePosted
  refine ⟨fun s hlive => ⟨fun htimer => ?_, fun htimer => ?_, fun htimer hrole => ?_⟩, fun s p hposted => ?_⟩
  · have harm : exec .keepAliveTimerExpiry s = execKeepAliveTimerExpiry s := rfl
    rw [harm, execKeepAliveTimerExpiry, if_pos htimer, handPosition_of_live hlive]
  · have harm : exec .postingTimerExpiry s = execPostingTimerExpiry s := rfl
    rw [harm, execPostingTimerExpiry, if_pos htimer]
    rfl
  · have harm : exec .rollStateTimerExpiry s = execRollStateTimerExpiry s := rfl
    have hother : (s.sup.arm s.sup.otherArm).state = if s.sup.running = some .b then s.sup.armA.state else s.sup.armB.state := by
      unfold Supply.otherArm
      split <;> rfl
    rw [harm, execRollStateTimerExpiry, if_pos htimer, handRollState_supply (by simp [State.isRole, hlive, hrole]), ← hother]
    rfl
  · refine ⟨fun hchanged hleaves => ?_, fun hstays => ?_⟩
    · have hposts : postsChange s.spd.lastPosted s.spd.ownValue (roleCeiling s).1 = true := by
        rw [hposted, postsChange_iff]
        exact ⟨hchanged, hleaves⟩
      rw [reformOwn_posts hposts]
      exact ⟨rfl, rfl, rfl, rfl⟩
    · have hkeeps : postsChange s.spd.lastPosted s.spd.ownValue (roleCeiling s).1 = false := by
        rw [← Bool.not_eq_true, hposted, postsChange_iff]
        rintro ⟨hchanged, hleaves⟩
        omega
      rw [reformOwn_keeps hkeeps]
      rfl

end

end Sys2Proof.Machine
end

section
/-! PROOFS. O34, the watched neighbour's POSITION: heard (R6, R35), the arrival offset of the SUPPLY (R132), the registration of a SETTER
(R63 to R68, R164). -/

namespace Sys2Proof.Machine

section
variable {s t u v : State} {m : PositionMsg} {l : Latch}

/-! ## The neighbour is heard (R6, R7, R35) -/

theorem hearNeighbour_listen (h : s.stn = .listen ∧ s.ctl.consoleHeard = true) : hearNeighbour s =
    enterReady { s with link.neighbourSilence := some s.conf.silenceLimit, ctl.neighbourHeard := true } :=
  if_pos ⟨h.1, (Bool.and_true _).trans h.2⟩

theorem hearNeighbour_other (h : ¬(s.stn = .listen ∧ s.ctl.consoleHeard = true)) : hearNeighbour s =
    { s with link.neighbourSilence := some s.conf.silenceLimit, ctl.neighbourHeard := true } :=
  if_neg fun ⟨hstn, hheard⟩ => h ⟨hstn, (Bool.and_true _).symm.trans hheard⟩

/-- What hearing the neighbour writes. -/
theorem hearNeighbour_eq (s : State) : hearNeighbour s = { s with
    stn := if s.stn = .listen ∧ s.ctl.consoleHeard = true then .ready else s.stn
    link.neighbourSilence := some s.conf.silenceLimit, ctl.neighbourHeard := true
    pos.keepAlive := (hearNeighbour s).pos.keepAlive, msg := (hearNeighbour s).msg } := by
  by_cases h : s.stn = .listen ∧ s.ctl.consoleHeard = true
  · rw [hearNeighbour_listen h, if_pos h, enterReady, handPosition_of_live rfl]
  · rw [hearNeighbour_other h, if_neg h]

theorem exec_position {p : List Byte} (hhears : s.hears 0 s.neighbour p l) (hparse : parsePosition p = some m) :
    exec (.position s.neighbour p) s = .next (hearNeighbour (takePosition m l (dropLatch s))) := by
  have harm : exec (.position s.neighbour p) s = execPosition s.neighbour p s := rfl
  rw [harm, execPosition, receive_of_hears hhears]
  simp only [hparse]

/-! ## The registration of a SETTER (R65 to R68) -/

theorem mapPos_of_registered (h : s.pos.reg ≠ .uncaptured) : s.mapPos = s.pos.ch0.lu + s.pos.offset := by
  unfold State.mapPos
  cases hr : s.pos.reg with
  | uncaptured => exact absurd hr h
  | tracking => rfl
  | suspended => rfl

theorem cadence_pos (old : Word) (s : State) : (cadence old s).pos = { s.pos with keepAlive := (cadence old s).pos.keepAlive } := by
  unfold cadence handPosition
  split_ifs <;> rfl

theorem settle_pos_ch0 (s : State) : (settle s).pos.ch0 = s.pos.ch0 :=
  (congrArg (fun u : State => u.pos.ch0) (settle_sansWatched s) :)

/-- The registration as it captures, the window not yet tested (R65). -/
def captured (ref : Word) (l : Latch) (s : State) : State :=
  { s with pos.offset := expectedMap s ref - l.ch0, pos.reg := .tracking, pos.errorRun := 0 }

theorem capture_eq (ref : Word) (l : Latch) (s : State) : capture ref l s = cadence s.refPos (windowTest (settle (captured ref l s))) := rfl

/-- What a capture leaves of the position record. -/
theorem capture_pos (ref : Word) (l : Latch) (s : State) : (capture ref l s).pos.reg = .tracking ∧ (capture ref l s).pos.errorRun = 0
    ∧ (capture ref l s).pos.offset = expectedMap s ref - l.ch0 ∧ (capture ref l s).pos.ch0 = s.pos.ch0 := by
  have htest : ∀ v : State, (windowTest v).pos = { v.pos with watches := (windowTest v).pos.watches } := fun _ => rfl
  rw [capture_eq, cadence_pos, htest]
  exact ⟨settle_reg _, settle_errorRun _, settle_poffset _, settle_pos_ch0 _⟩

/-- The map after a capture's window test, at the new map position (R164). -/
theorem capture_map (ref : Word) (l : Latch) (s : State) : (capture ref l s).map.spans = (settle (captured ref l s)).map.spans.filter
      (fun sp => decide (sp.phase ≠ .approaching) || decide (s.conf.windowAhead = 0)
        || decide (sdiff sp.start (capture ref l s).mapPos ≤ s.conf.windowAhead))
    ∧ (capture ref l s).pos.watches = (settle (captured ref l s)).pos.watches.filter (fun w =>
        !((settle (captured ref l s)).map.spans.any fun sp => decide (w.event = .spanEntry sp.start) && decide (sp.phase = .approaching)
          && !(decide (s.conf.windowAhead = 0) || decide (sdiff sp.start (capture ref l s).mapPos ≤ s.conf.windowAhead)))) := by
  obtain ⟨hreg, -, hoffset, hch0⟩ := capture_pos ref l s
  set x := settle (captured ref l s) with hx
  have hxreg : x.pos.reg = .tracking := settle_reg _
  have hxoffset : x.pos.offset = expectedMap s ref - l.ch0 := settle_poffset _
  have hxch0 : x.pos.ch0 = s.pos.ch0 := settle_pos_ch0 _
  have hmap : x.mapPos = (capture ref l s).mapPos := by
    rw [mapPos_of_registered (by rw [hxreg]; exact (nomatch ·)), mapPos_of_registered (by rw [hreg]; exact (nomatch ·)), hxoffset, hxch0,
      hoffset, hch0]
  have hconf : x.conf = s.conf := by rw [hx, State.conf, settle_cfg]; rfl
  have hwindow : ∀ w, inWindow x w =
      (decide (s.conf.windowAhead = 0) || decide (sdiff w (capture ref l s).mapPos ≤ s.conf.windowAhead)) := fun w => by
    rw [inWindow, hconf, hmap]
  rw [← hmap] at hwindow ⊢
  refine ⟨?_, ?_⟩
  · rw [capture_eq, cadence_map]
    show x.map.spans.filter (fun sp => sp.inChest || inWindow x sp.start) = _
    refine List.filter_congr fun sp _ => ?_
    rw [hwindow, Bool.or_assoc]
    rfl
  · rw [capture_eq, cadence_watches]
    show x.pos.watches.filter (fun w => !((x.map.spans.filter fun sp => !sp.inChest && !inWindow x sp.start).any
      fun sp => w.event == .spanEntry sp.start)) = _
    refine List.filter_congr fun w _ => ?_
    rw [List.any_filter]
    refine congrArg (!List.any x.map.spans ·) (funext fun sp => ?_)
    have hphase : (!sp.inChest) = decide (sp.phase = .approaching) := by simp [Span.inChest]
    have hevent : (w.event == .spanEntry sp.start) = decide (w.event = .spanEntry sp.start) := Bool.beq_eq_decide_eq _ _
    rw [hwindow, hphase, hevent]
    exact Bool.and_comm _ _ |>.trans (Bool.and_assoc _ _ _).symm

/-- The registration as it slews, the error not yet judged (R66). -/
def slewed (e : Int) (s : State) : State :=
  cadence s.refPos (settle { s with pos.offset := s.pos.offset + wordOfInt (clampInt (-50) 50 e) })

theorem track_eq (ref : Word) (l : Latch) (s : State) :
    track ref l s = judgeError (sdiff (expectedMap s ref) l.map) (slewed (sdiff (expectedMap s ref) l.map) s) := rfl

theorem slewed_fields (e : Int) (s : State) : (slewed e s).stn = s.stn ∧ (slewed e s).cfg = s.cfg ∧ (slewed e s).pos.reg = s.pos.reg
    ∧ (slewed e s).pos.errorRun = s.pos.errorRun ∧ (slewed e s).pos.ch0 = s.pos.ch0
    ∧ (slewed e s).pos.offset = s.pos.offset + wordOfInt (clampInt (-50) 50 e) := by
  unfold slewed
  refine ⟨by rw [cadence_stn, settle_stn], by rw [cadence_cfg, settle_cfg], by rw [cadence_reg, settle_reg],
    by rw [cadence_errorRun, settle_errorRun], ?_, by rw [cadence_offset, settle_poffset]⟩
  rw [cadence_pos]
  exact settle_pos_ch0 _

/-- The third error in a row above the limit halts (R67). -/
theorem lost_fields {d : Nat} (hlive : s.live = true) (hstn : s.stn ≠ .halted) (hrole : s.role = some .setter) :
    (localCause .registrationLost d true s).stn = .halted ∧ (localCause .registrationLost d true s).pos.reg = .suspended
      ∧ (localCause .registrationLost d true s).pos.errorRun = 0 ∧ (localCause .registrationLost d true s).link.tx = .sendingStop := by
  obtain ⟨hhalted, -, htx⟩ := localCause_latched (c := .registrationLost) (d := d) hlive
  refine ⟨hhalted, ?_, ?_, htx hstn⟩
  all_goals
    obtain ⟨-, -, hset, -, -⟩ := enterHalted_roleHalts { s with fault := some ⟨.registrationLost, half16 d, s.stn⟩ }
    rw [localCause_halts hlive hstn, postLasting_pos, sendPattern_pos]
  · exact (hset hrole).1
  · exact (hset hrole).2

/-- With no watch due at the slewed position, REGISTRATION LOST is recorded and its FAULT queued (R17, R67). -/
theorem lost_records {e : Int} {d : Nat} (hlive : s.live = true) (hrole : s.role = some .setter) (hreg : s.pos.reg = .tracking)
    (hquiet : nextDue { s with pos.offset := s.pos.offset + wordOfInt (clampInt (-50) 50 e) } = none) (hlen : s.msg.queue.length ≤ 6) :
    (localCause .registrationLost d true { slewed e s with pos.errorRun := 0 }).fault = some ⟨.registrationLost, half16 d, s.stn⟩
      ∧ (⟨.fault ⟨.registrationLost, half16 d, s.stn⟩, 0, .waiting⟩ : QEntry)
        ∈ (localCause .registrationLost d true { slewed e s with pos.errorRun := 0 }).msg.queue := by
  obtain ⟨hstn, hcfg, hreg', -, -, hoffset⟩ := slewed_fields e s
  set y : State := { s with pos.offset := s.pos.offset + wordOfInt (clampInt (-50) 50 e) } with hy
  set x : State := { slewed e s with pos.errorRun := 0 } with hx
  have hslewed : slewed e s = cadence s.refPos y := by rw [slewed, settle_none hquiet]
  have hxrole : x.role = some .setter := by
    show (slewed e s).cfg.map _ = _
    rw [hcfg]
    exact hrole
  have hxlive : x.live = true := by
    show (slewed e s).stn.live = true
    rw [hstn]
    exact hlive
  have hqueue : x.msg.queue.length ≤ 8 := by
    have hcadence := len_cadence s.refPos y
    rw [← hslewed] at hcadence
    have hbound : (slewed e s).msg.queue.length ≤ s.msg.queue.length + 1 := hcadence
    show (slewed e s).msg.queue.length ≤ 8
    omega
  have hentry : nextDue (haltRole x) = none := by
    rw [haltRole_of_setter hxrole, ← hquiet]
    obtain ⟨k, hkeep⟩ : ∃ k, (slewed e s).pos = { y.pos with keepAlive := k } := ⟨_, by rw [hslewed]; exact cadence_pos _ _⟩
    have hposition : (haltSetter x).pos = { y.pos with keepAlive := k, reg := .suspended, errorRun := 0 } := by
      show { (slewed e s).pos with reg := RegCond.suspended, errorRun := 0 } = _
      rw [hkeep]
    refine nextDue_congr (by rw [hposition]) fun n => ?_
    have hyreg : y.pos.reg = .tracking := hreg
    cases n <;> simp only [State.posOf, State.mapPos, hposition, hyreg]
  have hrecords := localCause_records (c := .registrationLost) (d := d) (l := true) hxlive (.inr hentry) hqueue
  have hxstn : x.stn = s.stn := hstn
  rw [hxstn] at hrecords
  exact hrecords

/-- The judgement of an error, by case (R67). -/
theorem judgeError_small {e : Int} (h : e.natAbs ≤ 2000) : judgeError e s = { s with pos.errorRun := 0 } := if_pos h

theorem judgeError_counted {e : Int} (h : 2000 < e.natAbs) (hrun : s.pos.errorRun + 1 < 3) :
    judgeError e s = { s with pos.errorRun := s.pos.errorRun + 1 } := (if_neg (Nat.not_le.mpr h)).trans (if_pos hrun)

theorem judgeError_lost {e : Int} (h : 2000 < e.natAbs) (hrun : 3 ≤ s.pos.errorRun + 1) :
    judgeError e s = localCause .registrationLost (min e.natAbs 65535) true { s with pos.errorRun := 0 } :=
  (if_neg (Nat.not_le.mpr h)).trans (if_neg (Nat.not_lt.mpr hrun))

theorem judgeError_sansHalt (e : Int) (s : State) : (judgeError e s).sansHalt = s.sansHalt := by
  unfold judgeError
  split_ifs
  · rfl
  · rfl
  · rw [localCause_sansHalt]
    rfl

/-- The slew by at most 50 lu (R66). -/
theorem slew_rules (e : Int) (w : Word) : (e.natAbs ≤ 50 → w + wordOfInt (clampInt (-50) 50 e) = w + BitVec.ofInt 32 e)
    ∧ (50 < e → w + wordOfInt (clampInt (-50) 50 e) = w + 50#32) ∧ (e < -50 → w + wordOfInt (clampInt (-50) 50 e) = w - 50#32) := by
  refine ⟨fun h => ?_, fun h => ?_, fun h => ?_⟩
  · have hclamp : clampInt (-50) 50 e = e := by
      rw [clampInt, if_neg (by omega), if_neg (by omega)]
    rw [hclamp]
    rfl
  · have hclamp : clampInt (-50) 50 e = 50 := by
      rw [clampInt, if_neg (by omega), if_pos h]
    rw [hclamp]
    rfl
  · have hclamp : clampInt (-50) 50 e = -50 := by
      rw [clampInt, if_pos h]
    rw [hclamp, BitVec.sub_eq_add_neg]
    rfl

/-- The registration by its condition (R63, R65 to R67), before the neighbour is heard. -/
theorem register_rules {ref : Word} {e : Int} (hlive : s.live = true) (hrole : s.role = some .setter)
    (he : e = sdiff (expectedMap s ref) l.map) : (register ref l s).pos.ch0 = s.pos.ch0
      ∧ (s.pos.reg = .uncaptured → register ref l s = capture ref l s) ∧ (s.pos.reg = .suspended → register ref l s = s)
      ∧ (s.pos.reg = .tracking → (register ref l s).pos.offset = s.pos.offset + wordOfInt (clampInt (-50) 50 e)
        ∧ (e.natAbs ≤ 2000 → (register ref l s).pos.reg = .tracking ∧ (register ref l s).pos.errorRun = 0)
        ∧ (2000 < e.natAbs → s.pos.errorRun + 1 < 3 →
            (register ref l s).pos.reg = .tracking ∧ (register ref l s).pos.errorRun = s.pos.errorRun + 1)
        ∧ (2000 < e.natAbs → s.stn ≠ .halted → 3 ≤ s.pos.errorRun + 1 →
            register ref l s = localCause .registrationLost (min e.natAbs 65535) true { slewed e s with pos.errorRun := 0 }
            ∧ (register ref l s).stn = .halted ∧ (register ref l s).pos.reg = .suspended ∧ (register ref l s).pos.errorRun = 0
            ∧ (register ref l s).link.tx = .sendingStop)) := by
  cases hreg : s.pos.reg with
  | uncaptured =>
    have hregister : register ref l s = capture ref l s := by simp only [register, hreg]
    rw [hregister]
    exact ⟨(capture_pos ref l s).2.2.2, fun _ => rfl, (fun h => nomatch h), (fun h => nomatch h)⟩
  | suspended =>
    have hregister : register ref l s = s := by simp only [register, hreg]
    rw [hregister]
    exact ⟨rfl, (fun h => nomatch h), fun _ => rfl, (fun h => nomatch h)⟩
  | tracking =>
    have hregister : register ref l s = judgeError e (slewed e s) := by
      simp only [register, hreg, track_eq, he]
    obtain ⟨hstn, hcfg, hreg', hrun, hch0, hoffset⟩ := slewed_fields e s
    have hview := judgeError_sansHalt e (slewed e s)
    rw [hregister]
    refine ⟨(congrArg (fun u : State => u.pos.ch0) hview :).trans hch0, (fun h => nomatch h), (fun h => nomatch h),
      fun _ => ⟨(congrArg (fun u : State => u.pos.offset) hview :).trans hoffset, fun hsmall => ?_, fun hbig hfew => ?_,
        fun hbig hne hthird => ?_⟩⟩
    · rw [judgeError_small hsmall]
      exact ⟨hreg'.trans hreg, rfl⟩
    · rw [judgeError_counted hbig (by rw [hrun]; exact hfew), ← hrun]
      exact ⟨hreg'.trans hreg, rfl⟩
    · rw [judgeError_lost hbig (by rw [hrun]; exact hthird)]
      exact ⟨rfl, lost_fields (by rw [State.live]; exact (congrArg StationState.live hstn).trans hlive) (by rw [hstn]; exact hne)
        (by show (slewed e s).cfg.map _ = _; rw [hcfg]; exact hrole)⟩

theorem register_cfg (ref : Word) (l : Latch) (s : State) : (register ref l s).cfg = s.cfg := by
  cases hreg : s.pos.reg with
  | uncaptured =>
    simp only [register, hreg, capture_eq, cadence_cfg]
    exact settle_cfg _
  | suspended => simp only [register, hreg]
  | tracking =>
    simp only [register, hreg, track_eq]
    exact (congrArg (fun u : State => u.cfg) (judgeError_sansHalt _ _) :).trans (slewed_fields _ _).2.1

/-- Settles O34: the neighbour heard at the HEAD and the SUPPLY, then the registration of a SETTER. -/
theorem neighbourPositionIsTaken : Obligations.NeighbourPositionIsTaken := by
  unfold Obligations.NeighbourPositionIsTaken
  refine ⟨fun s p l m hhears hparse hrole => ?_, fun s p l m e hhears hparse hsetter he => ?_⟩
  · set u := takePosition m l (dropLatch s) with hu
    have heq := hearNeighbour_eq u
    have hframe : u = { s with link := u.link, sup := u.sup, freeCount := u.freeCount } ∧ u.link = { s.link with latch := none } := by
      have hrole' : (dropLatch s).role = s.role := rfl
      rcases hrole with h | h
      · rw [hu, takePosition]
        simp only [hrole', h]
        exact ⟨rfl, rfl⟩
      · rw [hu, takePosition]
        simp only [hrole', h]
        exact ⟨rfl, rfl⟩
    obtain ⟨hstate, hlink⟩ := hframe
    have hstn : u.stn = s.stn := by rw [hstate]
    have hctl : u.ctl = s.ctl := by rw [hstate]
    have hpos : u.pos = s.pos := by rw [hstate]
    have hconf : u.conf = s.conf := by rw [hstate]; rfl
    rw [exec_position hhears hparse]
    refine ⟨_, rfl, by rw [heq], by rw [heq, hconf], by rw [heq, hstn, hctl], by rw [heq, hpos], by rw [heq, hstate], by rw [heq, hstate],
      fun hhead => ?_, fun hsupply => ?_⟩
    · rw [heq, hu, takePosition]
      simp only [show (dropLatch s).role = some .head from hhead]
      rfl
    · have htaken : u = registerArrival m l (dropLatch s) := by
        rw [hu, takePosition]
        simp only [show (dropLatch s).role = some .supply from hsupply]
      rw [heq, htaken]
      have hoffset : (registerArrival m l (dropLatch s)).sup.offset
          = m.second + word32 s.conf.pathHead + arrivalContent (dropLatch s) - l.ch0 := rfl
      refine ⟨rfl, fun hkept => ?_, fun hlost => ?_⟩
      · have hcontent : arrivalContent (dropLatch s) = if s.sup.festoon = .noReading then 0 else word32 s.sup.content := by
          unfold arrivalContent
          show (match s.sup.festoon with | .noReading => _ | .lost => _ | _ => _) = _
          cases hf : s.sup.festoon with
          | lost => exact absurd hf hkept
          | _ => rfl
        show l.ch0 + (registerArrival m l (dropLatch s)).sup.offset = _
        rw [hoffset, hcontent]
        exact add_sub_cancel _ _
      · have hcontent : arrivalContent (dropLatch s) = Config.freeWord s.freeCount := by
          unfold arrivalContent
          rw [show (dropLatch s).sup.festoon = .lost from hlost]
          rfl
        refine ⟨if_pos hlost, ?_⟩
        show l.ch0 + (registerArrival m l (dropLatch s)).sup.offset = _
        rw [hoffset, hcontent]
        exact add_sub_cancel _ _
  · obtain ⟨hlive, hrole⟩ : s.live = true ∧ s.role = some .setter := by simpa [State.isRole] using hsetter
    set x := dropLatch s with hx
    set u := register m.ref l x with hu
    obtain ⟨hch0, hcapture, hsuspended, htracking⟩ := register_rules (s := x) (ref := m.ref) (l := l) hlive hrole he
    have htaken : takePosition m l x = u := by
      rw [hu, takePosition]
      simp only [show x.role = some .setter from hrole]
    have hconf : u.conf = s.conf := by rw [State.conf, hu, register_cfg]; rfl
    have heq := hearNeighbour_eq u
    set t := hearNeighbour u with ht
    have hpos : t.pos = { u.pos with keepAlive := t.pos.keepAlive } := by rw [heq]
    have hmap : t.map = u.map := by rw [heq]
    have hmapPos : t.mapPos = u.mapPos := by
      rw [heq]
      rfl
    rw [exec_position hhears hparse, htaken]
    refine ⟨t, rfl, by rw [heq], by rw [heq, hconf], by rw [hpos]; exact hch0, fun hreg => ?_, fun hreg => ?_, fun hreg => ?_⟩
    · have hcaptured : u = capture m.ref l x := hcapture hreg
      obtain ⟨hreg', hrun, hoffset, hch0'⟩ := capture_pos m.ref l x
      obtain ⟨hspans, hwatches⟩ := capture_map m.ref l x
      rw [← hcaptured] at hreg' hrun hoffset hspans hwatches
      refine ⟨by rw [hpos]; exact hreg', by rw [hpos]; exact hrun, ?_, fun sp hsp happ => ?_, fun hahead => ?_⟩
      · have hoffset' : t.pos.offset = m.ref - word32 s.conf.pathSource - l.ch0 := by rw [hpos]; exact hoffset
        rw [hoffset']
        exact add_sub_cancel _ _
      · rw [hmap, hspans] at hsp
        have htest := (List.mem_filter.mp hsp).2
        rw [hmapPos]
        have hxconf : x.conf = s.conf := rfl
        rw [hxconf] at htest
        simpa [happ] using htest
      · have hdue : nextDue (captured m.ref l x) = none := by
          rw [nextDue_eq_none_iff]
          intro w hw
          obtain ⟨hwmap, hwahead⟩ := hahead w hw
          have hnew : (captured m.ref l x).mapPos = t.mapPos := by
            rw [hmapPos, hcaptured, mapPos_of_registered (s := capture m.ref l x) (by rw [← hcaptured, hreg']; exact (nomatch ·)),
              ← hcaptured, hoffset, hch0]
            rfl
          rw [Watch.past, hwmap]
          show sdiff (captured m.ref l x).mapPos w.target < 0
          rw [hnew]
          exact hwahead
        rw [settle_none hdue] at hspans hwatches
        rw [hmap, hmapPos]
        exact ⟨hspans, by rw [hpos]; exact hwatches⟩
    · have hkept : u = x := hsuspended hreg
      refine ⟨by rw [hpos, hkept]; exact hreg, by rw [hpos, hkept]; rfl, by rw [hpos, hkept]; rfl⟩
    · obtain ⟨hoffset, hsmall, hcounted, hlost⟩ := htracking hreg
      have hoffset' : t.pos.offset = s.pos.offset + wordOfInt (clampInt (-50) 50 e) := by rw [hpos]; exact hoffset
      obtain ⟨hnear, hfar, hback⟩ := slew_rules e s.pos.offset
      refine ⟨fun h => hoffset'.trans (hnear h), fun h => hoffset'.trans (hfar h), fun h => hoffset'.trans (hback h),
        fun h => by rw [hpos]; exact hsmall h, fun h hfew => by rw [hpos]; exact hcounted h hfew, fun h hne hthird => ?_⟩
      obtain ⟨hcause, hhalted, hreg', hrun, htx⟩ := hlost h hne hthird
      have hother : t = { u with link.neighbourSilence := some u.conf.silenceLimit, ctl.neighbourHeard := true } :=
        hearNeighbour_other fun ⟨hlisten, _⟩ => by rw [hlisten] at hhalted; exact nomatch hhalted
      refine ⟨by rw [hother]; exact hhalted, by rw [hother]; exact hreg', by rw [hother]; exact hrun, by rw [hother]; exact htx,
        fun hquiet hlen => ?_⟩
      rw [hoffset'] at hquiet
      have hquiet' : nextDue { x with pos.offset := x.pos.offset + wordOfInt (clampInt (-50) 50 e) } = none := by
        rw [← hquiet]
        exact nextDue_of_pos rfl
      have hrecords := lost_records (s := x) (d := min e.natAbs 65535) hlive hrole hreg hquiet' hlen
      rw [← hcause] at hrecords
      rw [hother]
      exact hrecords

end

end Sys2Proof.Machine
end

section
/-! PROOFS. O35, the ceiling table (R72 to R75, R100, R103). -/

namespace Sys2Proof.Machine

section
variable {s t : State}

/-! ## Entries of the table -/

theorem entry_of_table (h : t.spd.table = s.spd.table) (m : Station) : t.entry m = s.entry m := by
  unfold State.entry
  rw [h]

/-- The table with one entry written. -/
def State.withEntry (m : Station) (e : CeilingEntry) (s : State) : State :=
  { s with spd.table := s.spd.table.setIfInBounds m.toNat e }

theorem entry_withEntry_same {m : Station} {e : CeilingEntry} (h : m.toNat < 7) : (s.withEntry m e).entry m = e := by
  simp [State.entry, State.withEntry, h]

theorem entry_withEntry_other {m n : Station} {e : CeilingEntry} (h : n ≠ m) : (s.withEntry m e).entry n = s.entry n := by
  have hne : m.toNat ≠ n.toNat := fun heq => h (BitVec.eq_of_toNat_eq heq.symm)
  simp [State.entry, State.withEntry, Vector.getElem?_setIfInBounds_ne hne]

/-- A station that is not the console has an entry of its own (R72). -/
theorem toNat_lt_of_ne_console {m : Station} (h : m ≠ consoleStation) : m.toNat < 7 := by
  have hne : m.toNat ≠ 7 := fun heq => h (BitVec.eq_of_toNat_eq (heq.trans rfl))
  have hlt : m.toNat < 8 := m.isLt
  omega

/-- An entry that is CURRENT is one of the seven. -/
theorem toNat_lt_of_current {m : Station} {c : CeilingMsg} {k : Nat} (h : s.entry m = .current c k) : m.toNat < 7 := by
  by_contra hge
  rw [State.entry, Vector.getElem?_eq_none (Nat.le_of_not_lt hge)] at h
  exact nomatch h

/-! ## O35 -/

/-- What writing an entry does, the infeed law holding before (R73, R74, R100, R103). -/
theorem writeEntry_rules {m : Station} {e : CeilingEntry} (hm : m.toNat < 7) (hlaw : s.infeedLawful) :
    (writeEntry m e s).entry m = e ∧ (∀ n, n ≠ m → (writeEntry m e s).entry n = s.entry n)
      ∧ (writeEntry m e s).stn = s.stn ∧ (writeEntry m e s).fault = s.fault ∧ (writeEntry m e s).pos = s.pos
      ∧ (s.isRole .head = true → (writeEntry m e s).lay = { s.lay with
          infeedLimit := min s.conf.infeedMax ((writeEntry m e s).entry s.neighbour).standing
          infeedRef := min s.lay.infeedRef (min s.conf.infeedMax ((writeEntry m e s).entry s.neighbour).standing) })
      ∧ (s.isRole .head = false → writeEntry m e s = { s with spd.table := (writeEntry m e s).spd.table }) := by
  set x := s.withEntry m e with hx
  have hwrite : writeEntry m e s = reformInfeed x := rfl
  have htable : (reformInfeed x).spd.table = x.spd.table := by
    unfold reformInfeed
    split
    · exact (congrArg (fun u : State => u.spd.table) (reformOwn_sansNotices _) :)
    · rfl
  have hentry : ∀ n, (reformInfeed x).entry n = x.entry n := entry_of_table htable
  have hlimit : min s.conf.infeedMax ((reformInfeed x).entry s.neighbour).standing = infeedLimitNow x := by
    rw [hentry]
    rfl
  rw [hwrite, hlimit]
  refine ⟨(hentry m).trans (entry_withEntry_same hm), fun n hn => (hentry n).trans (entry_withEntry_other hn), ?_, ?_, ?_, fun hhead => ?_,
    fun hother => ?_⟩
  · unfold reformInfeed
    split
    · rw [reformOwn_stn]; rfl
    · rfl
  · unfold reformInfeed
    split
    · rw [reformOwn_eq]; rfl
    · rfl
  · unfold reformInfeed
    split
    · rw [reformOwn_eq]; rfl
    · rfl
  · obtain ⟨hold, href⟩ := hlaw hhead
    unfold reformInfeed
    split
    · rw [reformOwn_lay]
      rfl
    · next hkept =>
      have hsame : infeedLimitNow x = s.lay.infeedLimit := by
        by_contra hne
        exact hkept ⟨hhead, hne⟩
      rw [hsame, Nat.min_eq_left href]
      rfl
  · have hkept : reformInfeed x = x := if_neg fun h => by
      have := h.1
      rw [show x.isRole .head = s.isRole .head from rfl, hother] at this
      exact nomatch this
    rw [hkept]
    rfl

/-- Settles O35: a CEILING and a lapse each write one entry. -/
theorem ceilingEntriesFollowNotices : Obligations.CeilingEntriesFollowNotices := by
  unfold Obligations.CeilingEntriesFollowNotices
  intro s hlaw
  refine ⟨fun sender p l m hsender hhears hparse => ?_, fun sender m k hentry => ?_⟩
  · have hnext : exec (.ceiling sender p) s = .next (writeEntry sender (.current m s.conf.ceilingHold) (dropLatch s)) := by
      have harm : exec (.ceiling sender p) s = execCeiling sender p s := rfl
      rw [harm, execCeiling, receive_of_hears hhears]
      simp only [hparse]
      rfl
    have hlaw' : (dropLatch s).infeedLawful := hlaw
    rw [hnext]
    exact ⟨_, rfl, writeEntry_rules (s := dropLatch s) (toNat_lt_of_ne_console hsender) hlaw'⟩
  · have hnext : exec (.lapseTimerExpiry sender) s = .next (writeEntry sender (.lapsed m) s) := by
      have harm : exec (.lapseTimerExpiry sender) s = execLapseTimerExpiry sender s := rfl
      rw [harm, execLapseTimerExpiry, hentry]
    rw [hnext]
    exact ⟨_, rfl, writeEntry_rules (toNat_lt_of_current hentry) hlaw⟩

end

end Sys2Proof.Machine
end

section
/-! PROOFS. O36, the ramp, the duties, the outputs and the inputs (R77 to R81, R165 to R168). -/

namespace Sys2Proof.Machine

section
variable {s t u : State}

/-! ## The ramp -/

theorem exec_ramp (h : s.spd.rampTimer.isSome = true) (hrole : s.role ≠ some .supply) :
    exec .rampTimerExpiry s = .next (stoppingEnd { s with spd.rampTimer := some 10, spd.fine := s.fineNext }) := by
  have harm : exec .rampTimerExpiry s = execRampTimerExpiry s := rfl
  rw [harm, execRampTimerExpiry, if_pos h]
  exact congrArg Host.Outcome.next (if_neg hrole)

theorem exec_ramp_supply (h : s.spd.rampTimer.isSome = true) (hrole : s.role = some .supply) : exec .rampTimerExpiry s = .next
    (if s.stn = .halted then { s with
        spd.rampTimer := some 10, spd.fine := s.fineNext, sup.unwindRef := s.fineNext / 100
        sup.brake := s.sup.brake || decide (s.fineNext / 100 = 0) }
      else { s with spd.rampTimer := some 10 }) := by
  have harm : exec .rampTimerExpiry s = execRampTimerExpiry s := rfl
  rw [harm, execRampTimerExpiry, if_pos h]
  exact congrArg Host.Outcome.next (if_pos hrole)

theorem stoppingEnd_moving (hrole : s.role ≠ some .supply) (h : s.stn ≠ .stopping ∨ s.spd.fine ≠ 0) : stoppingEnd s = s := by
  refine if_neg fun ⟨hstn, hrest⟩ => ?_
  rw [State.atRest, if_neg hrole, decide_eq_true_eq] at hrest
  exact h.elim (fun hne => hne hstn) (fun hne => hne hrest)

theorem stoppingEnd_resting (hrole : s.role ≠ some .supply) (hstn : s.stn = .stopping) (hfine : s.spd.fine = 0) :
    stoppingEnd s = enterReadyOrListen s := by
  refine if_pos ⟨hstn, ?_⟩
  rw [State.atRest, if_neg hrole, hfine]
  rfl

/-! ## The duties and the outputs -/

/-- What the outputs are handed at the start of a period. -/
def State.handed (s : State) : State :=
  { s with port.refDuty := Vector.ofFn fun i => s.refHanded i, port.valveDuty := Vector.ofFn fun i => s.valveHanded i }

theorem exec_pwm (s : State) : exec .pwmPeriodStart s = .next s.handed := rfl

theorem handed_refDuty {i : Nat} (hi : i < 3) : s.handed.port.refDuty[i]? = some (s.refHanded i) := by
  simp [State.handed, hi]

theorem handed_valveDuty {i : Nat} (hi : i < 4) : s.handed.port.valveDuty[i]? = some (s.valveHanded i) := by
  simp [State.handed, hi]

theorem refHanded_dead {i : Nat} (h : s.live = false) : s.refHanded i = 0 := by simp [State.refHanded, h]

theorem refHanded_third : s.refHanded 2 = 0 := by
  unfold State.refHanded
  split
  · rfl
  · split <;> first | rfl | contradiction

theorem refHanded_head (h : s.isRole .head = true) : s.refHanded 0 = dutyOf s.commanded s.conf.outfeedMax
    ∧ s.refHanded 1 = dutyOf s.lay.infeedRef s.conf.infeedMax := by
  obtain ⟨hlive, hrole⟩ := (isRole_iff s .head).mp h
  simp [State.refHanded, hlive, hrole]

theorem refHanded_setter (h : s.isRole .setter = true) : s.refHanded 0 = dutyOf s.commanded s.conf.outfeedMax ∧ s.refHanded 1 = 0 := by
  obtain ⟨hlive, hrole⟩ := (isRole_iff s .setter).mp h
  simp [State.refHanded, hlive, hrole]

theorem refHanded_supply (h : s.isRole .supply = true) : s.refHanded 0 = dutyOf s.sup.unwindRef s.conf.unwindMax ∧ s.refHanded 1 = 0 := by
  obtain ⟨hlive, hrole⟩ := (isRole_iff s .supply).mp h
  simp [State.refHanded, hlive, hrole]

theorem valveHanded_other {i : Nat} (h : s.isRole .setter = false) : s.valveHanded i = 0 := by simp [State.valveHanded, h]

theorem isRole_dead {r : Role} (h : s.live = false) : s.isRole r = false := by simp [State.isRole, h]

theorem handed_valves_off (h : s.isRole .setter = false) : s.handed.port.valveDuty = Vector.replicate 4 0 := by
  ext i hi
  simp [State.handed, valveHanded_other h]

theorem handed_refs_off (h : s.live = false) : s.handed.port.refDuty = Vector.replicate 3 0 := by
  ext i hi
  simp [State.handed, refHanded_dead h]

theorem output_dead {n : Nat} (h : s.live = false) : s.output n = false := by simp [State.output, h]

theorem output_above {n : Nat} (h : 5 ≤ n) : s.output n = false := by
  unfold State.output
  split
  · rfl
  · split <;> first | rfl | omega

/-! ## One run of samples -/

theorem takesRun_few {r : PinRun} (h : r.samples < 3) : s.takesRun r = false := by
  simp [State.takesRun, Config.inputSamples, Nat.not_le.mpr h]

theorem takesRun_dead {r : PinRun} (hlive : s.live = false) (h : r.input ≠ 8) : s.takesRun r = false := by
  simp [State.takesRun, hlive, h]

theorem takesRun_release {r : PinRun} (hn : 3 ≤ r.samples) (h : runActive r = false) (hlive : s.live = true ∨ r.input = 8) :
    s.takesRun r = true := by
  unfold State.takesRun
  split_ifs with h8
  · simp [Config.inputSamples, hn, h]
  · simp [Config.inputSamples, hn, h, hlive.resolve_right h8]

theorem takesRun_unused {r : PinRun} {role : Role} (hn : 3 ≤ r.samples) (hlive : s.live = true) (hrole : s.role = some role)
    (h8 : r.input ≠ 8) (hused : usesInput role r.input = false) : s.takesRun r = true := by
  simp [State.takesRun, Config.inputSamples, hn, hlive, hrole, h8, hused]

theorem takesRun_used {r : PinRun} {role : Role} (hrole : s.role = some role) (hactive : runActive r = true)
    (hused : usesInput role r.input = true) : s.takesRun r = false := by
  unfold State.takesRun
  split_ifs <;> simp [hrole, hactive, hused]

theorem takesRun_restart {r : PinRun} (hactive : runActive r = true) (h8 : r.input = 8) : s.takesRun r = false := by
  simp [State.takesRun, hactive, h8]

theorem samplePins_single (r : PinRun) (s : State) :
    samplePins [r] s = if s.takesRun r then { s with port := s.port.setInput (runActive r) r.input } else s := rfl

theorem samplePins_kept {r : PinRun} (h : s.takesRun r = false) : samplePins [r] s = s := by
  rw [samplePins_single, h]
  rfl

theorem samplePins_taken {r : PinRun} (h : s.takesRun r = true) :
    samplePins [r] s = { s with port := s.port.setInput (runActive r) r.input } := by
  rw [samplePins_single, h]
  rfl

/-- A level written is that of its input alone. -/
theorem input_setInput {n : Nat} (v : Bool) (hlow : 3 ≤ n) (hhigh : n ≤ 8) (k : Nat) :
    State.input { s with port := s.port.setInput v n } k = if k = n then v else s.input k := by
  have hcase : n = 3 ∨ n = 4 ∨ n = 5 ∨ n = 6 ∨ n = 7 ∨ n = 8 := by omega
  rcases hcase with rfl | rfl | rfl | rfl | rfl | rfl <;> unfold State.input <;> split <;> simp_all [Port.setInput]

/-- An input without a level of its own takes no write. -/
theorem setInput_none {p : Port} {v : Bool} {n : Nat} (h : n ≤ 2 ∨ 9 ≤ n) : p.setInput v n = p := by
  unfold Port.setInput
  split <;> first | rfl | omega

/-! ## The filtered level of a pin -/

theorem pinReadings_at {c : Instr} {n k : Nat} {v : Bool} (h : commandReadings c = readingsAt n v k) :
    pinReadings c n = List.replicate k (v == activeHigh n) := by
  simp [pinReadings, h, readingsAt, runReadings]

theorem pinReadings_rise {c : Instr} {n j k : Nat} (h : commandReadings c = riseReadings n ⟨j, k, []⟩) :
    pinReadings c n = List.replicate j (false == activeHigh n) ++ List.replicate k (true == activeHigh n) := by
  simp [pinReadings, h, riseReadings, readingsAt, runReadings]

theorem pin_of_steady {c : Instr} {n k : Nat} {v : Bool} (h : commandReadings c = readingsAt n v k)
    (hinput : t.input n = if 3 ≤ k then v else s.input n) : t.pin n = filterReadings (s.pin n) (pinReadings c n) := by
  have hruns := filterReadings_runs (s.pin n) (!(v == activeHigh n)) 0 k
  rw [Bool.not_not, List.replicate_zero, List.nil_append, if_neg (by decide : ¬3 ≤ 0)] at hruns
  rw [pinReadings_at h, hruns, State.pin, hinput]
  split <;> rfl

theorem pin_of_rise {c : Instr} {n j k : Nat} (h : commandReadings c = riseReadings n ⟨j, k, []⟩)
    (hinput : t.input n = levelAfter (s.input n) ⟨j, k, []⟩) : t.pin n = filterReadings (s.pin n) (pinReadings c n) := by
  have hflip : (true == activeHigh n) = !(false == activeHigh n) := by cases activeHigh n <;> rfl
  rw [pinReadings_rise h, hflip, filterReadings_runs, ← hflip, State.pin, hinput]
  by_cases hk : 3 ≤ k
  · rw [levelAfter_high (r := ⟨j, k, []⟩) hk, if_pos hk]
  · rw [if_neg hk]
    by_cases hj : 3 ≤ j
    · rw [levelAfter_low (r := ⟨j, k, []⟩) (Nat.lt_of_not_le hk) hj, if_pos hj]
    · rw [levelAfter_held (r := ⟨j, k, []⟩) (Nat.lt_of_not_le hk) (Nat.lt_of_not_le hj), if_neg hj]
      rfl

/-! ## What a command of an input leaves in the Field Port -/

theorem restartStation_input (s : State) (n : Nat) : (restartStation s).input n = s.input n := by
  have hport : (restartStation s).port = (restarted s).port := (congrArg (fun u : State => u.port) (restartStation_sansStart s) :)
  exact State.input_of_port (by rw [hport]; exact ⟨rfl, rfl, rfl, rfl, rfl, rfl, rfl, rfl⟩) n

theorem completeLoad_port (f : Final) (s : State) : (completeLoad f s).port = s.port := by
  unfold completeLoad
  split <;> rfl

theorem threadArm_port (n : ArmName) (s : State) : (threadArm n s).port = s.port := by
  unfold threadArm
  simp only
  split <;> simp only [handRollState_port, onArm_port]

theorem changeOver_port (s : State) : (changeOver s).port = s.port := by
  unfold changeOver
  split
  · simp only [onArm_port]
  · rfl

theorem setSplice_port (x : SpliceState) (s : State) : (setSplice x s).port = s.port := by
  unfold setSplice
  rw [handRollState_port, reformOwn_port]

theorem completeSplice_port (s : State) : (completeSplice s).port = s.port := by
  unfold completeSplice
  rw [setSplice_port]
  show (handRollState _).port = s.port
  rw [handRollState_port, changeOver_port, postLasting_port]

theorem input_congr (h : t.port = s.port) (n : Nat) : t.input n = s.input n :=
  State.input_of_port (by rw [h]; exact ⟨rfl, rfl, rfl, rfl, rfl, rfl, rfl, rfl⟩) n

theorem input_eStop {k : Nat} (hlive : s.live = true) (h : exec (.eStopBecomesActive k) s = .next t) :
    t.input 1 = if 3 ≤ k then true else s.input 1 := by
  have harm : exec (.eStopBecomesActive k) s = execEStopBecomesActive k s := rfl
  rw [harm, execEStopBecomesActive, Host.Outcome.next.injEq] at h
  subst h
  split_ifs with hrise hk hk
  · rw [input_congr (localCause_port _ _ _ _)]; rfl
  · exact absurd ((rises_iff _ _).mp hrise.2).2 hk
  · cases hlevel : s.port.eStop with
    | true => exact hlevel
    | false => exact absurd ⟨hlive, (rises_iff _ _).mpr ⟨.inl hlevel, hk⟩⟩ hrise
  · rfl

theorem input_eStop_released {k : Nat} (hlive : s.live = true) (h : exec (.eStopBecomesInactive k) s = .next t) :
    t.input 1 = if 3 ≤ k then false else s.input 1 := by
  have harm : exec (.eStopBecomesInactive k) s = execEStopBecomesInactive k s := rfl
  rw [harm, execEStopBecomesInactive, Host.Outcome.next.injEq] at h
  subst h
  split_ifs with hfall hk hk
  · rw [input_congr (haltedExit_port _)]; rfl
  · exact absurd ((falls_iff _ _).mp hfall.2).2 hk
  · cases hlevel : s.port.eStop with
    | false => exact hlevel
    | true => exact absurd ⟨hlive, (falls_iff _ _).mpr ⟨hlevel, hk⟩⟩ hfall
  · rfl

theorem input_webBreak {k : Nat} (hlive : s.live = true) (h : exec (.webBreakBecomesActive k) s = .next t) :
    t.input 2 = if 3 ≤ k then true else s.input 2 := by
  have harm : exec (.webBreakBecomesActive k) s = execWebBreakBecomesActive k s := rfl
  rw [harm, execWebBreakBecomesActive, Host.Outcome.next.injEq] at h
  subst h
  split_ifs with hrise hk hk
  · rw [input_congr (localCause_port _ _ _ _)]; rfl
  · exact absurd ((rises_iff _ _).mp hrise.2).2 hk
  · cases hlevel : s.port.webBreak with
    | true => exact hlevel
    | false => exact absurd ⟨hlive, (rises_iff _ _).mpr ⟨.inl hlevel, hk⟩⟩ hrise
  · rfl

theorem input_webBreak_released {k : Nat} (hlive : s.live = true) (h : exec (.webBreakBecomesInactive k) s = .next t) :
    t.input 2 = if 3 ≤ k then false else s.input 2 := by
  have harm : exec (.webBreakBecomesInactive k) s = execWebBreakBecomesInactive k s := rfl
  rw [harm, execWebBreakBecomesInactive, Host.Outcome.next.injEq] at h
  subst h
  split_ifs with hfall hk hk
  · rw [input_congr (haltedExit_port _)]; rfl
  · exact absurd ((falls_iff _ _).mp hfall.2).2 hk
  · cases hlevel : s.port.webBreak with
    | false => exact hlevel
    | true => exact absurd ⟨hlive, (falls_iff _ _).mpr ⟨hlevel, hk⟩⟩ hfall
  · rfl

theorem input_bladeHome {j k : Nat} (hrole : s.isRole .head = true) (h : exec (.bladeHomeBecomesActive ⟨j, k, []⟩) s = .next t) :
    t.input 3 = levelAfter (s.input 3) ⟨j, k, []⟩ := by
  have harm : exec (.bladeHomeBecomesActive ⟨j, k, []⟩) s = execBladeHomeBecomesActive ⟨j, k, []⟩ s := rfl
  rw [harm, execBladeHomeBecomesActive, Host.Outcome.next.injEq, samplePins_nil, if_pos hrole] at h
  subst h
  dsimp only
  split <;> rfl

theorem input_armReady {n : ArmName} {j k : Nat} (hrole : s.isRole .supply = true)
    (h : exec (.armReadyBecomesActive n ⟨j, k, []⟩) s = .next t) :
    t.input (readyInput n) = levelAfter (s.input (readyInput n)) ⟨j, k, []⟩ := by
  have harm : exec (.armReadyBecomesActive n ⟨j, k, []⟩) s = execArmReadyBecomesActive n ⟨j, k, []⟩ s := rfl
  have hport : t.port = (setArmReady n (levelAfter (s.armReady n) ⟨j, k, []⟩) s).port := by
    rw [harm, execArmReadyBecomesActive, Host.Outcome.next.injEq, samplePins_nil, if_pos hrole] at h
    subst h
    dsimp only
    split
    · rw [completeLoad_port, threadArm_port]
    · rfl
  rw [input_congr hport]
  cases n <;> rfl

theorem input_pressDone {j k : Nat} (hrole : s.isRole .supply = true) (h : exec (.pressDone ⟨j, k, []⟩) s = .next t) :
    t.input 5 = levelAfter (s.input 5) ⟨j, k, []⟩ := by
  have harm : exec (.pressDone ⟨j, k, []⟩) s = execPressDone ⟨j, k, []⟩ s := rfl
  have hport : t.port = { s.port with input5 := levelAfter s.port.input5 ⟨j, k, []⟩ } := by
    rw [harm, execPressDone, Host.Outcome.next.injEq, samplePins_nil, if_pos hrole] at h
    subst h
    split
    · exact completeSplice_port _
    · rfl
  show t.port.input5 = _
  rw [hport]
  rfl

theorem input_restart {j k : Nat} (h : exec (.restart ⟨j, k, []⟩) s = .next t) : t.input 8 = levelAfter (s.input 8) ⟨j, k, []⟩ := by
  rw [exec_restart, Host.Outcome.next.injEq] at h
  subst h
  split
  · rw [restartStation_input]
    rfl
  · rfl

/-! ## O36 -/

/-- Settles O36: the ramp, the duties, the outputs and the inputs' levels. -/
theorem rampAndDuties : Obligations.RampAndDuties := by
  unfold Obligations.RampAndDuties
  refine ⟨fun s goal fine htimer hgoal hfine => ?_, fun s => ?_, fun s => ?_, fun s u r hu => ?_, fun s u released n r rs c hc hu => ?_,
    fun s n => ⟨fun h => ?_, fun h => ?_⟩, fun r => ⟨fun h => ?_, fun h => ?_⟩, fun s t c n k j hlive hcommand hexec => ?_⟩
  · have hnext : s.fineNext = fine := by rw [hfine, hgoal]; rfl
    refine ⟨fun hrole hmoving => ?_, fun hrole hstn hzero he hw => ?_, fun hrole hstn => ?_, fun hrole hstn => ?_⟩
    · rw [exec_ramp htimer hrole, hnext]
      exact congrArg Host.Outcome.next (stoppingEnd_moving (s := { s with spd.rampTimer := some 10, spd.fine := fine }) hrole hmoving)
    · rw [exec_ramp htimer hrole, hnext,
        stoppingEnd_resting (s := { s with spd.rampTimer := some 10, spd.fine := fine }) hrole hstn hzero]
      obtain ⟨hend, -, -, -, hfineEnd, -⟩ :=
        enterReadyOrListen_fields (s := { s with spd.rampTimer := some 10, spd.fine := fine }) he hw
      exact ⟨_, rfl, hfineEnd.trans hzero, hend⟩
    · rw [exec_ramp_supply htimer hrole, if_pos hstn, hnext]
    · rw [exec_ramp_supply htimer hrole, if_neg hstn]
  · refine ⟨_, exec_pwm s, rfl, ?_, fun h => ⟨handed_refs_off h, handed_valves_off (isRole_dead h)⟩, fun h => ?_, fun h => ?_, fun h => ?_,
      handed_valves_off⟩
    · rw [handed_refDuty (by decide), refHanded_third]
    · rw [handed_refDuty (by decide), handed_refDuty (by decide), (refHanded_head h).1, (refHanded_head h).2]
      exact ⟨rfl, rfl⟩
    · rw [handed_refDuty (by decide), handed_refDuty (by decide), (refHanded_setter h).1, (refHanded_setter h).2]
      refine ⟨rfl, rfl, fun i z hi hz => ?_⟩
      rw [handed_valveDuty hi, State.valveHanded, if_pos h, hz]
      rfl
    · rw [handed_refDuty (by decide), handed_refDuty (by decide), (refHanded_supply h).1, (refHanded_supply h).2]
      exact ⟨rfl, rfl⟩
  · refine ⟨fun h => ?_, fun h => ?_, fun h => ?_, fun n h => output_above h, fun h n => output_dead h⟩
    all_goals
      obtain ⟨hlive, hrole⟩ := (isRole_iff s _).mp h
      unfold State.output
      rw [hlive, hrole]
    · exact ⟨rfl, rfl, rfl, rfl⟩
    · exact ⟨rfl, rfl, rfl, rfl⟩
    · exact ⟨rfl, rfl, rfl, rfl⟩
  · subst hu
    refine ⟨samplePins_eq _ _, samplePins_port _ _, fun h => samplePins_kept (takesRun_few h),
      fun hlive h => samplePins_kept (takesRun_dead hlive h), fun hn h8 hrun => ?_, fun hn hlive hlow hhigh hrun => ?_,
      fun hn hlive hrun hrole => ?_, fun hrun hused => ?_, fun h => ?_⟩
    · rw [samplePins_taken (takesRun_release hn hrun (.inr h8)), hrun, h8]
      rfl
    · rw [samplePins_taken (takesRun_release hn hrun (.inl hlive)), hrun]
      exact input_setInput false hlow (by omega)
    · obtain ⟨role, hr, hunused, hlow, hhigh⟩ : ∃ role, s.role = some role ∧ usesInput role r.input = false ∧ 3 ≤ r.input ∧ r.input ≤ 7 := by
        rcases hrole with ⟨hr, hlow, hhigh⟩ | ⟨hr, hlow, hhigh⟩ | ⟨hr, hlow, hhigh⟩
        all_goals
          refine ⟨_, hr, ?_, by omega, hhigh⟩
          have hcase : r.input = 3 ∨ r.input = 4 ∨ r.input = 5 ∨ r.input = 6 ∨ r.input = 7 := by omega
          rcases hcase with h | h | h | h | h <;> rw [h] at hlow ⊢ <;> first | rfl | omega
      rw [samplePins_taken (takesRun_unused hn hlive hr (by omega) hunused), hrun]
      exact input_setInput true hlow (by omega)
    · refine samplePins_kept ?_
      rcases hused with h8 | ⟨hr, hlow, hhigh⟩ | ⟨hr, h3⟩
      · exact takesRun_restart hrun h8
      · refine takesRun_used hr hrun ?_
        have hcase : r.input = 3 ∨ r.input = 4 ∨ r.input = 5 := by omega
        rcases hcase with h | h | h <;> rw [h] <;> rfl
      · exact takesRun_used hr hrun (by rw [h3]; rfl)
    · rw [samplePins_single, setInput_none h]
      exact ite_self s
  · subst hu
    rcases hc with rfl | rfl | rfl | ⟨arm, rfl⟩ <;> rfl
  · simp [State.pin, activeHigh, h]
  · have hne : ¬(n = 1 ∨ n = 2) := by omega
    simp [State.pin, activeHigh, hne]
  · simp [runActive, isActive, activeHigh, h]
  · have hne : ¬(r.input = 1 ∨ r.input = 2) := by omega
    simp [runActive, isActive, activeHigh, hne]
  · rcases hcommand with ⟨rfl, rfl | rfl⟩ | ⟨rfl, rfl | rfl⟩ | ⟨rfl, hrole, rfl⟩
      | ⟨hrole, ⟨rfl, rfl⟩ | ⟨rfl, rfl⟩ | ⟨rfl, rfl⟩⟩ | ⟨rfl, rfl⟩
    · exact pin_of_steady rfl (input_eStop (by simpa using hlive) hexec)
    · exact pin_of_steady rfl (input_eStop_released (by simpa using hlive) hexec)
    · exact pin_of_steady rfl (input_webBreak (by simpa using hlive) hexec)
    · exact pin_of_steady rfl (input_webBreak_released (by simpa using hlive) hexec)
    · exact pin_of_rise rfl (input_bladeHome ((isRole_iff s .head).mpr ⟨by simpa using hlive, hrole⟩) hexec)
    · exact pin_of_rise rfl (input_armReady (n := .a) ((isRole_iff s .supply).mpr ⟨by simpa using hlive, hrole⟩) hexec)
    · exact pin_of_rise rfl (input_armReady (n := .b) ((isRole_iff s .supply).mpr ⟨by simpa using hlive, hrole⟩) hexec)
    · exact pin_of_rise rfl (input_pressDone ((isRole_iff s .supply).mpr ⟨by simpa using hlive, hrole⟩) hexec)
    · exact pin_of_rise rfl (input_restart hexec)

end

end Sys2Proof.Machine
end

section
/-! PROOFS. O37 and O39, PATTERN BLOCK (R88, R89) and PATTERN CLEAR (R95). -/

namespace Sys2Proof.Machine

section
variable {s : State}

/-! ## A pattern request leaves one slot and one answer -/

/-- A slot number beyond the sixteen slots too reads what it did. -/
theorem slot_putSlot_other {n k : Nat} {sl : Slot} (h : k ≠ n) : (putSlot n sl s).slot k = s.slot k := by
  unfold putSlot State.slot
  simp [Vector.getElem?_setIfInBounds_ne (Ne.symm h)]

/-- A slot written and an answer given, after the frame's latch is gone. -/
theorem answer_putSlot_rules (s : State) (sender : Station) (id : Byte) (code : ReqCode) (f : Final) (sl : Slot) {n : Nat} (hn : n < 16) :
    let t := answer sender id code f (putSlot n sl (dropLatch s))
    t = { s with link.latch := none, slots := t.slots, msg := t.msg } ∧ s.msg.answersOnly t.msg
      ∧ (∀ k, k ≠ n → t.slot k = s.slot k) ∧ t.slot n = sl ∧ t.msg.gives ⟨sender, id, code, f⟩ := by
  refine ⟨rfl, finish_answersOnly _ _, fun k hk => slot_putSlot_other (s := dropLatch s) hk, ?_, finish_gives _ _⟩
  exact (slot_putSlot (dropLatch s) n sl hn).trans (if_pos rfl)

theorem locked_iff {sl : Slot} : sl.locked = true ↔ sl.state = .ready ∧ 0 < sl.inUse := by simp [Slot.locked]

/-! ## PATTERN BLOCK -/

theorem block_of_locked {sl : Slot} {i : Nat} {r1 : StepRec} {r2 : Option StepRec} (h : sl.state = .ready ∧ 0 < sl.inUse) :
    sl.block i r1 r2 = (refused .inUse, sl) := if_pos (locked_iff.mpr h)

theorem block_of_badStep {sl : Slot} {i : Nat} {r1 : StepRec} {r2 : Option StepRec} (h : ¬(sl.state = .ready ∧ 0 < sl.inUse))
    (hstep : 48 ≤ i + (if r2.isSome then 1 else 0)) : sl.block i r1 r2 = (refused .badStep, sl) := by
  unfold Slot.block
  rw [if_neg (fun hl => h (locked_iff.mp hl)), if_pos hstep]

theorem block_of_fits {sl : Slot} {i : Nat} {r1 : StepRec} {r2 : Option StepRec} (h : ¬(sl.state = .ready ∧ 0 < sl.inUse))
    (hstep : i + (if r2.isSome then 1 else 0) ≤ 47) : sl.block i r1 r2 = (done, sl.load i r1 r2) := by
  unfold Slot.block
  rw [if_neg (fun hl => h (locked_iff.mp hl)), if_neg (by show ¬48 ≤ _; omega)]

theorem write_places_same {sl : Slot} {i : Nat} {r : StepRec} (h : i < 48) : (sl.write i r).places[i]? = some ⟨true, r⟩ := by
  simp [Slot.write, h]

theorem write_places_other {sl : Slot} {i k : Nat} {r : StepRec} (h : k ≠ i) : (sl.write i r).places[k]? = sl.places[k]? := by
  simp [Slot.write, Vector.getElem?_setIfInBounds_ne (Ne.symm h)]

/-- The places after a load: the first record, the second after it, and no other. -/
theorem load_places {sl : Slot} {i : Nat} {r1 : StepRec} {r2 : Option StepRec} (h : i + (if r2.isSome then 1 else 0) ≤ 47) :
    sl.load i r1 r2 = { sl with state := .loading, places := (sl.load i r1 r2).places }
      ∧ (sl.load i r1 r2).places[i]? = some ⟨true, r1⟩ ∧ (∀ x, r2 = some x → (sl.load i r1 r2).places[i + 1]? = some ⟨true, x⟩)
      ∧ (∀ k, k ≠ i → (r2.isSome = true → k ≠ i + 1) → (sl.load i r1 r2).places[k]? = sl.places[k]?) := by
  cases r2 with
  | none =>
    have hi : i < 48 := by simp at h; omega
    exact ⟨rfl, write_places_same hi, fun x hx => absurd hx (by simp), fun k hk _ => write_places_other hk⟩
  | some x =>
    have hi : i + 1 < 48 := by simp at h; omega
    refine ⟨rfl, ?_, fun y hy => ?_, fun k hk hk' => ?_⟩
    · exact (write_places_other (by omega)).trans (write_places_same (by omega))
    · cases hy
      exact write_places_same hi
    · exact (write_places_other (hk' rfl)).trans (write_places_other hk)

theorem exec_patternBlock {sender : Station} {p : List Byte} {r : RequestIn} {pat first : Byte} {r1 : StepRec} {r2 : Option StepRec}
    (hasked : s.asked .patternBlock sender p r) (hserves : s.serves .patternBlock sender r)
    (hbody : r.body = .patternBlock pat first r1 r2) :
    exec (.patternBlock sender p) s = .next (answer sender r.id .patternBlock ((s.slot (slotNumber pat)).block first.toNat r1 r2).1
      (putSlot (slotNumber pat) ((s.slot (slotNumber pat)).block first.toNat r1 r2).2 (dropLatch s))) := by
  have harm : exec (.patternBlock sender p) s = execPatternBlock sender p s := rfl
  rw [harm, execPatternBlock, receiveRequest_of_serves hasked hserves, hbody]
  rfl

/-- Settles O37: PATTERN BLOCK writes its records, or refuses and writes none. -/
theorem patternBlockWritesSteps : Obligations.PatternBlockWritesSteps := by
  unfold Obligations.PatternBlockWritesSteps
  intro s sender p r pat first r1 r2 n hasked hserves hbody hn
  have hslot : slotNumber pat = n := hn.symm
  rw [exec_patternBlock hasked hserves hbody, hslot]
  obtain ⟨heq, honly, hothers, hsame, hgives⟩ := answer_putSlot_rules s sender r.id .patternBlock ((s.slot n).block first.toNat r1 r2).1
    ((s.slot n).block first.toNat r1 r2).2 (hn ▸ slotNumber_lt pat : n < 16)
  refine ⟨_, rfl, heq, honly, hothers, fun hready huse => ?_, fun hfree hbad => ?_, fun hfree hfits => ?_⟩
  · rw [block_of_locked ⟨hready, huse⟩] at hsame hgives ⊢
    exact ⟨hsame, hgives⟩
  · have hstep : 48 ≤ first.toNat + (if r2.isSome then 1 else 0) := by
      rcases hbad with h | ⟨hsome, h⟩
      · omega
      · rw [if_pos hsome]; omega
    rw [block_of_badStep hfree hstep] at hsame hgives ⊢
    exact ⟨hsame, hgives⟩
  · obtain ⟨hload, hfirst, hsecond, hrest⟩ := load_places (sl := s.slot n) (r1 := r1) hfits
    rw [block_of_fits hfree hfits] at hsame hgives ⊢
    rw [hsame]
    exact ⟨hload, hfirst, hsecond, hrest, hgives⟩

/-! ## PATTERN CLEAR -/

theorem exec_patternClear {sender : Station} {p : List Byte} {r : RequestIn} {pat : Byte}
    (hasked : s.asked .patternClear sender p r) (hserves : s.serves .patternClear sender r) (hbody : r.body = .patternClear pat) :
    exec (.patternClear sender p) s = .next (answer sender r.id .patternClear (s.slot (slotNumber pat)).clear.1
      (putSlot (slotNumber pat) (s.slot (slotNumber pat)).clear.2 (dropLatch s))) := by
  have harm : exec (.patternClear sender p) s = execPatternClear sender p s := rfl
  rw [harm, execPatternClear, receiveRequest_of_serves hasked hserves, hbody]
  rfl

theorem clear_of_free {sl : Slot} (h : sl.inUse = 0) : sl.clear = (done, Slot.blank) := if_pos h

theorem clear_of_inUse {sl : Slot} (h : 0 < sl.inUse) : sl.clear = (refused .inUse, sl) := if_neg (Nat.ne_of_gt h)

/-- Settles O39: PATTERN CLEAR blanks a slot that is not in use. -/
theorem patternClearEmptiesTheSlot : Obligations.PatternClearEmptiesTheSlot := by
  unfold Obligations.PatternClearEmptiesTheSlot
  intro s sender p r pat n hasked hserves hbody hn
  have hslot : slotNumber pat = n := hn.symm
  rw [exec_patternClear hasked hserves hbody, hslot]
  obtain ⟨heq, honly, hothers, hsame, hgives⟩ := answer_putSlot_rules s sender r.id .patternClear (s.slot n).clear.1 (s.slot n).clear.2
    (hn ▸ slotNumber_lt pat : n < 16)
  refine ⟨_, rfl, heq, honly, hothers, fun hfree => ?_, fun huse => ?_⟩
  · rw [clear_of_free hfree] at hsame hgives ⊢
    rw [hsame]
    refine ⟨rfl, rfl, rfl, fun i hi => ?_, rfl, rfl, rfl, hgives⟩
    simp only [Slot.blank, Vector.getElem?_replicate]
    exact if_pos hi
  · rw [clear_of_inUse huse] at hsame hgives ⊢
    exact ⟨hsame, hgives⟩

end

end Sys2Proof.Machine
end

section
/-! PROOFS. O38, PATTERN COMMIT and its five checks (R90 to R94). -/

namespace Sys2Proof.Machine

section
variable {s : State}

/-! ## The steps of a pattern, added up -/

theorem pleatedLength_take_le {rs : List StepRec} {i j : Nat} (h : i ≤ j) (g : Nat) :
    pleatedLength (rs.take i) g ≤ pleatedLength (rs.take j) g :=
  (((List.take_prefix_take_left h).sublist).map _).sum_le_sum (by simp)

theorem flatLength_take_le {rs : List StepRec} {i j : Nat} (h : i ≤ j) (g : Nat) :
    flatLength (rs.take i) g ≤ flatLength (rs.take j) g :=
  (((List.take_prefix_take_left h).sublist).map _).sum_le_sum (by simp)

theorem lengthsOk_iff {rs : List StepRec} :
    lengthsOk rs = true ↔ ∀ g, g < 8 → pleatedLength rs g ≤ 1000000 ∧ flatLength rs g ≤ 4000000 := by
  simp [lengthsOk, grades]

/-- A step at which a sum exceeds its limit. -/
theorem not_lengthsOk_iff {rs : List StepRec} :
    (!lengthsOk rs) = true ↔ ∃ g, g < 8 ∧ (1000000 < pleatedLength rs g ∨ 4000000 < flatLength rs g) := by
  rw [Bool.not_eq_true', ← Bool.not_eq_true, lengthsOk_iff]
  push Not
  refine exists_congr fun g => and_congr_right fun _ => ?_
  rw [imp_iff_not_or, Nat.not_le]

/-- Steps that stay within the lengths do so up to every earlier step (R93). -/
theorem lengthsOk_take {rs : List StepRec} {i j : Nat} (h : i ≤ j) (hok : lengthsOk (rs.take j) = true) : lengthsOk (rs.take i) = true := by
  rw [lengthsOk_iff] at hok ⊢
  intro g hg
  obtain ⟨hp, hf⟩ := hok g hg
  exact ⟨(pleatedLength_take_le h g).trans hp, (flatLength_take_le h g).trans hf⟩

/-- The step at which a sum first exceeds its limit: the sums stay within before it (log 13). -/
theorem overlong_iff {rs : List StepRec} {count i : Nat} :
    (List.range count).find? (fun i => !lengthsOk (rs.take (i + 1))) = some i ↔
      i < count ∧ (!lengthsOk (rs.take (i + 1))) = true ∧ lengthsOk (rs.take i) = true := by
  rw [List.find?_range_eq_some]
  constructor
  · rintro ⟨hover, hi, hbefore⟩
    refine ⟨List.mem_range.mp hi, hover, ?_⟩
    cases i with
    | zero => rw [lengthsOk_iff]; intro g hg; exact ⟨by simp [pleatedLength], by simp [flatLength]⟩
    | succ k => simpa using hbefore k (Nat.lt_succ_self k)
  · rintro ⟨hi, hover, hbefore⟩
    exact ⟨hover, List.mem_range.mpr hi, fun j hj => by rw [lengthsOk_take hj hbefore]; rfl⟩

theorem overlong_eq_none_iff {rs : List StepRec} {count : Nat} (hlen : rs.length = count) :
    (List.range count).find? (fun i => !lengthsOk (rs.take (i + 1))) = none ↔ lengthsOk rs = true := by
  rw [List.find?_range_eq_none]
  constructor
  · intro h
    cases count with
    | zero => rw [List.length_eq_zero_iff.mp hlen, lengthsOk_iff]; intro g hg; exact ⟨by simp [pleatedLength], by simp [flatLength]⟩
    | succ k => simpa [← hlen] using h k (Nat.lt_succ_self k)
  · intro h j _
    have hall : lengthsOk (rs.take count) = true := by rw [← hlen, List.take_length]; exact h
    simp only [Bool.not_not]
    by_cases hj : j + 1 ≤ count
    · exact lengthsOk_take hj hall
    · rw [List.take_of_length_le (by omega)]
      exact h

/-! ## The five checks, in order -/

/-- The first place of a pattern that is not written. -/
def Slot.unwritten (sl : Slot) (count : Nat) : Option Nat := (sl.places.toList.take count).findIdx? (fun p => !p.written)

section
variable {sl : Slot} {count : Nat}

theorem taken_eq_some_iff {j : Nat} {x : StepPlace} :
    (sl.places.toList.take count)[j]? = some x ↔ j < count ∧ sl.places[j]? = some x := by
  rw [List.getElem?_take]
  split_ifs with h
  · simp [h]
  · simp [h]

theorem unwritten_eq_some_iff {i : Nat} : sl.unwritten count = some i ↔
    i < count ∧ (∃ x, sl.places[i]? = some x ∧ x.written = false) ∧ ∀ j, j < i → ∀ x, sl.places[j]? = some x → x.written = true := by
  rw [Slot.unwritten, List.findIdx?_eq_some_iff_getElem]
  constructor
  · rintro ⟨hi, hx, hbefore⟩
    obtain ⟨hlt, hget⟩ := taken_eq_some_iff.mp (List.getElem?_eq_getElem hi)
    refine ⟨hlt, ⟨_, hget, by simpa using hx⟩, fun j hj x hxj => ?_⟩
    have hj' := hbefore j hj
    obtain ⟨-, hgetj⟩ := taken_eq_some_iff.mp (List.getElem?_eq_getElem (hj.trans hi))
    rw [hxj, Option.some.injEq] at hgetj
    simpa [hgetj] using hj'
  · rintro ⟨hlt, ⟨x, hx, hwritten⟩, hbefore⟩
    have hget := taken_eq_some_iff.mpr ⟨hlt, hx⟩
    obtain ⟨hi, hxi⟩ := List.getElem?_eq_some_iff.mp hget
    refine ⟨hi, by rw [hxi, hwritten]; rfl, fun j hj => ?_⟩
    obtain ⟨-, hgetj⟩ := taken_eq_some_iff.mp (List.getElem?_eq_getElem (hj.trans hi))
    rw [hbefore j hj _ hgetj]
    decide

theorem unwritten_eq_none (h : ∀ j, j < count → ∀ x, sl.places[j]? = some x → x.written = true) : sl.unwritten count = none := by
  rw [Slot.unwritten, List.findIdx?_eq_none_iff]
  intro x hx
  obtain ⟨j, hj⟩ := List.getElem?_of_mem hx
  obtain ⟨hlt, hget⟩ := taken_eq_some_iff.mp hj
  rw [h j hlt x hget]
  rfl

theorem findIdx_of_all {f : StepRec → Bool} {rs : List StepRec} (h : rs.all f = true) : rs.findIdx? (fun r => !f r) = none := by
  rw [List.findIdx?_eq_none_iff]
  intro x hx
  rw [List.all_eq_true.mp h x hx]
  rfl

theorem records_length (h : count ≤ 48) : (sl.records count).length = count := by simp [Slot.records, h]

theorem failure_of_count (h : count = 0 ∨ 48 < count) : sl.failure count = some (255, 1) := if_pos h

section
variable (hcount : ¬(count = 0 ∨ 48 < count))
include hcount

/-- The checks of a count from 1 to 48, one after another (R90). -/
theorem failure_eq : sl.failure count =
    ((sl.unwritten count).map fun i => (i, 1)).or ((((sl.records count).findIdx? (fun r => !r.fieldsOk)).map fun i => (i, 2)).or
      ((((sl.records count).findIdx? (fun r => !r.pitchesOk)).map fun i => (i, 3)).or
        ((((sl.records count).findIdx? (fun r => !r.fits)).map fun i => (i, 4)).or
          (((List.range count).find? fun i => !lengthsOk ((sl.records count).take (i + 1))).map fun i => (i, 5))))) := by
  unfold Slot.failure
  rw [if_neg (by exact hcount)]
  show _ = (((sl.places.toList.take count).findIdx? fun p => !p.written).map _).or _
  dsimp only
  cases (sl.places.toList.take count).findIdx? fun p => !p.written with
  | some i => rfl
  | none =>
    cases (sl.records count).findIdx? fun r => !r.fieldsOk with
    | some i => rfl
    | none =>
      cases (sl.records count).findIdx? fun r => !r.pitchesOk with
      | some i => rfl
      | none =>
        cases (sl.records count).findIdx? fun r => !r.fits with
        | some i => rfl
        | none => cases (List.range count).find? fun i => !lengthsOk ((sl.records count).take (i + 1)) <;> rfl

end

/-- The check that fails first is named by its cause. -/
theorem or_cause_iff {a : Option Nat} {rest : Option (Nat × Nat)} {c i : Nat} (h : ∀ j, rest ≠ some (j, c)) :
    (a.map fun i => (i, c)).or rest = some (i, c) ↔ a = some i := by
  cases a with
  | some j => simp
  | none => simp [h]

theorem or_cause_ne {a : Option Nat} {rest : Option (Nat × Nat)} {b c : Nat} (hne : b ≠ c) (h : ∀ j, rest ≠ some (j, c)) (j : Nat) :
    (a.map fun i => (i, b)).or rest ≠ some (j, c) := by
  cases a with
  | some k => simp [hne]
  | none => simpa using h j

theorem map_cause_ne {a : Option Nat} {b c : Nat} (hne : b ≠ c) (j : Nat) : (a.map fun i => (i, b)) ≠ some (j, c) := by
  cases a <;> simp [hne]

end

/-! ## PATTERN COMMIT -/

theorem exec_patternCommit {sender : Station} {p : List Byte} {r : RequestIn} {pat count : Byte}
    (hasked : s.asked .patternCommit sender p r) (hserves : s.serves .patternCommit sender r)
    (hbody : r.body = .patternCommit pat count) :
    exec (.patternCommit sender p) s = .next (answer sender r.id .patternCommit ((s.slot (slotNumber pat)).commit count.toNat).1
      (putSlot (slotNumber pat) ((s.slot (slotNumber pat)).commit count.toNat).2 (dropLatch s))) := by
  have harm : exec (.patternCommit sender p) s = execPatternCommit sender p s := rfl
  rw [harm, execPatternCommit, receiveRequest_of_serves hasked hserves, hbody]
  rfl

theorem commit_of_locked {sl : Slot} {count : Nat} (h : sl.state = .ready ∧ 0 < sl.inUse) : sl.commit count = (refused .inUse, sl) :=
  if_pos (locked_iff.mpr h)

theorem commit_of_failure {sl : Slot} {count i cause : Nat} (h : ¬(sl.state = .ready ∧ 0 < sl.inUse))
    (hfail : sl.failure count = some (i, cause)) :
    sl.commit count = (.refused .patternInvalid (BitVec.ofNat 8 i) (BitVec.ofNat 8 cause), sl) := by
  unfold Slot.commit
  rw [if_neg (fun hl => h (locked_iff.mp hl)), hfail]

theorem commit_of_passes {sl : Slot} {count : Nat} (h : ¬(sl.state = .ready ∧ 0 < sl.inUse)) (hpass : sl.failure count = none) :
    sl.commit count = (done, sl.ready count) := by
  unfold Slot.commit
  rw [if_neg (fun hl => h (locked_iff.mp hl)), hpass]

/-- The derived table of a committed slot at a grade (R94, R98). -/
theorem ready_geoms {sl : Slot} {count g : Nat} (hg : g < 8) : (sl.ready count).geoms g = (sl.records count).map (·.geom g) := by
  simp [Slot.geoms, Slot.ready, grades, hg]

/-! ## One step record -/

theorem foldOf_eq_flat {r : StepRec} (h : r.fold = 0) : foldOf r.fold = some .flat := by rw [h]; rfl
theorem foldOf_eq_knife {r : StepRec} (h : r.fold = 1) : foldOf r.fold = some .knife := by rw [h]; rfl
theorem foldOf_eq_box {r : StepRec} (h : r.fold = 2) : foldOf r.fold = some .box := by rw [h]; rfl

theorem foldOf_eq_none {b : Byte} (h0 : b ≠ 0) (h1 : b ≠ 1) (h2 : b ≠ 2) : foldOf b = none := by
  have key : ∀ n : Byte, b ≠ n → b.toNat ≠ n.toNat := fun n hn h => hn (BitVec.eq_of_toNat_eq h)
  have h0 := key 0 h0
  have h1 := key 1 h1
  have h2 := key 2 h2
  unfold foldOf
  split <;> simp_all

theorem within_iff {lo hi n : Nat} : within lo hi n = true ↔ lo ≤ n ∧ n ≤ hi := by simp [within]

theorem fieldsOk_iff {r : StepRec} : r.fieldsOk = true ↔
    -500 ≤ r.increment.toInt ∧ r.increment.toInt ≤ 500 ∧ r.repeats ≠ 0
      ∧ ((r.fold = 0 ∧ 100 ≤ r.pitch.toNat ∧ r.pitch.toNat ≤ 50000 ∧ r.depth = 0)
        ∨ (((r.fold = 1 ∧ (r.direction = 1 ∨ r.direction = 2)) ∨ r.fold = 2)
            ∧ 100 ≤ r.pitch.toNat ∧ r.pitch.toNat ≤ 5000 ∧ 100 ≤ r.depth.toNat ∧ r.depth.toNat ≤ 4000)) := by
  unfold StepRec.fieldsOk
  by_cases h0 : r.fold = 0
  · rw [foldOf_eq_flat h0]
    simp [h0, within_iff, Fold.maxPitch]
    tauto
  · by_cases h1 : r.fold = 1
    · rw [foldOf_eq_knife h1]
      simp [h1, within_iff, Fold.maxPitch]
      tauto
    · by_cases h2 : r.fold = 2
      · rw [foldOf_eq_box h2]
        simp [h2, within_iff, Fold.maxPitch]
        tauto
      · rw [foldOf_eq_none h0 h1 h2]
        refine iff_of_false (by simp) ?_
        rintro ⟨-, -, -, ⟨h, -⟩ | ⟨⟨h, -⟩ | h, -⟩⟩
        · exact h0 h
        · exact h1 h
        · exact h2 h

theorem pitchesOk_iff {r : StepRec} {f : Fold} (h : foldOf r.fold = some f) :
    r.pitchesOk = true ↔ ∀ g, g < 8 → pitchOk f (r.pitchAt g) = true := by
  simp [StepRec.pitchesOk, StepRec.theFold, grades, h]

theorem fits_iff {r : StepRec} {f : Fold} (h : foldOf r.fold = some f) :
    r.fits = true ↔ ∀ g, g < 8 → (f.factor : Int) * (r.depth.toNat : Int) ≤ 7 * r.pitchAt g := by
  simp [StepRec.fits, StepRec.theFold, grades, h]

theorem theFold_eq {r : StepRec} {f : Fold} (h : foldOf r.fold = some f) : r.theFold = f := by
  rw [StepRec.theFold, h]
  rfl

theorem pitchOk_iff {f : Fold} {p : Int} :
    pitchOk f p = true ↔ 100 ≤ p ∧ p ≤ (f.maxPitch : Int) ∧ (f = .box → p % 2 = 0) := by
  cases f <;> simp [pitchOk, and_assoc]

/-- Settles O38: PATTERN COMMIT makes its five checks in order and derives the step table. -/
theorem patternCommitIsChecked : Obligations.PatternCommitIsChecked := by
  unfold Obligations.PatternCommitIsChecked
  refine ⟨fun s sender p r pat count n rs hasked hserves hbody hn hrs => ?_, fun sl count rs hrs => ⟨failure_of_count, fun hlow hhigh => ?_⟩,
    fun r => ⟨fieldsOk_iff, fun g => rfl, fun h => ?_, fun h => ?_, fun h => ?_⟩⟩
  · have hslot : slotNumber pat = n := hn.symm
    rw [exec_patternCommit hasked hserves hbody, hslot]
    obtain ⟨heq, honly, hothers, hsame, hgives⟩ := answer_putSlot_rules s sender r.id .patternCommit ((s.slot n).commit count.toNat).1
      ((s.slot n).commit count.toNat).2 (hn ▸ slotNumber_lt pat : n < 16)
    refine ⟨_, rfl, heq, honly, hothers, fun hready huse => ?_, fun hfree i cause hfail => ?_, fun hfree hpass => ?_⟩
    · rw [commit_of_locked ⟨hready, huse⟩] at hsame hgives ⊢
      exact ⟨hsame, hgives⟩
    · rw [commit_of_failure hfree hfail] at hsame hgives ⊢
      exact ⟨hsame, hgives⟩
    · rw [commit_of_passes hfree hpass] at hsame hgives ⊢
      have hrecords : (s.slot n).records count.toNat = rs := hrs.symm
      rw [hsame]
      refine ⟨rfl, rfl, rfl, rfl, fun g hg => ⟨?_, ?_, ?_⟩, hgives⟩
      · simp [Slot.ready, grades, hg, hrecords]
        rfl
      · simp [Slot.ready, grades, hg, hrecords]
        rfl
      · rw [ready_geoms hg, hrecords]
        rfl
  · have hcount : ¬(count = 0 ∨ 48 < count) := by omega
    have hrecords : sl.records count = rs := hrs.symm
    have hlen : rs.length = count := hrecords ▸ records_length hhigh
    rw [failure_eq hcount, hrecords]
    refine ⟨fun i => ?_, fun hwritten => ⟨fun i => ?_, fun hfields => ⟨fun i => ?_, fun hpitches => ⟨fun i => ?_, fun hfits => ?_⟩⟩⟩⟩
    · rw [or_cause_iff, unwritten_eq_some_iff]
      exact or_cause_ne (by decide) (or_cause_ne (by decide) (or_cause_ne (by decide) (map_cause_ne (by decide))))
    · rw [unwritten_eq_none hwritten]
      exact or_cause_iff (or_cause_ne (by decide) (or_cause_ne (by decide) (map_cause_ne (by decide))))
    · rw [unwritten_eq_none hwritten, findIdx_of_all hfields]
      exact or_cause_iff (or_cause_ne (by decide) (map_cause_ne (by decide)))
    · rw [unwritten_eq_none hwritten, findIdx_of_all hfields, findIdx_of_all hpitches]
      exact or_cause_iff (map_cause_ne (by decide))
    · rw [unwritten_eq_none hwritten, findIdx_of_all hfields, findIdx_of_all hpitches, findIdx_of_all hfits]
      simp only [Option.map_none, Option.none_or, Option.map_eq_none_iff, Option.map_eq_some_iff, Prod.mk.injEq, and_true, exists_eq_right]
      refine ⟨(overlong_eq_none_iff hlen).trans lengthsOk_iff, fun i => ?_, ?_⟩
      · rw [overlong_iff, not_lengthsOk_iff, lengthsOk_iff]
      · exact Option.eq_none_or_eq_some _
  · have hf := foldOf_eq_flat h
    rw [theFold_eq hf]
    refine ⟨rfl, rfl, ?_, fun hp => ?_⟩
    · rw [pitchesOk_iff hf]
      simp [pitchOk_iff, Fold.maxPitch]
    · rw [pitchesOk_iff hf] at hp
      rw [fits_iff hf]
      intro g hg
      have hlow := (pitchOk_iff.mp (hp g hg)).1
      simp only [Fold.factor]
      omega
  · have hf := foldOf_eq_knife h
    rw [theFold_eq hf]
    refine ⟨rfl, rfl, ?_, fits_iff hf⟩
    rw [pitchesOk_iff hf]
    simp [pitchOk_iff, Fold.maxPitch]
  · have hf := foldOf_eq_box h
    rw [theFold_eq hf]
    refine ⟨rfl, rfl, ?_, fits_iff hf⟩
    rw [pitchesOk_iff hf]
    simp [pitchOk_iff, Fold.maxPitch]

end

end Sys2Proof.Machine
end

section
/-! PROOFS. O44, the commit rule (R112, R113). -/

namespace Sys2Proof.Machine

section
variable {s : State}

/-! ## Re-forming the own ceiling -/

/-- It changes no entry of the delayed answer table. -/
theorem reformOwn_delayed (s : State) : (reformOwn s).msg.delayed = s.msg.delayed := by
  obtain ⟨-, hdelayed, -, -⟩ := supersede_frame s.msg (.ceiling (ceilingNow (setOwn s)))
  unfold reformOwn
  simp only
  split
  · exact hdelayed
  · rfl

theorem reformOwn_pos (s : State) : (reformOwn s).pos = s.pos := by rw [reformOwn_eq]
theorem reformOwn_slots (s : State) : (reformOwn s).slots = s.slots := by rw [reformOwn_eq]

/-! ## An item that becomes NEXT (R112) -/

/-- The item and its watch, the own ceiling not yet taken anew. -/
def State.withNext (item : Item) (start : Word) (s : State) : State :=
  { s with lay.next := some ⟨item, start⟩, pos.watches := s.pos.watches ++ [⟨.flat, start, .itemStart⟩] }

theorem commitAt_eq (item : Item) (start : Word) (s : State) : commitAt item start s = reformOwn (s.withNext item start) := rfl

theorem commitAt_lay (item : Item) (start : Word) (s : State) : (commitAt item start s).lay = { s.lay with next := some ⟨item, start⟩ } := by
  rw [commitAt_eq, reformOwn_lay]
  rfl

theorem commitAt_pos (item : Item) (start : Word) (s : State) :
    (commitAt item start s).pos = { s.pos with watches := s.pos.watches ++ [⟨.flat, start, .itemStart⟩] } := by
  rw [commitAt_eq, reformOwn_pos]
  rfl

theorem commitAt_slots (item : Item) (start : Word) (s : State) : (commitAt item start s).slots = s.slots := by
  rw [commitAt_eq, reformOwn_slots]
  rfl

theorem commitAt_delayed (item : Item) (start : Word) (s : State) : (commitAt item start s).msg.delayed = s.msg.delayed := by
  rw [commitAt_eq, reformOwn_delayed]
  rfl

/-- Of two positions, one ahead of the other, the other is behind it (R57). -/
theorem sdiff_neg_of_ahead {a b : Word} (h : ahead a b = true) : sdiff b a < 0 := by
  have hpos : 0 < sdiff a b := of_decide_eq_true h
  have hneg : b - a = -(a - b) := by ring
  unfold sdiff at *
  rw [hneg]
  generalize a - b = v at *
  rw [BitVec.toInt_eq_toNat_cond] at hpos
  rw [BitVec.toInt_eq_toNat_cond, BitVec.toNat_neg]
  split_ifs at * <;> omega

/-- A watch ahead of its position is not due. -/
theorem past_neg_of_ahead {w : Word} {e : WatchEvent} (h : ahead w s.pos.ch0.lu = true) : (⟨.flat, w, e⟩ : Watch).past s < 0 :=
  sdiff_neg_of_ahead h

theorem nextDue_commitAt {item : Item} {start : Word} (h : nextDue s = none) (hahead : ahead start s.pos.ch0.lu = true) :
    nextDue (commitAt item start s) = none := by
  have hview : nextDue (commitAt item start s) = nextDue (s.withNext item start) := nextDue_of_pos (commitAt_pos item start s)
  rw [hview, nextDue_eq_none_iff]
  intro w hw
  rcases List.mem_append.mp hw with hold | hnew
  · exact nextDue_eq_none_iff.mp h w hold
  · rw [List.mem_singleton.mp hnew]
    exact past_neg_of_ahead (s := s) hahead

/-! ## The candidates, in order -/

theorem plannedStart_laying {l : LayingItem} (h : s.lay.laying = some l) : plannedStart s = l.flatStart + word32 l.item.flatLen := by
  unfold plannedStart
  rw [h]
  rfl

theorem plannedStart_none (h : s.lay.laying = none) : plannedStart s = s.pos.ch0.lu + word32 s.conf.commitLead := by
  unfold plannedStart
  rw [h]
  rfl

/-- The PLANNED GAP of a seam slot. -/
def State.slotGap (s : State) (requester : Station) (id : Byte) (length margin : Word) : Item :=
  .gap ⟨.planned requester id, length.toNat + 2 * margin.toNat,
    !(overlapping s (plannedStart s) (plannedStart s + word32 (length.toNat + 2 * margin.toNat))).isEmpty⟩

theorem commitSlot_eq (requester : Station) (id : Byte) (length margin : Word) (s : State) :
    commitSlot requester id length margin s = commitAt (s.slotGap requester id length margin) (plannedStart s) s := rfl

theorem commitRule_of_slot {r : Station} {id : Byte} {length margin : Word} {f : Option Final} {h : Option Nat} (hnext : s.lay.next = none)
    (hslot : s.msg.pendingSlot = some ⟨r, id, .seamSlot length margin, f, h⟩) : commitRule s =
      { commitAt (s.slotGap r id length margin) (plannedStart s) s with
        msg := (commitAt (s.slotGap r id length margin) (plannedStart s) s).msg.complete r id (.done (plannedStart s + margin))
          s.conf.answerHold } := by
  unfold commitRule
  simp only [hnext, hslot, commitSlot_eq]
  rfl

theorem commitRule_of_panel {p : Panel} {rest : List Panel} (hnext : s.lay.next = none) (hslot : s.msg.pendingSlot = none)
    (hqueued : s.lay.queued = p :: rest) : commitRule s = commitPanel p rest s := by
  unfold commitRule
  simp only [hnext, hslot, hqueued]

theorem commitPanel_of_clear {p : Panel} {rest : List Panel}
    (h : overlapping s (plannedStart s) (plannedStart s + word32 p.lf) = []) :
    commitPanel p rest s = commitAt (.panel p) (plannedStart s) { s with lay.queued := rest } := by
  unfold commitPanel
  simp only [h]

theorem commitPanel_of_seam {p : Panel} {rest : List Panel} {c : Word} {cs : List Word}
    (h : overlapping s (plannedStart s) (plannedStart s + word32 p.lf) = c :: cs) :
    commitPanel p rest s = commitAt (.gap ⟨.emergency, (furthest c cs - plannedStart s).toNat, true⟩) (plannedStart s) s := by
  unfold commitPanel
  simp only [h]

/-- The clear points of what overlaps a flat range (R113). -/
theorem mem_overlapping_iff {a b c : Word} : c ∈ overlapping s a b ↔
    (∃ e ∈ s.lay.seams, rangesOverlap e.a (e.a + e.length) a b = true ∧ c = e.a + e.length + e.margin)
      ∨ ∃ r, s.lay.evicted = some r ∧ rangesOverlap r.start r.stop a b = true ∧ c = r.stop := by
  unfold overlapping
  rw [List.mem_append]
  refine or_congr ?_ ?_
  · simp only [List.mem_map, List.mem_filter, SeamEntry.stop, SeamEntry.clear]
    constructor
    · rintro ⟨e, ⟨he, hover⟩, rfl⟩
      exact ⟨e, he, hover, rfl⟩
    · rintro ⟨e, he, hover, rfl⟩
      exact ⟨e, ⟨he, hover⟩, rfl⟩
  · cases hevicted : s.lay.evicted with
    | none => simp
    | some r => by_cases hover : rangesOverlap r.start r.stop a b = true <;> simp [hover]

/-- Settles O44: the commit rule takes a seam slot first, then the first QUEUED panel or a GAP in its place. -/
theorem commitRuleChoosesTheNextItem : Obligations.CommitRuleChoosesTheNextItem := by
  unfold Obligations.CommitRuleChoosesTheNextItem
  intro s start hlaying hempty
  have hstart : plannedStart s = start := by
    cases h : s.lay.laying with
    | none => rw [plannedStart_none h, hempty h]
    | some l => rw [plannedStart_laying h, hlaying l h]
  refine ⟨fun hnext => ?_, fun r id length margin h hnext hdelayed => ?_, fun hnext hdelayed hqueued => ?_,
    fun x rest hnext hdelayed hqueued hclear => ?_, fun x rest c cs hnext hdelayed hqueued hover => ?_, fun a b c => mem_overlapping_iff⟩
  · obtain ⟨n, hn⟩ := Option.isSome_iff_exists.mp hnext
    exact commitRule_of_next hn
  · have hslot : s.msg.pendingSlot = some ⟨r, id, .seamSlot length margin, none, h⟩ := by
      rw [Msg.pendingSlot, hdelayed]
      rfl
    rw [commitRule_of_slot hnext hslot, hstart]
    refine ⟨_, (congrArg Laying.next (commitAt_lay _ _ s) :), ?_, ?_, (congrArg Laying.queued (commitAt_lay _ _ s) :)⟩
    · rw [hstart]
      simp
    · simp only [Msg.complete, commitAt_delayed, hdelayed]
      simp
  · exact commitRule_of_idle hnext (pendingSlot_of_nil hdelayed) hqueued
  · rw [commitRule_of_panel hnext (pendingSlot_of_nil hdelayed) hqueued, commitPanel_of_clear (by rw [hstart]; exact hclear), hstart]
    exact ⟨commitAt_lay .., congrArg Pos.watches (commitAt_pos ..)⟩
  · rw [commitRule_of_panel hnext (pendingSlot_of_nil hdelayed) hqueued, commitPanel_of_seam (by rw [hstart]; exact hover), hstart]
    exact commitAt_lay ..

end

end Sys2Proof.Machine
end

section
/-! PROOFS. O40 and O42, PANEL ORDER (R119) and SEAM SLOT (R123). -/

namespace Sys2Proof.Machine

section
variable {s : State}

/-! ## The panels of the queue -/

/-- The PANEL record of an item, if it is one. -/
def Item.panels : Item → List Panel
  | .panel p => [p]
  | .gap _ => []

theorem panels_eq (s : State) : s.panels =
    ((s.lay.laying.map (·.item.panels)).getD []) ++ ((s.lay.next.map (·.item.panels)).getD []) ++ s.lay.queued := by
  unfold State.panels
  simp only
  congr 2

/-! ## What the commit rule leaves -/

theorem pendingSlot_body {m : Msg} {d : Delayed} (h : m.pendingSlot = some d) : ∃ length margin, d.body = .seamSlot length margin := by
  have hcode := List.find?_some h
  simp only [Bool.and_eq_true, beq_iff_eq] at hcode
  cases hbody : d.body <;> simp [hbody, ReqBody.code] at hcode
  exact ⟨_, _, rfl⟩

/-- With a candidate and no NEXT item, the commit rule makes an item NEXT at the planned start and keeps every panel. -/
theorem commitRule_commits (hnext : s.lay.next = none) (hqueued : s.lay.queued ≠ []) :
    ∃ item q, (commitRule s).lay = { s.lay with next := some ⟨item, plannedStart s⟩, queued := q } ∧ item.panels ++ q = s.lay.queued
      ∧ (commitRule s).pos = { s.pos with watches := s.pos.watches ++ [⟨.flat, plannedStart s, .itemStart⟩] }
      ∧ (commitRule s).slots = s.slots := by
  cases hslot : s.msg.pendingSlot with
  | some d =>
    obtain ⟨length, margin, hbody⟩ := pendingSlot_body hslot
    obtain ⟨r, id, body, f, h⟩ := d
    obtain rfl : body = .seamSlot length margin := hbody
    rw [commitRule_of_slot hnext hslot]
    exact ⟨_, s.lay.queued, commitAt_lay .., rfl, commitAt_pos .., commitAt_slots ..⟩
  | none =>
    obtain ⟨p, rest, hp⟩ := List.exists_cons_of_ne_nil hqueued
    rw [commitRule_of_panel hnext hslot hp]
    cases hover : overlapping s (plannedStart s) (plannedStart s + word32 p.lf) with
    | nil =>
      rw [commitPanel_of_clear hover]
      exact ⟨.panel p, rest, commitAt_lay .., hp.symm, commitAt_pos .., commitAt_slots ..⟩
    | cons c cs =>
      rw [commitPanel_of_seam hover]
      exact ⟨_, s.lay.queued, commitAt_lay .., rfl, commitAt_pos .., commitAt_slots ..⟩

theorem nextDue_withWatch {t : State} {start : Word} {e : WatchEvent} (h : nextDue s = none) (hahead : ahead start s.pos.ch0.lu = true)
    (hpos : t.pos = { s.pos with watches := s.pos.watches ++ [⟨.flat, start, e⟩] }) : nextDue t = none := by
  rw [nextDue_of_pos (s := { s with pos.watches := s.pos.watches ++ [⟨.flat, start, e⟩] }) hpos, nextDue_eq_none_iff]
  intro w hw
  rcases List.mem_append.mp hw with hold | hnew
  · exact nextDue_eq_none_iff.mp h w hold
  · rw [List.mem_singleton.mp hnew]
    exact past_neg_of_ahead (s := s) hahead

/-- The rule, run on a queue with a candidate: what it leaves, whether an item was NEXT or not. -/
theorem commitRule_rules (hqueued : s.lay.queued ≠ []) (hdue : nextDue s = none) (hahead : ahead (plannedStart s) s.pos.ch0.lu = true) :
    nextDue (commitRule s) = none ∧ (commitRule s).panels = s.panels ∧ (commitRule s).slots = s.slots
      ∧ (commitRule s).lay.laying = s.lay.laying ∧ (s.lay.next.isSome = true → (commitRule s).lay.next = s.lay.next)
      ∧ (commitRule s).lay.next.isSome = true ∧ (commitRule s).pos.ch0 = s.pos.ch0 := by
  cases hnext : s.lay.next with
  | some n =>
    rw [commitRule_of_next hnext]
    exact ⟨hdue, rfl, rfl, rfl, fun _ => hnext, by rw [hnext]; rfl, rfl⟩
  | none =>
    obtain ⟨item, q, hlay, hpanels, hpos, hslots⟩ := commitRule_commits hnext hqueued
    refine ⟨nextDue_withWatch hdue hahead hpos, ?_, hslots, by rw [hlay], fun h => absurd h (by simp), by rw [hlay]; rfl, by rw [hpos]⟩
    rw [panels_eq, panels_eq, hlay, hnext, ← hpanels]
    simp

/-! ## PANEL ORDER -/

/-- The four tests of a PANEL ORDER, as the refusal they give (R119). -/
theorem orderRefusal_rules (s : State) (first count slot grade : Nat) :
    (((s.slot slot).state ≠ .ready ∨ 7 < grade ∨ count = 0 ∨ 8 < count ∨ 30 < s.panels.length + count
        ∨ first = 0 ∨ 65535 < first + count - 1 ∨ ∃ x ∈ s.panels, first ≤ x.id ∧ x.id ≤ first + count - 1) →
      orderRefusal s first count slot grade = some (if (s.slot slot).state ≠ .ready then .noPattern else if 7 < grade then .badGrade
        else if count = 0 ∨ 8 < count ∨ 30 < s.panels.length + count then .queueFull else .duplicate))
    ∧ (¬((s.slot slot).state ≠ .ready ∨ 7 < grade ∨ count = 0 ∨ 8 < count ∨ 30 < s.panels.length + count
        ∨ first = 0 ∨ 65535 < first + count - 1 ∨ ∃ x ∈ s.panels, first ≤ x.id ∧ x.id ≤ first + count - 1) →
      orderRefusal s first count slot grade = none) := by
  have hplaces : (!within 1 8 count || decide (Config.panelPlaces < s.panels.length + count)) = true
      ↔ count = 0 ∨ 8 < count ∨ 30 < s.panels.length + count := by
    rw [Bool.or_eq_true, Bool.not_eq_true', ← Bool.not_eq_true, within_iff, decide_eq_true_eq]
    show _ ∨ 30 < _ ↔ _
    omega
  have hids : (s.panels.any fun p => within first (first + count - 1) p.id) = true
      ↔ ∃ x ∈ s.panels, first ≤ x.id ∧ x.id ≤ first + count - 1 := by
    simp only [List.any_eq_true, within_iff]
  unfold orderRefusal
  simp only [hplaces, hids]
  refine ⟨fun h => ?_, fun h => ?_⟩
  · split_ifs with hstate hgrade hfull hdup
    · rfl
    · rfl
    · rfl
    · rfl
    · rcases h with h | h | h | h | h | h
      exacts [absurd h hstate, absurd h hgrade, absurd (.inl h) hfull, absurd (.inr (.inl h)) hfull, absurd (.inr (.inr h)) hfull,
        absurd h hdup]
  · rw [if_neg fun hstate => h (.inl hstate), if_neg fun hgrade => h (.inr (.inl hgrade)),
      if_neg fun hfull => h (.inr (.inr (hfull.imp_right fun hcount => hcount.imp_right .inl))),
      if_neg fun hdup => h (.inr (.inr (.inr (.inr (.inr hdup)))))]

/-- An order placed: its panels at the back of the queue, the slot's count raised, the commit rule run (R96, R119). -/
theorem placeOrder_rules {first count slot grade : Nat} (hslot : slot < 16) (hcount : count ≠ 0) (hdue : nextDue s = none)
    (hahead : ahead (plannedStart s) s.pos.ch0.lu = true) :
    let t := placeOrder first count slot grade s
    t.panels = s.panels ++ orderedPanels (s.slot slot) first count slot grade
      ∧ (t.slot slot).inUse = (s.slot slot).inUse + count ∧ (∀ k, k ≠ slot → t.slot k = s.slot k)
      ∧ t.lay.laying = s.lay.laying ∧ (s.lay.next.isSome = true → t.lay.next = s.lay.next) ∧ t.lay.next.isSome = true
      ∧ t.stn = s.stn ∧ t.pos.ch0 = s.pos.ch0 := by
  intro t
  set ps := orderedPanels (s.slot slot) first count slot grade with hps
  set x : State := slotGains slot count { s with lay.queued := s.lay.queued ++ ps } with hx
  have hqueued : x.lay.queued ≠ [] := by
    have hlen : ps.length = count := by simp [hps, orderedPanels]
    intro h
    rw [(List.append_eq_nil_iff.mp h).2] at hlen
    exact hcount hlen.symm
  obtain ⟨hquiet, hpanels, hslots, hlaying, hkeeps, hsome, hch0⟩ :=
    commitRule_rules (s := x) hqueued ((nextDue_of_pos (s := s) rfl).trans hdue) (by exact hahead)
  have ht : t = commitRule x := settle_none hquiet
  have hslot' : ∀ k, (commitRule x).slot k = x.slot k := fun k => by rw [State.slot, hslots]; rfl
  rw [ht]
  refine ⟨?_, ?_, fun k hk => ?_, hlaying, hkeeps, hsome, ?_, hch0⟩
  · rw [hpanels, panels_eq, panels_eq, List.append_assoc]
    show _ ++ (_ ++ (s.lay.queued ++ ps)) = _
    simp only [List.append_assoc]
    rfl
  · rw [hslot' slot]
    exact congrArg Slot.inUse ((slot_modifySlot { s with lay.queued := s.lay.queued ++ ps } slot _ hslot).trans (if_pos rfl))
  · rw [hslot' k]
    unfold State.slot
    simp [hx, slotGains, modifySlot, Vector.getElem?_setIfInBounds_ne (Ne.symm hk)]
  · exact (congrArg (fun u : State => u.stn) (commitRule_sansWatched x) :)

theorem exec_panelOrder {sender : Station} {p : List Byte} {r : RequestIn} {first : Half} {count pat grade : Byte}
    (hasked : s.asked .panelOrder sender p r) (hserves : s.serves .panelOrder sender r)
    (hbody : r.body = .panelOrder first count pat grade) :
    exec (.panelOrder sender p) s = .next (serveOrder sender r.id (.panelOrder first count pat grade) (dropLatch s)) := by
  have harm : exec (.panelOrder sender p) s = execPanelOrder sender p s := rfl
  rw [harm, execPanelOrder, receiveRequest_of_serves hasked hserves, hbody]

/-- Settles O40: PANEL ORDER is refused by its first failing test, or appends its panels. -/
theorem panelOrderAppendsPanels : Obligations.PanelOrderAppendsPanels := by
  unfold Obligations.PanelOrderAppendsPanels
  intro s sender p r first count pat grade n refusal hasked hserves hbody hn hrefusal
  have hslot : slotNumber pat = n := hn.symm
  obtain ⟨hrefuses, hpasses⟩ := orderRefusal_rules (dropLatch s) first.toNat count.toNat n grade.toNat
  subst hrefusal
  rw [exec_panelOrder hasked hserves hbody]
  refine ⟨fun h => ?_, fun h hdue hahead => ?_⟩
  · refine ⟨_, _, rfl, ?_, ?_, ?_, rfl⟩
    all_goals simp only [serveOrder, hslot, hrefuses h]
    · rfl
    · exact finish_answersOnly _ _
    · exact finish_gives _ _
  · have hcount : count.toNat ≠ 0 := fun hz => h (.inr (.inr (.inl hz)))
    have hserve : serveOrder sender r.id (.panelOrder first count pat grade) (dropLatch s)
        = answer sender r.id .panelOrder done (placeOrder first.toNat count.toNat n grade.toNat (dropLatch s)) := by
      simp only [serveOrder, hslot, hpasses h]
    obtain ⟨hpanels, huse, hothers, hlaying, hkeeps, hsome, hstn, hch0⟩ :=
      placeOrder_rules (s := dropLatch s) (first := first.toNat) (grade := grade.toNat) (hn ▸ slotNumber_lt pat : n < 16) hcount
        ((nextDue_of_pos (s := s) rfl).trans hdue) (by exact hahead)
    rw [hserve]
    exact ⟨_, rfl, hpanels, huse, hothers, hlaying, hkeeps, hsome, hstn, hch0, finish_gives _ _⟩

/-! ## SEAM SLOT -/

theorem exec_seamSlot {sender : Station} {p : List Byte} {r : RequestIn} {length margin : Word}
    (hasked : s.asked .seamSlot sender p r) (hserves : s.serves .seamSlot sender r) (hbody : r.body = .seamSlot length margin) :
    exec (.seamSlot sender p) s = .next (serveSlot sender r.id (.seamSlot length margin) (dropLatch s)) := by
  have harm : exec (.seamSlot sender p) s = execSeamSlot sender p s := rfl
  rw [harm, execSeamSlot, receiveRequest_of_serves hasked hserves, hbody]

/-- At the HEAD an item that becomes NEXT leaves the own ceiling as R105 forms it. -/
theorem commitAt_own {item : Item} {start : Word} (hrole : s.role = some .head) :
    ((commitAt item start s).spd.ownValue, (commitAt item start s).spd.ownReason) = headCeiling (commitAt item start s) := by
  have hview := reformOwn_lawView (s.withNext item start)
  have hvalue : (commitAt item start s).spd.ownValue = (roleCeiling (s.withNext item start)).1 :=
    (congrArg (fun u : State => u.spd.ownValue) hview :)
  have hreason : (commitAt item start s).spd.ownReason = (roleCeiling (s.withNext item start)).2 :=
    (congrArg (fun u : State => u.spd.ownReason) hview :)
  have hhead : roleCeiling (s.withNext item start) = headCeiling (s.withNext item start) := by
    have hrole' : (s.withNext item start).role = some .head := hrole
    simp only [roleCeiling, hrole']
  have hkept : headCeiling (commitAt item start s) = headCeiling (s.withNext item start) := by
    rw [commitAt_eq, reformOwn_eq]
    rfl
  rw [hvalue, hreason, hhead, hkept]

/-- Settles O42: a SEAM SLOT is placed where the committed set ends, or delayed. -/
theorem seamSlotIsPlacedOrDelayed : Obligations.SeamSlotIsPlacedOrDelayed := by
  unfold Obligations.SeamSlotIsPlacedOrDelayed
  intro s sender p r length margin start hasked hserves hbody hlaying hempty
  have hstart : plannedStart (dropLatch s) = start := by
    cases h : s.lay.laying with
    | none => exact (plannedStart_none (s := dropLatch s) h).trans (hempty h).symm
    | some l => exact (plannedStart_laying (s := dropLatch s) h).trans (hlaying l h).symm
  rw [exec_seamSlot hasked hserves hbody]
  refine ⟨fun hnext hdue hahead => ?_, fun n hnext hroom => ?_⟩
  · obtain ⟨-, -, hrole, -⟩ := hserves
    set x := commitAt ((dropLatch s).slotGap sender r.id length margin) start (dropLatch s) with hx
    have hquiet : nextDue x = none := nextDue_commitAt ((nextDue_of_pos (s := s) rfl).trans hdue) (by exact hahead)
    have hserve : serveSlot sender r.id (.seamSlot length margin) (dropLatch s)
        = answer sender r.id .seamSlot (.done (start + margin)) x := by
      have hnext' : (dropLatch s).lay.next = none := hnext
      simp only [serveSlot, hnext', commitSlot_eq, slotFpos, hstart]
      rw [← hx, settle_none hquiet]
    rw [hserve]
    refine ⟨_, _, rfl, ?_, commitAt_lay .., commitAt_pos .., commitAt_own (s := dropLatch s) hrole, commitAt_stn .., commitAt_slots ..,
      finish_gives _ _⟩
    rw [hstart]
    simp [overlapping, dropLatch]
  · have hnext' : (dropLatch s).lay.next = some n := hnext
    simp only [serveSlot, hnext']
    unfold delay interim
    rw [handInterim_of_room (by exact hroom)]
    rfl

end

end Sys2Proof.Machine
end

section
/-! PROOFS. O43, a SEAM at the HEAD (R113, R121, R122). -/

namespace Sys2Proof.Machine

section
variable {s u v : State}

/-! ## The marks of a seam on the committed set (R122) -/

/-- The LAYING item, marked when the seam's range overlaps it. -/
def LayingItem.marked (a stop : Word) (l : LayingItem) : LayingItem :=
  if rangesOverlap a stop l.flatStart l.flatEnd then { l with item := (l.item.flag fun f => { f with seam := true }).markUsed } else l

/-- The NEXT item, marked when the seam's range overlaps it. -/
def NextItem.marked (a stop : Word) (n : NextItem) : NextItem :=
  if rangesOverlap a stop n.flatStart n.flatEnd then { n with item := n.item.markUsed } else n

theorem seamOnLaying_eq (a stop : Word) (s : State) :
    seamOnLaying a stop s = { s with lay.laying := s.lay.laying.map (LayingItem.marked a stop) } := by
  unfold seamOnLaying
  cases hlaying : s.lay.laying with
  | none => exact congrArg (fun x => { s with lay.laying := x }) hlaying
  | some l =>
    simp only [Option.map_some, LayingItem.marked]
    split
    · simp only [onLaying, hlaying, Option.map_some]
    · exact congrArg (fun x => { s with lay.laying := x }) hlaying

/-- With no NEXT panel overlapped, the NEXT item is marked and nothing else happens. -/
theorem seamOnNext_eq {a stop : Word}
    (h : ∀ n x, s.lay.next = some n → n.item = .panel x → rangesOverlap a stop n.flatStart n.flatEnd = false) :
    seamOnNext a stop s = { s with lay.next := s.lay.next.map (NextItem.marked a stop) } := by
  unfold seamOnNext
  cases hnext : s.lay.next with
  | none => exact congrArg (fun x => { s with lay.next := x }) hnext
  | some n =>
    simp only [Option.map_some, NextItem.marked]
    cases hover : rangesOverlap a stop n.flatStart n.flatEnd with
    | false => exact congrArg (fun x => { s with lay.next := x }) hnext
    | true =>
      cases hitem : n.item with
      | panel x =>
        rw [h n x hnext hitem] at hover
        exact nomatch hover
      | gap g => rfl

theorem seamOnNext_panel {a stop : Word} {n : NextItem} {x : Panel} (hnext : s.lay.next = some n) (hitem : n.item = .panel x)
    (hover : rangesOverlap a stop n.flatStart n.flatEnd = true) : seamOnNext a stop s = commitRule (returnNext x s) := by
  unfold seamOnNext
  simp only [hnext, hover, hitem, if_true]

theorem layingMarks_of {m : SeamMsg} (h : u.lay.laying = s.lay.laying.map (LayingItem.marked m.pos (m.pos + m.length))) :
    s.layingMarks m u := by
  refine ⟨fun hnone => by rw [h, hnone]; rfl, fun y hy => ?_⟩
  rw [hy, Option.map_some] at h
  unfold LayingItem.marked at h
  refine ⟨fun hover => ?_, fun hover => ⟨fun x hx => ?_, fun g hg => ?_⟩⟩
  · rw [h, hover]
    rfl
  · rw [h, hover, hx]
    rfl
  · rw [h, hover, hg]
    rfl

theorem seamMarks_of {m : SeamMsg} (hlaying : u.lay.laying = s.lay.laying.map (LayingItem.marked m.pos (m.pos + m.length)))
    (hnext : u.lay.next = s.lay.next.map (NextItem.marked m.pos (m.pos + m.length))) : s.seamMarks m u := by
  refine ⟨layingMarks_of hlaying, fun hnone => by rw [hnext, hnone]; rfl, fun n hn => ?_⟩
  rw [hn, Option.map_some] at hnext
  unfold NextItem.marked at hnext
  refine ⟨fun x hx => ?_, fun g hg => ?_⟩
  · rw [hnext]
    split
    · rw [hx]
      exact congrArg some (by cases n; subst hx; rfl)
    · rfl
  · rw [hnext]
    cases rangesOverlap m.pos (m.pos + m.length) n.flatStart n.flatEnd with
    | true => rw [hg, Bool.or_true]; rfl
    | false =>
      rw [Bool.or_false]
      exact congrArg some (by cases n; subst hg; rfl)

/-! ## A seam enters the list (R121) -/

/-- The entry of a SEAM just received. -/
def SeamMsg.entry (m : SeamMsg) : SeamEntry := ⟨m.pos, m.length, m.emergency, m.margin, none⟩

theorem exec_seamAtHead {p : List Byte} {l : Latch} {m : SeamMsg} (hrole : s.isRole .head = true) (hhears : s.hears 3 s.neighbour p l)
    (hparse : parseSeam p = some m) : exec (.seamAtHead s.neighbour p) s = .next
      (settle (seamOnNext m.pos (m.pos + m.length) (seamOnLaying m.pos (m.pos + m.length)
        (settle (enterSeam m.entry { s with link.latch := none }))))) := by
  have harm : exec (.seamAtHead s.neighbour p) s = execSeamAtHead s.neighbour p s := rfl
  have hrole' : (dropLatch s).isRole .head = true := hrole
  rw [harm, execSeamAtHead, receive_of_hears hhears]
  simp only [hrole', hparse]
  rfl

theorem evictOldest_of_room (h : s.lay.seams.length < 4) : evictOldest s = s := by
  unfold evictOldest
  split
  · rfl
  · exact if_pos h

theorem enterSeam_of_room {e : SeamEntry} (h : s.lay.seams.length < 4) : enterSeam e s = { s with
    lay.seams := s.lay.seams ++ [e]
    pos.watches := s.pos.watches ++ [⟨.flat, e.a, .seamArrival⟩, ⟨.flat, e.a + e.length, .seamEnd⟩] } := by
  unfold enterSeam
  rw [evictOldest_of_room h]
  simp only [setWatch, List.append_assoc]
  rfl

/-- The committed set after a SEAM that overlaps no NEXT panel, all that was due having fired. -/
def State.seamMarked (m : SeamMsg) (v : State) : State :=
  { v with
    lay.laying := v.lay.laying.map (LayingItem.marked m.pos (m.pos + m.length))
    lay.next := v.lay.next.map (NextItem.marked m.pos (m.pos + m.length)) }

theorem settle_marks {m : SeamMsg} (hdue : nextDue v = none)
    (h : ∀ n x, v.lay.next = some n → n.item = .panel x → rangesOverlap m.pos (m.pos + m.length) n.flatStart n.flatEnd = false) :
    settle (seamOnNext m.pos (m.pos + m.length) (seamOnLaying m.pos (m.pos + m.length) v)) = v.seamMarked m := by
  rw [seamOnLaying_eq, seamOnNext_eq (by exact h)]
  exact settle_none ((nextDue_of_pos (s := v) rfl).trans hdue)

theorem past_congr {w : Watch} (h : u.pos = { s.pos with watches := u.pos.watches }) : w.past u = w.past s := by
  unfold Watch.past
  congr 1
  cases w.pos <;> simp only [State.posOf, State.mapPos] <;> rw [h]

/-- Watches ahead of the flat position, added to watches not due, leave none due. -/
theorem nextDue_watches (hpos : u.pos = { s.pos with watches := u.pos.watches }) (hdue : nextDue s = none)
    (hwatches : ∀ w ∈ u.pos.watches, w ∈ s.pos.watches ∨ ∃ target e, w = ⟨.flat, target, e⟩ ∧ ahead target s.pos.ch0.lu = true) :
    nextDue u = none := by
  rw [nextDue_eq_none_iff]
  intro w hw
  rw [past_congr hpos]
  rcases hwatches w hw with h | ⟨target, e, rfl, h⟩
  · exact nextDue_eq_none_iff.mp hdue w h
  · exact past_neg_of_ahead h

/-! ## The full list: the oldest entry leaves (R121) -/

/-- The watches of an entry that leaves, gone. -/
def watchesWithout (e : SeamEntry) (ws : List Watch) : List Watch :=
  (if e.captured.isNone then ws.erase ⟨.flat, e.a, .seamArrival⟩ else ws).erase ⟨.flat, e.a + e.length, .seamEnd⟩

theorem dropSeamWatches_eq (e : SeamEntry) (s : State) :
    dropSeamWatches e s = { s with pos.watches := watchesWithout e s.pos.watches } := by
  unfold dropSeamWatches watchesWithout
  split <;> rfl

/-- The evicted extent that takes a range (R121). -/
def mergedExtent (s : State) (q : FlatRange) : FlatRange := (s.lay.evicted.map (·.merge q)).getD q

theorem evict_eq (q : FlatRange) (s : State) : evict q s = { s with
    lay.evicted := some (mergedExtent s q)
    pos.watches := (s.pos.watches.filter fun w => w.event ≠ .evictedEnd) ++ [⟨.flat, (mergedExtent s q).stop, .evictedEnd⟩] } := by
  unfold evict mergedExtent
  cases s.lay.evicted <;> rfl

/-- A lasting notice does not look at the Laying Unit or the positions. -/
theorem postLasting_edit (f : Frame) (s : State) (a : Laying) (b : Pos) :
    postLasting f { s with lay := a, pos := b } = { postLasting f s with lay := a, pos := b } := by
  unfold postLasting
  simp only
  split
  · rfl
  · split <;> rfl

theorem enterSeam_of_full {e f : SeamEntry} {rest : List SeamEntry} (hseams : s.lay.seams = e :: rest) (hfull : rest.length = 3) :
    enterSeam f s = { postLasting (headSeam 0 0 e.emergency true) s with
      lay := { s.lay with seams := rest ++ [f], evicted := some (mergedExtent s ⟨e.a, e.clear⟩) }
      pos := { s.pos with watches := ((watchesWithout e s.pos.watches).filter fun w => w.event ≠ .evictedEnd)
        ++ [⟨.flat, (mergedExtent s ⟨e.a, e.clear⟩).stop, .evictedEnd⟩, ⟨.flat, f.a, .seamArrival⟩,
          ⟨.flat, f.a + f.length, .seamEnd⟩] } } := by
  have hlen : ¬s.lay.seams.length < Config.seamPlaces := by rw [hseams, List.length_cons, hfull]; decide
  have hevicts : evictOldest s = evict ⟨e.a, e.clear⟩ (postLasting (headSeam 0 0 e.emergency true)
      (dropSeamWatches e { s with lay.seams := rest })) := by
    unfold evictOldest
    split
    · next hnil => exact absurd (hnil.symm.trans hseams) (by simp)
    · next e' rest' hcons =>
      obtain ⟨rfl, rfl⟩ := List.cons.inj (hcons.symm.trans hseams)
      exact if_neg hlen
  unfold enterSeam
  rw [hevicts, dropSeamWatches_eq, postLasting_edit (headSeam 0 0 e.emergency true) s { s.lay with seams := rest }
    { s.pos with watches := watchesWithout e s.pos.watches }, evict_eq]
  simp only [setWatch, List.append_assoc]
  rfl

theorem mem_watchesWithout {e : SeamEntry} {ws : List Watch} {w : Watch} (ha : w.event ≠ .seamArrival) (he : w.event ≠ .seamEnd)
    (h : w ∈ ws) : w ∈ watchesWithout e ws := by
  unfold watchesWithout
  refine (List.mem_erase_of_ne fun hw => he (by rw [hw])).mpr ?_
  split
  · exact (List.mem_erase_of_ne fun hw => ha (by rw [hw])).mpr h
  · exact h

theorem watchesWithout_sublist (e : SeamEntry) (ws : List Watch) : (watchesWithout e ws).Sublist ws := by
  unfold watchesWithout
  refine List.erase_sublist.trans ?_
  split
  · exact List.erase_sublist
  · exact .refl ws

/-- The watches of the leaving entry are one fewer each. -/
theorem count_watchesWithout (e : SeamEntry) (ws : List Watch) :
    (watchesWithout e ws).count ⟨.flat, e.a + e.length, .seamEnd⟩ = ws.count ⟨.flat, e.a + e.length, .seamEnd⟩ - 1
      ∧ (e.captured = none → (watchesWithout e ws).count ⟨.flat, e.a, .seamArrival⟩ = ws.count ⟨.flat, e.a, .seamArrival⟩ - 1) := by
  unfold watchesWithout
  refine ⟨?_, fun h => ?_⟩
  · rw [List.count_erase_self]
    split
    · rw [List.count_erase_of_ne (by simp)]
    · rfl
  · rw [List.count_erase_of_ne (by simp), h, Option.isNone_none, if_pos rfl, List.count_erase_self]

/-- A full list, nothing due before: what a SEAM ahead of the flat position leaves when it overlaps no NEXT panel. -/
theorem seam_into_full {m : SeamMsg} {e : SeamEntry} {rest : List SeamEntry} (hdue : nextDue s = none)
    (hseams : s.lay.seams = e :: rest) (hfull : rest.length = 3) (hpos : ahead m.pos s.pos.ch0.lu = true)
    (hstop : ahead (m.pos + m.length) s.pos.ch0.lu = true)
    (hevicted : ahead (mergedExtent s ⟨e.a, e.clear⟩).stop s.pos.ch0.lu = true) : nextDue (enterSeam m.entry s) = none := by
  rw [enterSeam_of_full hseams hfull]
  refine nextDue_watches (s := s) rfl hdue fun w hw => ?_
  rcases List.mem_append.mp hw with hold | hnew
  · exact .inl ((watchesWithout_sublist e _).subset (List.mem_of_mem_filter hold))
  · simp only [List.mem_cons, List.not_mem_nil, or_false] at hnew
    rcases hnew with rfl | rfl | rfl
    · exact .inr ⟨_, _, rfl, hevicted⟩
    · exact .inr ⟨_, _, rfl, hpos⟩
    · exact .inr ⟨_, _, rfl, hstop⟩

/-- A list with room, nothing due before. -/
theorem seam_into_room {m : SeamMsg} (hdue : nextDue s = none) (hroom : s.lay.seams.length < 4) (hpos : ahead m.pos s.pos.ch0.lu = true)
    (hstop : ahead (m.pos + m.length) s.pos.ch0.lu = true) : nextDue (enterSeam m.entry s) = none := by
  rw [enterSeam_of_room hroom]
  refine nextDue_watches (s := s) rfl hdue fun w hw => ?_
  rcases List.mem_append.mp hw with hold | hnew
  · exact .inl hold
  · simp only [List.mem_cons, List.not_mem_nil, or_false] at hnew
    rcases hnew with rfl | rfl
    · exact .inr ⟨_, _, rfl, hpos⟩
    · exact .inr ⟨_, _, rfl, hstop⟩

/-! ## A NEXT panel the seam overlaps (R122) -/

/-- The commit rule's choice when the first QUEUED panel's extent is overlapped (R113). -/
theorem commitRule_overlapped {p : Panel} {rest : List Panel} {start c : Word} {cs : List Word} (hstart : plannedStart s = start)
    (hnext : s.lay.next = none) (hdelayed : s.msg.delayed = []) (hqueued : s.lay.queued = p :: rest)
    (hover : overlapping s start (start + word32 p.lf) = c :: cs) :
    commitRule s = commitAt (.gap ⟨.emergency, (furthest c cs - start).toNat, true⟩) start s := by
  rw [commitRule_of_panel hnext (pendingSlot_of_nil hdelayed) hqueued, commitPanel_of_seam (by rw [hstart]; exact hover), hstart]

theorem returnNext_eq (p : Panel) (s : State) : returnNext p s =
    reformOwn (dropEvent .itemStart { s with lay.next := none, lay.queued := p :: s.lay.queued }) := rfl

theorem returnNext_lay (p : Panel) (s : State) : (returnNext p s).lay = { s.lay with next := none, queued := p :: s.lay.queued } :=
  reformOwn_lay _

theorem returnNext_pos (p : Panel) (s : State) :
    (returnNext p s).pos = { s.pos with watches := s.pos.watches.filter fun w => w.event ≠ .itemStart } := reformOwn_pos _

theorem overlapping_congr (hseams : u.lay.seams = s.lay.seams) (hevicted : u.lay.evicted = s.lay.evicted) (a b : Word) :
    overlapping u a b = overlapping s a b := by
  unfold overlapping
  rw [hseams, hevicted]

/-- The mark of a seam leaves an item's flat extent as it was. -/
theorem marked_flatEnd (a stop : Word) (l : LayingItem) : (l.marked a stop).flatEnd = l.flatEnd := by
  unfold LayingItem.marked
  split
  · cases hitem : l.item <;> simp only [LayingItem.flatEnd, hitem] <;> rfl
  · rfl

/-- A NEXT panel overlapped, after the LAYING item and with no request delayed: it returns to the QUEUED panels and an EMERGENCY GAP up to
the clear point furthest ahead takes its place (R113, R122). -/
theorem overlapped_next_rules {a stop c : Word} {cs : List Word} {n : NextItem} {x : Panel} {y : LayingItem} (hdue : nextDue s = none)
    (hlaying : s.lay.laying = some y) (hnext : s.lay.next = some n) (hitem : n.item = .panel x) (hfollows : n.flatStart = y.flatEnd)
    (hstart : ahead n.flatStart s.pos.ch0.lu = true) (hdelayed : s.msg.delayed = [])
    (hover : rangesOverlap a stop n.flatStart n.flatEnd = true) (hc : overlapping s n.flatStart n.flatEnd = c :: cs) :
    let t := settle (seamOnNext a stop s)
    t.lay = { s.lay with
        next := some ⟨.gap ⟨.emergency, (furthest c cs - n.flatStart).toNat, true⟩, n.flatStart⟩, queued := x :: s.lay.queued }
      ∧ t.slots = s.slots ∧ t.stn = s.stn ∧ t.fault = s.fault := by
  have hlayW := returnNext_lay x s
  have hplanned : plannedStart (returnNext x s) = n.flatStart := by
    rw [plannedStart_laying (l := y) (by rw [hlayW]; exact hlaying), hfollows]
    rfl
  have hend : n.flatStart + word32 x.lf = n.flatEnd := by rw [NextItem.flatEnd, hitem]; rfl
  have hoverW : overlapping (returnNext x s) n.flatStart n.flatEnd = c :: cs := by
    rw [overlapping_congr (s := s) (by rw [hlayW]) (by rw [hlayW]), hc]
  have hdelayedW : (returnNext x s).msg.delayed = [] := by
    rw [returnNext_eq, reformOwn_delayed]
    exact hdelayed
  have hrule := commitRule_overlapped (s := returnNext x s) (p := x) (rest := s.lay.queued) hplanned (by rw [hlayW]) hdelayedW
    (by rw [hlayW]) (by rw [hend, hoverW])
  have hquietW : nextDue (returnNext x s) = none :=
    nextDue_watches (s := s) (by rw [returnNext_pos]) hdue
      fun w hw => .inl (by rw [returnNext_pos] at hw; exact List.mem_of_mem_filter hw)
  have hquiet := nextDue_commitAt (item := .gap ⟨.emergency, (furthest c cs - n.flatStart).toNat, true⟩) hquietW
    (start := n.flatStart) (by rw [returnNext_pos]; exact hstart)
  intro t
  have ht : t = commitAt (.gap ⟨.emergency, (furthest c cs - n.flatStart).toNat, true⟩) n.flatStart (returnNext x s) := by
    show settle (seamOnNext a stop s) = _
    rw [seamOnNext_panel hnext hitem hover, hrule, settle_none hquiet]
  rw [ht]
  refine ⟨?_, ?_, ?_, ?_⟩
  · rw [commitAt_lay, hlayW]
  · rw [commitAt_slots, returnNext_eq, reformOwn_slots]
    rfl
  · rw [commitAt_stn, returnNext_eq, reformOwn_stn]
    rfl
  · rw [commitAt_eq, reformOwn_eq, returnNext_eq, reformOwn_eq]
    rfl

/-- Re-forming the own ceiling at the HEAD writes the ceiling as it is then, and what its posting writes. -/
theorem reformOwn_spd_head (hrole : s.role = some .head) : (reformOwn s).spd = { s.spd with
    ownValue := (headCeiling (reformOwn s)).1, ownReason := (headCeiling (reformOwn s)).2
    lastPosted := (reformOwn s).spd.lastPosted, postTimer := (reformOwn s).spd.postTimer } := by
  have hkept : headCeiling (reformOwn s) = roleCeiling s := by
    rw [reformOwn_eq]
    simp only [roleCeiling, hrole]
    rfl
  rw [hkept]
  unfold reformOwn
  simp only
  split <;> rfl

/-! ## The seam's own watches (R121) -/

theorem deliver_seamArrival {a : Word} {i : Nat} {e : SeamEntry}
    (hfind : s.lay.seams.findIdx? (fun x => x.a == a && x.captured.isNone) = some i) (hget : s.lay.seams[i]? = some e) :
    deliver ⟨.flat, a, .seamArrival⟩ s = { s with lay.seams := s.lay.seams.set i { e with captured := some s.pos.ch1.lu } } := by
  show seamArrival a s = _
  simp only [seamArrival, hfind, modifyAt_eq_set hget]
  rfl

/-- The SEAM notice of a seam that is passed: the captured position, or a free one (log 22). -/
theorem deliver_seamEnd {a : Word} {i : Nat} {e : SeamEntry} (hfind : s.lay.seams.findIdx? (fun x => x.a + x.length == a) = some i)
    (hget : s.lay.seams[i]? = some e) (hroom : s.msg.room = true) : ∃ pos len : Word,
      deliver ⟨.flat, a, .seamEnd⟩ s = { s with
        lay.seams := s.lay.seams.eraseIdx i
        msg := s.msg.place (.seam ⟨pos, len, e.emergency, false, 0⟩)
        pos.watches := (deliver ⟨.flat, a, .seamEnd⟩ s).pos.watches
        freeCount := if e.captured.isSome then s.freeCount else s.freeCount + 1 }
      ∧ (e.captured.isSome = true → (deliver ⟨.flat, a, .seamEnd⟩ s).pos.watches = s.pos.watches)
      ∧ (∀ c, e.captured = some c → pos = c)
      ∧ len = (if sdiff s.pos.ch1.lu pos < 0 then 0 else s.pos.ch1.lu - pos) := by
  have hfind' : s.lay.seams.findIdx? (fun x => x.stop == a) = some i := hfind
  have hdeliver : deliver ⟨.flat, a, .seamEnd⟩ s = seamPassed a s := rfl
  rw [hdeliver]
  unfold seamPassed
  simp only [hfind', hget]
  cases hcaptured : e.captured with
  | some c =>
    simp only
    rw [postLasting_room (by exact hroom)]
    exact ⟨c, _, rfl, fun _ => rfl, fun d hd => Option.some.inj hd, rfl⟩
  | none =>
    simp only
    rw [postLasting_room (by exact hroom)]
    exact ⟨_, _, rfl, fun h => absurd h (by simp), fun d hd => absurd hd (by simp), rfl⟩

/-! ## O43 -/

/-- Settles O43: a SEAM enters the HEAD's list and meets the committed set. -/
theorem seamEntersTheHead : Obligations.SeamEntersTheHead := by
  unfold Obligations.SeamEntersTheHead
  refine ⟨fun s p l m hrole hhears hparse hdue hpos hstop hpanel => ⟨fun hroom => ?_, fun e rest q hseams hfull hfirst hmerged hq => ?_⟩,
    fun s p l m n x y hrole hhears hparse hdue hroom hpos hstop hlaying hnext hitem hfollows hstart hdelayed hover => ?_,
    fun s u p l m hrole hhears hparse hu => ⟨fun hroom => ?_, fun k v hfires hk => ⟨fun hpanel => ?_, fun n x hnext hitem hover => ?_⟩⟩,
    fun s a => ⟨fun i e hfind hget => deliver_seamArrival hfind hget, fun i e hfind hget hroom => deliver_seamEnd hfind hget hroom, rfl⟩⟩
  · have hquiet := seam_into_room (s := { s with link.latch := none }) (m := m) hdue hroom hpos hstop
    rw [exec_seamAtHead hrole hhears hparse, settle_none hquiet]
    rw [enterSeam_of_room (s := { s with link.latch := none }) hroom] at hquiet ⊢
    rw [settle_marks hquiet hpanel]
    exact ⟨_, rfl, rfl, rfl, rfl, rfl, seamMarks_of rfl rfl⟩
  · have hextent : mergedExtent { s with link.latch := none } ⟨e.a, e.clear⟩ = q := by
      unfold mergedExtent
      cases hevicted : s.lay.evicted with
      | none => exact (hfirst hevicted).symm
      | some r => exact (hmerged r hevicted).symm
    have hquiet := seam_into_full (s := { s with link.latch := none }) (m := m) hdue hseams hfull hpos hstop (by rw [hextent]; exact hq)
    rw [exec_seamAtHead hrole hhears hparse, settle_none hquiet]
    rw [enterSeam_of_full (s := { s with link.latch := none }) hseams hfull, hextent] at hquiet ⊢
    rw [settle_marks hquiet hpanel]
    obtain ⟨hcountEnd, hcountArrival⟩ := count_watchesWithout e s.pos.watches
    refine ⟨_, rfl, rfl, seamMarks_of rfl rfl, ⟨_, rfl, fun w hw => ?_, ?_, fun w hw ha he hx => ?_, ?_, fun hnone => ?_⟩, ?_, ?_,
      fun hroom => ?_⟩
    · simpa using (List.mem_filter.mp hw).2
    · exact List.filter_sublist.trans (watchesWithout_sublist e _)
    · exact List.mem_filter.mpr ⟨mem_watchesWithout ha he hw, by simpa using hx⟩
    · rw [List.count_filter (by simp)]
      exact hcountEnd
    · rw [List.count_filter (by simp)]
      exact hcountArrival hnone
    · exact postLasting_slots _ _
    · exact postLasting_stn _ _
    · show (postLasting _ _).fault = _ ∧ (postLasting _ _).msg = _
      rw [postLasting_room (by exact hroom)]
      exact ⟨rfl, rfl⟩
  · have hquiet := seam_into_room (s := { s with link.latch := none }) (m := m) hdue hroom hpos hstop
    set z : State := { s with
      link.latch := none
      lay.laying := s.lay.laying.map (LayingItem.marked m.pos (m.pos + m.length))
      lay.seams := s.lay.seams ++ [m.entry]
      pos.watches := s.pos.watches ++ [⟨.flat, m.pos, .seamArrival⟩, ⟨.flat, m.pos + m.length, .seamEnd⟩] } with hz
    have hexec : exec (.seamAtHead s.neighbour p) s = .next (settle (seamOnNext m.pos (m.pos + m.length) z)) := by
      rw [exec_seamAtHead hrole hhears hparse, settle_none hquiet, seamOnLaying_eq,
        enterSeam_of_room (s := { s with link.latch := none }) hroom]
      rfl
    have hdueZ : nextDue z = none := by
      rw [enterSeam_of_room (s := { s with link.latch := none }) hroom] at hquiet
      exact (nextDue_of_pos rfl).trans hquiet
    have hseams : ∀ a b, overlapping z a b = overlapping { s with lay.seams := s.lay.seams ++ [m.entry] } a b := fun a b =>
      overlapping_congr rfl rfl a b
    obtain ⟨c, cs, hc⟩ : ∃ c cs, overlapping z n.flatStart n.flatEnd = c :: cs := by
      refine List.exists_cons_of_ne_nil (List.ne_nil_of_mem (a := m.entry.a + m.entry.length + m.entry.margin) ?_)
      exact mem_overlapping_iff.mpr (.inl ⟨m.entry, by simp [hz], hover, rfl⟩)
    obtain ⟨hlay, hslots, hstn, hfault⟩ := overlapped_next_rules (s := z) (y := y.marked m.pos (m.pos + m.length)) hdueZ
      (by rw [hz]; exact congrArg (Option.map _) hlaying) hnext hitem (hfollows.trans (marked_flatEnd _ _ y).symm) hstart hdelayed hover hc
    rw [hexec]
    refine ⟨_, (furthest c cs - n.flatStart).toNat, rfl, by rw [hlay], by rw [hlay], by rw [hlay]; rfl, by rw [hlay],
      layingMarks_of (by rw [hlay]), hslots, hstn, hfault, fun hnil hevicted => ?_, fun c' cs' hc' => ?_⟩
    · have hone : overlapping z n.flatStart n.flatEnd = [m.pos + m.length + m.margin] := by
        have hcover : rangesOverlap m.entry.a m.entry.stop n.flatStart n.flatEnd = true := hover
        unfold overlapping
        simp only [hz, hnil, hevicted, List.nil_append, List.append_nil, List.filter_cons, hcover, if_true, List.filter_nil, List.map_cons,
          List.map_nil]
        rfl
      obtain ⟨rfl, rfl⟩ := List.cons.inj (hc.symm.trans hone)
      rfl
    · have hseamsT : (settle (seamOnNext m.pos (m.pos + m.length) z)).lay.seams = s.lay.seams ++ [m.entry] := by rw [hlay]
      rw [hseamsT, ← hseams] at hc'
      obtain ⟨rfl, rfl⟩ := List.cons.inj (hc.symm.trans hc')
      rfl
  · rw [hu]
    exact enterSeam_of_room (s := { s with link.latch := none }) hroom
  · have hquiet := nextDue_of_fires hfires
    rw [exec_seamAtHead hrole hhears hparse]
    rw [show settle (enterSeam m.entry { s with link.latch := none }) = v from (congrArg settle hu).symm.trans (settle_of_fires hfires hk),
      settle_marks hquiet hpanel]
    exact ⟨_, rfl, rfl, seamMarks_of rfl rfl⟩
  · have hsettle : settle (enterSeam m.entry { s with link.latch := none }) = v :=
      (congrArg settle hu).symm.trans (settle_of_fires hfires hk)
    have hroleV : v.role = some .head := by
      have hcfg : v.cfg = s.cfg := by rw [← hsettle, settle_cfg, enterSeam_cfg]
      rw [role_congr hcfg]
      exact ((isRole_iff s .head).mp hrole).2
    set z : State := { v with lay.laying := v.lay.laying.map (LayingItem.marked m.pos (m.pos + m.length)) } with hz
    have hlayW := returnNext_lay x z
    refine ⟨returnNext x z, layingMarks_of (by rw [hlayW]), ?_, ?_, fun j t hfires' hj => ?_⟩
    · rw [returnNext_eq, reformOwn_eq]
      rfl
    · rw [returnNext_eq]
      exact reformOwn_spd_head (s := dropEvent .itemStart { z with lay.next := none, lay.queued := x :: z.lay.queued }) hroleV
    · rw [exec_seamAtHead hrole hhears hparse, hsettle, seamOnLaying_eq, seamOnNext_panel (s := z) hnext hitem hover,
        settle_of_fires hfires' hj]

end

end Sys2Proof.Machine
end

section
/-! PROOFS. O45, the start and the end of an item (R114, R115). -/

namespace Sys2Proof.Machine

section
variable {s u : State}

/-! ## A notice in the queue stays there -/

/-- A superseding notice touches no entry of another kind (R39). -/
theorem mem_supersede {m : Msg} {f : Frame} {e : QEntry} (hkind : e.frame.kind ≠ f.kind) (he : e ∈ m.queue) :
    e ∈ (m.supersede f).queue := by
  have hclear : (m.clearHeld f).queue = m.queue := by cases f <;> rfl
  unfold Msg.supersede
  split
  · exact List.mem_map.mpr ⟨e, he, if_neg hkind⟩
  · split
    · exact List.mem_append_left _ (by rw [hclear]; exact he)
    · rw [hold_queue]
      exact he

theorem mem_reformOwn {e : QEntry} (hkind : e.frame.kind ≠ 1) (he : e ∈ s.msg.queue) : e ∈ (reformOwn s).msg.queue := by
  unfold reformOwn
  simp only
  split
  · exact mem_supersede (f := .ceiling (ceilingNow (setOwn s))) hkind he
  · exact he

/-- Re-forming the own ceiling takes at most one entry of the queue. -/
theorem reformOwn_length_le (s : State) : (reformOwn s).msg.queue.length ≤ s.msg.queue.length + 1 := by
  unfold reformOwn
  simp only
  split
  · exact len_handCeiling (setOwn s)
  · exact Nat.le_succ _

/-- A lasting notice that finds room is the newest entry (R40). -/
theorem mem_postLasting {f : Frame} (h : s.msg.room = true) : ⟨f, 0, .waiting⟩ ∈ (postLasting f s).msg.queue := by
  rw [postLasting_room h]
  exact List.mem_append_right _ (List.mem_singleton.mpr rfl)

/-! ## What the commit rule leaves, whatever it finds -/

/-- The commit rule changes, of what an item's start and end look at, the NEXT item, the QUEUED panels, and adds a watch. -/
theorem commitRule_keeps (s : State) :
    (commitRule s).lay = { s.lay with next := (commitRule s).lay.next, queued := (commitRule s).lay.queued }
      ∧ (commitRule s).slots = s.slots ∧ s.pos.watches ⊆ (commitRule s).pos.watches
      ∧ (∀ w ∈ (commitRule s).pos.watches, w ∈ s.pos.watches ∨ w.event = .itemStart)
      ∧ ∀ e ∈ s.msg.queue, e.frame.kind ≠ 1 → e ∈ (commitRule s).msg.queue := by
  have hcommits : ∀ (item : Item) (u : State), u.pos = s.pos → u.slots = s.slots → u.msg = s.msg →
      u.lay = { s.lay with next := u.lay.next, queued := u.lay.queued } →
      (commitAt item (plannedStart s) u).lay = { s.lay with
          next := (commitAt item (plannedStart s) u).lay.next, queued := (commitAt item (plannedStart s) u).lay.queued }
        ∧ (commitAt item (plannedStart s) u).slots = s.slots ∧ s.pos.watches ⊆ (commitAt item (plannedStart s) u).pos.watches
        ∧ (∀ w ∈ (commitAt item (plannedStart s) u).pos.watches, w ∈ s.pos.watches ∨ w.event = .itemStart)
        ∧ ∀ e ∈ s.msg.queue, e.frame.kind ≠ 1 → e ∈ (commitAt item (plannedStart s) u).msg.queue := by
    intro item u hpos hslots hmsg hlay
    rw [commitAt_pos, commitAt_lay, commitAt_slots, hpos]
    refine ⟨?_, hslots, List.subset_append_left _ _, fun w hw => ?_, fun e he hkind => mem_reformOwn hkind (by rw [← hmsg] at he; exact he)⟩
    · rw [hlay]
    · rcases List.mem_append.mp hw with hold | hnew
      · exact .inl hold
      · exact .inr (by rw [List.mem_singleton.mp hnew])
  have hstays : s.lay = { s.lay with next := s.lay.next, queued := s.lay.queued } := rfl
  cases hnext : s.lay.next with
  | some n =>
    rw [commitRule_of_next hnext]
    exact ⟨rfl, rfl, fun _ h => h, fun _ h => .inl h, fun _ h _ => h⟩
  | none =>
    cases hslot : s.msg.pendingSlot with
    | some d =>
      obtain ⟨length, margin, hbody⟩ := pendingSlot_body hslot
      obtain ⟨r, id, body, f, h⟩ := d
      obtain rfl : body = .seamSlot length margin := hbody
      rw [commitRule_of_slot hnext hslot]
      exact hcommits _ s rfl rfl rfl hstays
    | none =>
      cases hqueued : s.lay.queued with
      | nil =>
        rw [commitRule_of_idle hnext hslot hqueued]
        exact ⟨rfl, rfl, fun _ h => h, fun _ h => .inl h, fun _ h _ => h⟩
      | cons p rest =>
        rw [commitRule_of_panel hnext hslot hqueued]
        cases hover : overlapping s (plannedStart s) (plannedStart s + word32 p.lf) with
        | nil =>
          rw [commitPanel_of_clear hover]
          exact hcommits _ { s with lay.queued := rest } rfl rfl rfl rfl
        | cons c cs =>
          rw [commitPanel_of_seam hover]
          exact hcommits _ s rfl rfl rfl hstays

theorem slot_congr (h : u.slots = s.slots) (n : Nat) : u.slot n = s.slot n := by rw [State.slot, State.slot, h]

/-! ## The start of an item (R114) -/

/-- The item as it starts: HALT set on a panel while HALTED. -/
def State.startedItem (s : State) (n : NextItem) : Item := if s.stn = .halted then n.item.flag fun f => { f with halt := true } else n.item

/-- The LAYING item a NEXT item becomes. -/
def State.started (s : State) (n : NextItem) : LayingItem := ⟨s.startedItem n, n.flatStart, s.pos.ch1.lu, 0, 0, 0, false, false⟩

/-- A started item, its mark and its first watch set, the PANEL PASS START not yet queued. -/
def State.withLaying (s : State) (n : NextItem) : State :=
  setWatch ⟨.flat, (s.started n).flatEnd, .itemEnd⟩ (setCascade { s with
    lay.laying := some (s.started n), lay.next := none, lay.mark := some n.flatStart, lay.error := 0 })

theorem deliver_itemStart {n : NextItem} {w : Word} (hnext : s.lay.next = some n) (hlaying : s.lay.laying = none) :
    deliver ⟨.flat, w, .itemStart⟩ s
      = commitRule (postLasting (passStartOf (s.startedItem n) s.pos.ch1.lu) (reformOwn (s.withLaying n))) := by
  have hdeliver : deliver ⟨.flat, w, .itemStart⟩ s = itemStart s := rfl
  rw [hdeliver]
  unfold itemStart
  simp only [hnext, hlaying]
  rfl

theorem setCascade_eq (s : State) : setCascade s = { s with pos.watches := (setCascade s).pos.watches } := by
  unfold setCascade
  split
  · split <;> rfl
  · rfl

theorem setCascade_subset (s : State) : s.pos.watches ⊆ (setCascade s).pos.watches := by
  unfold setCascade
  split
  · split
    · exact List.subset_append_left _ _
    · exact fun _ h => h
  · exact fun _ h => h

/-- The watch of the first stroke point or step end of a LAYING panel (R116). -/
theorem mem_setCascade {l : LayingItem} {x : Panel} {g : Geom} {r : StepRec} (hlaying : s.lay.laying = some l) (hitem : l.item = .panel x)
    (hstep : stepInForce s = some (g, r)) : ⟨.pleated, l.pleatedStart
      + word32 (pleatedBefore ((s.slot x.slot).geoms x.grade) (s.slot x.slot) l.step + pointInStep g r l.pleat l.stroke), .cascade⟩
        ∈ (setCascade s).pos.watches := by
  unfold setCascade
  simp only [hlaying, hstep, hitem]
  exact List.mem_append_right _ (List.mem_singleton.mpr rfl)

theorem withLaying_lay (n : NextItem) : (s.withLaying n).lay = { s.lay with
    laying := some (s.started n), next := none, mark := some n.flatStart, error := 0 } := by
  unfold State.withLaying
  rw [setCascade_eq]
  rfl

theorem withLaying_msg (n : NextItem) : (s.withLaying n).msg = s.msg := by
  unfold State.withLaying
  rw [setCascade_eq]
  rfl

theorem startedItem_flatLen (n : NextItem) : (s.startedItem n).flatLen = n.item.flatLen := by
  unfold State.startedItem
  split
  · cases n.item <;> rfl
  · rfl

/-- A started panel, in HALTED or not, is laid from the same slot at the same grade. -/
theorem startedItem_panel {n : NextItem} {x : Panel} (h : n.item = .panel x) :
    ∃ f, s.startedItem n = .panel { x with flags := f } := by
  unfold State.startedItem
  rw [h]
  split
  · exact ⟨_, rfl⟩
  · exact ⟨x.flags, rfl⟩

/-- The first stroke point or step end of a panel (R116). -/
theorem pointInStep_first (g : Geom) (r : StepRec) :
    pointInStep g r 0 0 = if g.k = 0 then r.repeats.toNat * g.p else if g.spp = 2 then g.p / 2 else g.p := by
  simp [pointInStep]

/-! ## The end of an item (R115) -/

/-- The last pleats of the LAYING item are not made: its step in force is FOLDED. -/
def State.cutShort (s : State) : Bool := ((stepInForce s).map fun x => decide (x.1.k ≠ 0)).getD false

/-- The state in which the PANEL PASS END is queued. -/
def State.withoutLaying (s : State) : State := { dropEvent .cascade s with lay.laying := none, lay.error := 0 }

theorem deliver_itemEnd {l : LayingItem} {w : Word} (hlaying : s.lay.laying = some l) : deliver ⟨.flat, w, .itemEnd⟩ s
    = commitRule (reformOwn (releaseItem (endedItem s l) (postLasting (passEndOf (endedItem s l)) s.withoutLaying))) :=
  itemEnd_of_laying hlaying

/-- What the end of an item leaves, its notice and its slot's count apart. -/
theorem itemEnd_rules {t : State} (hlay : t.lay = s.withoutLaying.lay) (hpos : t.pos = s.withoutLaying.pos) :
    (commitRule (reformOwn t)).lay.laying = none ∧ (commitRule (reformOwn t)).lay.error = 0
      ∧ (∀ w ∈ (commitRule (reformOwn t)).pos.watches, w.event ≠ .cascade) ∧ (commitRule (reformOwn t)).slots = t.slots
      ∧ ∀ e ∈ t.msg.queue, e.frame.kind ≠ 1 → e ∈ (commitRule (reformOwn t)).msg.queue := by
  obtain ⟨hlayC, hslotsC, -, hwatches, hqueue⟩ := commitRule_keeps (reformOwn t)
  rw [reformOwn_lay, hlay] at hlayC
  rw [reformOwn_pos, hpos] at hwatches
  refine ⟨by rw [hlayC]; rfl, by rw [hlayC]; rfl, fun w hw => ?_, by rw [hslotsC, reformOwn_slots],
    fun e he hkind => hqueue e (mem_reformOwn hkind he) hkind⟩
  rcases hwatches w hw with hold | hnew
  · simpa using (List.mem_filter.mp hold).2
  · rw [hnew]
    exact fun h => nomatch h

/-- A panel takes PLEAT at its end when it is cut short. -/
theorem endedItem_flags {l : LayingItem} {x : Panel} (h : l.item = .panel x) :
    endedItem s l = .panel { x with flags := { x.flags with pleat := x.flags.pleat || s.cutShort } } := by
  unfold endedItem State.cutShort
  rw [h]
  cases stepInForce s with
  | none => rw [Option.map_none, Option.getD_none, Bool.or_false]; rfl
  | some y =>
    rw [Option.map_some, Option.getD_some]
    by_cases hfolded : y.1.k ≠ 0
    · simp only [decide_eq_true hfolded, Bool.or_true]; rfl
    · simp only [decide_eq_false hfolded, Bool.or_false]; rfl

/-- Settles O45: an item starts at the pleated position with its notice, and ends with its notice and its slot's count lowered. -/
theorem itemsStartAndEnd : Obligations.ItemsStartAndEnd := by
  unfold Obligations.ItemsStartAndEnd
  refine ⟨fun s n w hnext hlaying => ?_, fun s l w hlaying => ?_⟩
  · rw [deliver_itemStart hnext hlaying]
    set x := postLasting (passStartOf (s.startedItem n) s.pos.ch1.lu) (reformOwn (s.withLaying n)) with hx
    obtain ⟨hlay, -, hwatches, -, hqueue⟩ := commitRule_keeps x
    have hlayX : x.lay = (s.withLaying n).lay := by rw [hx, postLasting_lay, reformOwn_lay]
    have hposX : x.pos = (s.withLaying n).pos := by rw [hx, postLasting_pos, reformOwn_pos]
    rw [hlayX, withLaying_lay] at hlay
    refine ⟨s.started n, by rw [hlay], rfl, fun h => if_neg h, fun y hstn hy => ?_, fun g hg => ?_, by rw [hlay], by rw [hlay],
      hwatches ?_, fun y g r hy hg hr => hwatches ?_, fun hlen => hqueue _ ?_ (by simp [Frame.kind])⟩
    · show s.startedItem n = _
      unfold State.startedItem
      rw [if_pos hstn, hy]
      rfl
    · show s.startedItem n = _
      unfold State.startedItem
      rw [hg]
      exact ite_self _
    · rw [hposX, ← startedItem_flatLen (s := s)]
      exact List.mem_append_right _ (List.mem_singleton.mpr rfl)
    · rw [hposX]
      obtain ⟨f, hf⟩ := startedItem_panel (s := s) hy
      set z : State := { s with lay.laying := some (s.started n), lay.next := none, lay.mark := some n.flatStart, lay.error := 0 } with hz
      have hstep : stepInForce z = some (g, r) := by
        have hitem : s.started n = ⟨.panel { y with flags := f }, n.flatStart, s.pos.ch1.lu, 0, 0, 0, false, false⟩ := by
          rw [State.started, hf]
        unfold stepInForce
        simp only [hz, hitem]
        have hg' : ((z.slot y.slot).geoms y.grade)[0]? = some g := hg
        rw [show (State.slot _ y.slot).geoms y.grade = (z.slot y.slot).geoms y.grade by simp only [hz, hitem], hg', Option.map_some, hr]
        rfl
      have hmem := mem_setCascade (s := z) (l := s.started n) rfl hf hstep
      have hfirst : pleatedBefore ((z.slot y.slot).geoms y.grade) (z.slot y.slot) 0 + pointInStep g r 0 0
          = if g.k = 0 then r.repeats.toNat * g.p else if g.spp = 2 then g.p / 2 else g.p := by
        rw [pointInStep_first]
        exact Nat.zero_add _
      rw [← hfirst]
      exact List.mem_append_left _ hmem
    · have hroom : (reformOwn (s.withLaying n)).msg.room = true := by
        have hle := reformOwn_length_le (s.withLaying n)
        rw [withLaying_msg] at hle
        exact room_of_lt (by omega)
      exact mem_postLasting hroom
  · cases hitem : l.item with
    | panel x =>
      rw [deliver_itemEnd hlaying, endedItem_flags hitem]
      set y : Panel := { x with flags := { x.flags with pleat := x.flags.pleat || s.cutShort } } with hy
      set t := postLasting (passEndOf (.panel y)) s.withoutLaying with ht
      have hlayT : t.lay = s.withoutLaying.lay := postLasting_lay _ _
      have hposT : t.pos = s.withoutLaying.pos := postLasting_pos _ _
      obtain ⟨hnone, herror, hwatches, hslots, hqueue⟩ := itemEnd_rules (s := s) (t := releaseItem (.panel y) t) hlayT hposT
      refine ⟨hnone, herror, hwatches, fun z hz hlt => ?_, fun g hg => nomatch hg⟩
      obtain rfl := Item.panel.inj hz
      refine ⟨?_, fun hroom => ?_⟩
      · rw [slot_congr hslots]
        have hslotT : t.slot x.slot = s.slot x.slot := slot_congr (postLasting_slots _ _) _
        have hloses := slot_slotLoses t y.slot hlt
        rw [if_pos rfl, hslotT] at hloses
        exact congrArg Slot.inUse hloses
      · have hmem : ⟨passEndOf (.panel y), 0, .waiting⟩ ∈ t.msg.queue := mem_postLasting (by exact hroom)
        have hframe := hqueue _ hmem (by simp [passEndOf, Frame.kind])
        have hflags : y.flags.ofPanel = { x.flags.ofPanel with pleat := x.flags.pleat || s.cutShort } := rfl
        have hpass : passEndOf (.panel y) = .passEnd ⟨false, half16 x.id, y.flags.ofPanel, .none, .none⟩ := rfl
        rw [hpass, hflags] at hframe
        unfold State.cutShort at hframe
        cases hstep : stepInForce s with
        | none => rw [hstep] at hframe; exact hframe
        | some z => rw [hstep] at hframe; exact hframe
    | gap g =>
      rw [deliver_itemEnd hlaying, endedItem_gap hitem]
      set t := postLasting (passEndOf (.gap g)) s.withoutLaying with ht
      have hlayT : t.lay = s.withoutLaying.lay := postLasting_lay _ _
      have hposT : t.pos = s.withoutLaying.pos := postLasting_pos _ _
      obtain ⟨hnone, herror, hwatches, hslots, hqueue⟩ := itemEnd_rules (s := s) (t := t) hlayT hposT
      refine ⟨hnone, herror, hwatches, fun z hz => absurd hz (by simp), fun g' hg hroom => ?_⟩
      obtain rfl := Item.gap.inj hg
      have hmem : ⟨passEndOf (.gap g), 0, .waiting⟩ ∈ t.msg.queue := mem_postLasting (by exact hroom)
      exact ⟨hslots.trans (postLasting_slots _ _), hqueue _ hmem (by simp [Frame.kind])⟩

end

end Sys2Proof.Machine
end

section
/-! PROOFS. O46, a stroke point and the end of a PLAIN step (R106, R108, R116 to R118). -/

namespace Sys2Proof.Machine

section
variable {s z : State} {l : LayingItem} {x : Panel} {g : Geom} {r : StepRec}

/-! ## The parts of a stroke point -/

/-- The LAYING panel with the marks of a slip and of an overrun. -/
def LayingItem.taken (x : Panel) (slip late : Bool) (l : LayingItem) : LayingItem :=
  { l with
    item := .panel { x with flags := { x.flags with pleat := x.flags.pleat || slip || late } }
    slipMark := l.slipMark || slip
    overrunMark := l.overrunMark || late }

theorem taken_none (hitem : l.item = .panel x) : l.taken x false false = l := by
  unfold LayingItem.taken
  simp only [Bool.or_false, ← hitem]

/-- An error above the limit, once a panel (R108). -/
def State.slips (s : State) (l : LayingItem) : Bool := !l.slipMark && decide (s.conf.slipLimit < s.lay.error.natAbs)

theorem slipTest_of_quiet (hlaying : s.lay.laying = some l) (h : s.slips l = false) : slipTest s = s := by
  unfold slipTest
  simp only [hlaying]
  refine if_neg fun ⟨hlimit, hmark⟩ => ?_
  rw [State.slips, hmark, decide_eq_true hlimit] at h
  exact nomatch h

theorem slipTest_of_slip (hlaying : s.lay.laying = some l) (hitem : l.item = .panel x) (h : s.slips l = true) :
    slipTest s = recordFault .pleatSlip x.id { s with lay.laying := some (l.taken x true false) } := by
  obtain ⟨hmark, hlimit⟩ := Bool.and_eq_true_iff.mp h
  have hunmarked : l.slipMark = false := by simpa using hmark
  unfold slipTest
  simp only [hlaying]
  rw [if_pos ⟨of_decide_eq_true hlimit, hunmarked⟩]
  simp only [onLaying, hlaying, Option.map_some, hitem, LayingItem.taken, hunmarked, Bool.or_true, Bool.or_false]
  rfl

/-- A stroke is overrun: one is in flight, outside HALTED (R118). -/
def State.overruns (s : State) : Bool := decide (s.stn ≠ .halted) && s.lay.inFlight

theorem strokeAt_halted {side : Side} (h : s.stn = .halted) : strokeAt side s = s := if_pos h

theorem strokeAt_given {side : Side} (hstn : s.stn ≠ .halted) (hflight : s.lay.inFlight = false) : strokeAt side s = giveStroke side s := by
  rw [strokeAt, if_neg hstn, if_neg (by rw [hflight]; simp)]

theorem strokeAt_overrun {side : Side} (h : s.overruns = true) : strokeAt side s = overrun s := by
  obtain ⟨hstn, hflight⟩ := Bool.and_eq_true_iff.mp h
  rw [strokeAt, if_neg (of_decide_eq_true hstn), if_pos hflight]

theorem overrun_marked (hlaying : s.lay.laying = some l) (hitem : l.item = .panel x) (hmark : l.overrunMark = true) :
    overrun s = { s with lay.laying := some (l.taken x false true) } := by
  unfold overrun flagLaying
  simp only [onLaying, hlaying, Option.map_some, hmark, hitem, LayingItem.taken, Bool.or_true, Bool.or_false, if_true]
  rfl

theorem overrun_unmarked (hlaying : s.lay.laying = some l) (hitem : l.item = .panel x) (hmark : l.overrunMark = false) :
    overrun s = recordFault .strokeOverrun x.id { s with lay.laying := some (l.taken x false true) } := by
  unfold overrun flagLaying
  simp only [onLaying, hlaying, Option.map_some, hmark, hitem, LayingItem.taken, Bool.or_true, Bool.or_false]
  rfl

theorem giveStroke_rules (side : Side) (s : State) :
    giveStroke side s = { s with lay := (giveStroke side s).lay }
      ∧ (giveStroke side s).lay = { s.lay with
          inFlight := true, bladeTimer := some s.conf.bladeTimeout
          pulseLeft := if side = .left then some 5 else s.lay.pulseLeft, pulseRight := if side = .right then some 5 else s.lay.pulseRight } := by
  cases side <;> exact ⟨rfl, rfl⟩

/-! ## The LAYING item and the notices, through the slip test and the stroke -/

/-- The slip test writes the LAYING item's marks and, with a slip, a fault and its notice. -/
theorem slipTest_rules (hlaying : s.lay.laying = some l) (hitem : l.item = .panel x) :
    (slipTest s).lay = { s.lay with laying := some (l.taken x (s.slips l) false) } ∧ (slipTest s).pos = s.pos
      ∧ (slipTest s).slots = s.slots ∧ (slipTest s).stn = s.stn ∧ (slipTest s).cfg = s.cfg
      ∧ (s.slips l = false → (slipTest s).fault = s.fault ∧ (slipTest s).msg = s.msg)
      ∧ (s.slips l = true → s.live = true → s.msg.room = true →
          (slipTest s).fault = some ⟨.pleatSlip, half16 x.id, s.stn⟩
            ∧ (slipTest s).msg = s.msg.place (.fault ⟨.pleatSlip, half16 x.id, s.stn⟩)) := by
  cases hslip : s.slips l with
  | false =>
    rw [slipTest_of_quiet hlaying hslip, taken_none hitem, ← hlaying]
    exact ⟨rfl, rfl, rfl, rfl, rfl, fun _ => ⟨rfl, rfl⟩, fun h => nomatch h⟩
  | true =>
    rw [slipTest_of_slip hlaying hitem hslip]
    refine ⟨recordFault_lay _ _ _, recordFault_pos _ _ _, recordFault_slots _ _ _, recordFault_stn _ _ _, recordFault_cfg _ _ _,
      (fun h => nomatch h), fun _ hlive hroom => ?_⟩
    rw [recordFault_room (by exact hroom) (by exact hlive)]
    exact ⟨rfl, rfl⟩

/-- The stroke at a stroke point, or its overrun. -/
theorem strokeAt_rules (side : Side) (hlaying : s.lay.laying = some l) (hitem : l.item = .panel x) :
    (strokeAt side s).lay.laying = some (l.taken x false s.overruns) ∧ (strokeAt side s).lay.mark = s.lay.mark
      ∧ (strokeAt side s).lay.error = s.lay.error ∧ (strokeAt side s).pos = s.pos ∧ (strokeAt side s).slots = s.slots
      ∧ (strokeAt side s).stn = s.stn
      ∧ (s.overruns = false ∨ l.overrunMark = true → (strokeAt side s).fault = s.fault ∧ (strokeAt side s).msg = s.msg)
      ∧ (s.overruns = true → l.overrunMark = false → s.live = true → s.msg.room = true →
          (strokeAt side s).fault = some ⟨.strokeOverrun, half16 x.id, s.stn⟩
            ∧ (strokeAt side s).msg = s.msg.place (.fault ⟨.strokeOverrun, half16 x.id, s.stn⟩))
      ∧ (s.stn = .halted ∨ s.lay.inFlight = true →
          (strokeAt side s).lay.inFlight = s.lay.inFlight ∧ (strokeAt side s).lay.bladeTimer = s.lay.bladeTimer
            ∧ (strokeAt side s).lay.pulseLeft = s.lay.pulseLeft ∧ (strokeAt side s).lay.pulseRight = s.lay.pulseRight)
      ∧ (s.stn ≠ .halted → s.lay.inFlight = false →
          (strokeAt side s).lay.inFlight = true ∧ (strokeAt side s).lay.bladeTimer = some s.conf.bladeTimeout
            ∧ (strokeAt side s).lay.pulseLeft = (if side = .left then some 5 else s.lay.pulseLeft)
            ∧ (strokeAt side s).lay.pulseRight = (if side = .right then some 5 else s.lay.pulseRight)) := by
  cases hover : s.overruns with
  | true =>
    obtain ⟨hstn, hflight⟩ := Bool.and_eq_true_iff.mp hover
    rw [strokeAt_overrun hover]
    have hnever : s.lay.inFlight ≠ false := by rw [hflight]; simp
    cases hmark : l.overrunMark with
    | true =>
      rw [overrun_marked hlaying hitem hmark]
      exact ⟨rfl, rfl, rfl, rfl, rfl, rfl, fun _ => ⟨rfl, rfl⟩, (fun _ h => nomatch h), fun _ => ⟨rfl, rfl, rfl, rfl⟩,
        fun _ h => absurd h hnever⟩
    | false =>
      rw [overrun_unmarked hlaying hitem hmark, recordFault_lay, recordFault_pos, recordFault_slots, recordFault_stn]
      refine ⟨rfl, rfl, rfl, rfl, rfl, rfl, fun h => h.elim (fun h => nomatch h) (fun h => nomatch h), fun _ _ hlive hroom => ?_,
        fun _ => ⟨rfl, rfl, rfl, rfl⟩, fun _ h => absurd h hnever⟩
      rw [recordFault_room (by exact hroom) (by exact hlive)]
      exact ⟨rfl, rfl⟩
  | false =>
    rw [taken_none hitem]
    by_cases hstn : s.stn = .halted
    · rw [strokeAt_halted hstn]
      exact ⟨hlaying, rfl, rfl, rfl, rfl, rfl, fun _ => ⟨rfl, rfl⟩, (fun h => nomatch h), fun _ => ⟨rfl, rfl, rfl, rfl⟩,
        fun h => absurd hstn h⟩
    · have hflight : s.lay.inFlight = false := by
        rw [State.overruns, decide_eq_true hstn, Bool.true_and] at hover
        exact hover
      obtain ⟨heq, hlay⟩ := giveStroke_rules side s
      rw [strokeAt_given hstn hflight]
      refine ⟨by rw [hlay]; exact hlaying, by rw [hlay], by rw [hlay], by rw [heq], by rw [heq], by rw [heq],
        fun _ => ⟨by rw [heq], by rw [heq]⟩, (fun h => nomatch h), fun h => ?_, fun _ _ => by rw [hlay]; exact ⟨rfl, rfl, rfl, rfl⟩⟩
      exact h.elim (fun h => absurd h hstn) fun h => absurd (h.symm.trans hflight) (by simp)

/-! ## The cascade's next watch (R116) -/

/-- The pleated length of the steps before a step, as a sum over the step numbers. -/
theorem pleatedBefore_eq (geoms : List Geom) (sl : Slot) (j : Nat) : pleatedBefore geoms sl j
    = ((List.range j).map fun i => (sl.record i).repeats.toNat * (geoms.getD i ⟨0, 0, 0, 0⟩).p).sum := by
  unfold pleatedBefore
  induction j with
  | zero => simp
  | succ j ih =>
    rw [List.range_succ, List.map_append, List.sum_append, ← ih, List.take_add_one, List.mapIdx_append, List.sum_append]
    congr 1
    by_cases hj : j < geoms.length
    · simp [hj, Nat.min_eq_left hj.le]
    · simp [hj]

theorem setCascade_none (h : stepInForce s = none) : setCascade s = s := by
  unfold setCascade
  rw [h]
  split <;> simp_all

theorem stepInForce_setCascade (s : State) : stepInForce (setCascade s) = stepInForce s := by
  rw [setCascade_eq]
  rfl

theorem setCascade_some (hlaying : s.lay.laying = some l) (hitem : l.item = .panel x) (hstep : stepInForce s = some (g, r)) :
    (setCascade s).pos.watches = s.pos.watches ++ [⟨.pleated, l.pleatedStart
      + word32 (pleatedBefore ((s.slot x.slot).geoms x.grade) (s.slot x.slot) l.step + pointInStep g r l.pleat l.stroke), .cascade⟩] := by
  unfold setCascade
  simp only [hlaying, hstep, hitem]
  rfl

/-! ## The cascade's watch fires -/

theorem deliver_cascade_folded {w : Word} (hlaying : s.lay.laying = some l) (hstep : stepInForce s = some (g, r)) (hk : g.k ≠ 0) :
    deliver ⟨.pleated, w, .cascade⟩ s
      = setCascade (onLaying (countStroke g r) (strokeAt (strokeSide g r l.stroke) (slipTest (advanceMark g s)))) := by
  have hdeliver : deliver ⟨.pleated, w, .cascade⟩ s = cascadeFires s := rfl
  rw [hdeliver]
  unfold cascadeFires
  simp only [hlaying, hstep, if_neg hk]

theorem deliver_cascade_plain {w : Word} (hlaying : s.lay.laying = some l) (hstep : stepInForce s = some (g, r)) (hk : g.k = 0) :
    deliver ⟨.pleated, w, .cascade⟩ s = setCascade { s with
      lay.mark := s.lay.mark.map (· + word32 (r.repeats.toNat * g.p)), lay.laying := some { l with pleat := 0, step := l.step + 1 } } := by
  have hdeliver : deliver ⟨.pleated, w, .cascade⟩ s = cascadeFires s := rfl
  rw [hdeliver]
  unfold cascadeFires
  simp only [hlaying, hstep, if_pos hk, onLaying, Option.map_some]

theorem advanceMark_eq (g : Geom) (s : State) :
    advanceMark g s = { s with lay.mark := (advanceMark g s).lay.mark, lay.error := (advanceMark g s).lay.error } := by
  unfold advanceMark
  split <;> rfl

theorem advanceMark_some {mark : Word} (h : s.lay.mark = some mark) : advanceMark g s = { s with
    lay.mark := some (mark + word32 (g.f / g.spp)), lay.error := sdiff s.pos.ch0.lu (mark + word32 (g.f / g.spp)) } := by
  unfold advanceMark
  simp only [h]
  rfl

/-- What fires at a stroke point, the counters and the next watch apart. -/
def State.stroked (g : Geom) (r : StepRec) (l : LayingItem) (s : State) : State :=
  strokeAt (strokeSide g r l.stroke) (slipTest (advanceMark g s))

theorem taken_taken (slip late : Bool) (l : LayingItem) :
    (l.taken x slip false).taken { x with flags := { x.flags with pleat := x.flags.pleat || slip || false } } false late
      = l.taken x slip late := by
  simp only [LayingItem.taken, Bool.or_false]

/-- A stroke point: the marks it leaves on the LAYING panel, and its faults, in the order of the slip test and the stroke. -/
theorem stroked_rules (hlaying : s.lay.laying = some l) (hitem : l.item = .panel x) :
    (s.stroked g r l).lay.laying = some (l.taken x ((advanceMark g s).slips l) s.overruns)
      ∧ (s.stroked g r l).lay.mark = (advanceMark g s).lay.mark ∧ (s.stroked g r l).lay.error = (advanceMark g s).lay.error
      ∧ (s.stroked g r l).pos = s.pos ∧ (s.stroked g r l).slots = s.slots ∧ (s.stroked g r l).stn = s.stn
      ∧ (s.stn = .halted ∨ s.lay.inFlight = true →
          (s.stroked g r l).lay.inFlight = s.lay.inFlight ∧ (s.stroked g r l).lay.bladeTimer = s.lay.bladeTimer
            ∧ (s.stroked g r l).lay.pulseLeft = s.lay.pulseLeft ∧ (s.stroked g r l).lay.pulseRight = s.lay.pulseRight)
      ∧ (s.stn ≠ .halted → s.lay.inFlight = false →
          (s.stroked g r l).lay.inFlight = true ∧ (s.stroked g r l).lay.bladeTimer = some s.conf.bladeTimeout
            ∧ (s.stroked g r l).lay.pulseLeft = (if strokeSide g r l.stroke = .left then some 5 else s.lay.pulseLeft)
            ∧ (s.stroked g r l).lay.pulseRight = (if strokeSide g r l.stroke = .right then some 5 else s.lay.pulseRight)) := by
  have hadvance := advanceMark_eq g s
  set a := advanceMark g s with ha
  have hlayA : a.lay.laying = some l := by rw [hadvance]; exact hlaying
  have hposA : a.pos = s.pos := by rw [hadvance]
  have hslotsA : a.slots = s.slots := by rw [hadvance]
  have hstnA : a.stn = s.stn := by rw [hadvance]
  have hcfgA : a.cfg = s.cfg := by rw [hadvance]
  have hflightA : a.lay.inFlight = s.lay.inFlight ∧ a.lay.bladeTimer = s.lay.bladeTimer ∧ a.lay.pulseLeft = s.lay.pulseLeft
      ∧ a.lay.pulseRight = s.lay.pulseRight := by rw [hadvance]; exact ⟨rfl, rfl, rfl, rfl⟩
  obtain ⟨hlay, hpos, hslots, hstn, hcfg, -⟩ := slipTest_rules hlayA hitem
  have hlayB : (slipTest a).lay.laying = some (l.taken x (a.slips l) false) := by rw [hlay]
  have hover : (slipTest a).overruns = s.overruns := by rw [State.overruns, State.overruns, hstn, hstnA, hlay, hflightA.1]
  obtain ⟨hlayC, hmark, herror, hposC, hslotsC, hstnC, -, -, hkept, hgiven⟩ :=
    strokeAt_rules (strokeSide g r l.stroke) hlayB rfl
  have hconf : (slipTest a).conf = s.conf := by rw [State.conf, State.conf, hcfg, hcfgA]
  rw [hover, taken_taken] at hlayC
  rw [hstn, hstnA, hlay] at hkept hgiven
  rw [hconf] at hgiven
  simp only [hflightA] at hkept hgiven
  exact ⟨hlayC, by rw [State.stroked, hmark, hlay], by rw [State.stroked, herror, hlay], hposC.trans (hpos.trans hposA),
    hslotsC.trans (hslots.trans hslotsA), hstnC.trans (hstn.trans hstnA), hkept, hgiven⟩

theorem countStroke_keeps (g : Geom) (r : StepRec) (l : LayingItem) :
    (countStroke g r l).item = l.item ∧ (countStroke g r l).flatStart = l.flatStart ∧ (countStroke g r l).pleatedStart = l.pleatedStart
      ∧ (countStroke g r l).slipMark = l.slipMark ∧ (countStroke g r l).overrunMark = l.overrunMark := by
  unfold countStroke
  split_ifs <;> exact ⟨rfl, rfl, rfl, rfl, rfl⟩

/-- The counters after a stroke point (R116). -/
theorem countStroke_counters (g : Geom) (r : StepRec) (l : LayingItem) :
    (l.stroke + 1 < g.spp → (countStroke g r l).stroke = l.stroke + 1 ∧ (countStroke g r l).pleat = l.pleat
        ∧ (countStroke g r l).step = l.step)
      ∧ (g.spp ≤ l.stroke + 1 → l.pleat + 1 < r.repeats.toNat → (countStroke g r l).stroke = 0
        ∧ (countStroke g r l).pleat = l.pleat + 1 ∧ (countStroke g r l).step = l.step)
      ∧ (g.spp ≤ l.stroke + 1 → r.repeats.toNat ≤ l.pleat + 1 → (countStroke g r l).stroke = 0 ∧ (countStroke g r l).pleat = 0
        ∧ (countStroke g r l).step = l.step + 1) := by
  unfold countStroke
  refine ⟨fun h => ?_, fun h hp => ?_, fun h hp => ?_⟩
  · rw [if_pos h]
    exact ⟨rfl, rfl, rfl⟩
  · rw [if_neg (Nat.not_lt.mpr h), if_pos hp]
    exact ⟨rfl, rfl, rfl⟩
  · rw [if_neg (Nat.not_lt.mpr h), if_neg (Nat.not_lt.mpr hp)]
    exact ⟨rfl, rfl, rfl⟩

/-- The faults of a stroke point and their notices, with room for two (R108, R118). -/
theorem stroked_faults (hlaying : s.lay.laying = some l) (hitem : l.item = .panel x) (hlive : s.live = true)
    (hroom : s.msg.queue.length ≤ 10) (slip : Bool) (hslip : slip = (advanceMark g s).slips l) :
    (s.overruns = true → l.overrunMark = false → (s.stroked g r l).fault = some ⟨.strokeOverrun, half16 x.id, s.stn⟩)
      ∧ (slip = true → s.overruns = false ∨ l.overrunMark = true →
          (s.stroked g r l).fault = some ⟨.pleatSlip, half16 x.id, s.stn⟩)
      ∧ (slip = false → s.overruns = false ∨ l.overrunMark = true →
          (s.stroked g r l).fault = s.fault ∧ (s.stroked g r l).msg = s.msg)
      ∧ (slip = true → ⟨.fault ⟨.pleatSlip, half16 x.id, s.stn⟩, 0, .waiting⟩ ∈ (s.stroked g r l).msg.queue)
      ∧ (s.overruns = true → l.overrunMark = false →
          ⟨.fault ⟨.strokeOverrun, half16 x.id, s.stn⟩, 0, .waiting⟩ ∈ (s.stroked g r l).msg.queue) := by
  have hadvance := advanceMark_eq g s
  set a := advanceMark g s with ha
  have hlayA : a.lay.laying = some l := by rw [hadvance]; exact hlaying
  have hstnA : a.stn = s.stn := by rw [hadvance]
  have hmsgA : a.msg = s.msg := by rw [hadvance]
  have hfaultA : a.fault = s.fault := by rw [hadvance]
  have hflightA : a.lay.inFlight = s.lay.inFlight := by rw [hadvance]
  have hliveA : a.live = true := by rw [State.live, hstnA]; exact hlive
  obtain ⟨hlay, -, -, hstn, -, hquiet, hslips⟩ := slipTest_rules hlayA hitem
  have hlayB : (slipTest a).lay.laying = some (l.taken x (a.slips l) false) := by rw [hlay]
  have hover : (slipTest a).overruns = s.overruns := by rw [State.overruns, State.overruns, hstn, hstnA, hlay, hflightA]
  have hliveB : (slipTest a).live = true := by rw [State.live, hstn]; exact hliveA
  have hmarkB : (l.taken x (a.slips l) false).overrunMark = l.overrunMark := Bool.or_false _
  obtain ⟨-, -, -, -, -, -, hkeeps, hoverruns, -⟩ := strokeAt_rules (strokeSide g r l.stroke) hlayB rfl
  rw [hmarkB] at hkeeps hoverruns
  rw [hover] at hkeeps hoverruns
  rw [hstn, hstnA] at hoverruns
  subst hslip
  have hslipped : a.slips l = true → (slipTest a).fault = some ⟨.pleatSlip, half16 x.id, s.stn⟩
      ∧ (slipTest a).msg = s.msg.place (.fault ⟨.pleatSlip, half16 x.id, s.stn⟩) := fun h => by
    have hboth := hslips h hliveA (by rw [hmsgA]; exact room_of_lt (by omega))
    rw [hstnA, hmsgA] at hboth
    exact hboth
  have hroomB : (slipTest a).msg.room = true := by
    cases hslip : a.slips l with
    | false =>
      rw [(hquiet hslip).2, hmsgA]
      exact room_of_lt (by omega)
    | true =>
      rw [(hslipped hslip).2]
      exact room_of_lt (by simp only [Msg.place, List.length_append, List.length_singleton]; omega)
  have hover' := fun h hmark => hoverruns h hmark hliveB hroomB
  refine ⟨fun h hmark => (hover' h hmark).1, fun hslip h => (hkeeps h).1.trans (hslipped hslip).1, fun hslip h => ?_, fun hslip => ?_,
    fun h hmark => ?_⟩
  · exact ⟨(hkeeps h).1.trans ((hquiet hslip).1.trans hfaultA), (hkeeps h).2.trans ((hquiet hslip).2.trans hmsgA)⟩
  · have hmem : ⟨.fault ⟨.pleatSlip, half16 x.id, s.stn⟩, 0, .waiting⟩ ∈ (slipTest a).msg.queue := by
      rw [(hslipped hslip).2]
      exact List.mem_append_right _ (List.mem_singleton.mpr rfl)
    have hcases : (s.overruns = false ∨ l.overrunMark = true) ∨ (s.overruns = true ∧ l.overrunMark = false) := by
      cases s.overruns <;> cases l.overrunMark <;> simp
    rcases hcases with h | ⟨h, hmark⟩
    · rw [State.stroked, (hkeeps h).2]
      exact hmem
    · rw [State.stroked, (hover' h hmark).2]
      exact List.mem_append_left _ hmem
  · rw [State.stroked, (hover' h hmark).2]
    exact List.mem_append_right _ (List.mem_singleton.mpr rfl)

/-- Before the next watch is set, a stroke point or the end of a PLAIN step leaves the panel LAYING from where it was. -/
theorem cascade_base {w : Word} (hlaying : s.lay.laying = some l) (hitem : l.item = .panel x) (hstep : stepInForce s = some (g, r)) :
    ∃ z l' f, deliver ⟨.pleated, w, .cascade⟩ s = setCascade z ∧ z.lay.laying = some l' ∧ l'.item = .panel { x with flags := f }
      ∧ l'.pleatedStart = l.pleatedStart ∧ z.pos = s.pos ∧ z.slots = s.slots := by
  by_cases hk : g.k = 0
  · rw [deliver_cascade_plain hlaying hstep hk]
    exact ⟨_, _, x.flags, rfl, rfl, hitem, rfl, rfl, rfl⟩
  · rw [deliver_cascade_folded hlaying hstep hk]
    obtain ⟨hlay, -, -, hpos, hslots, -⟩ := stroked_rules (g := g) (r := r) hlaying hitem
    obtain ⟨hitemC, -, hstartC, -⟩ := countStroke_keeps g r (l.taken x ((advanceMark g s).slips l) s.overruns)
    exact ⟨_, _, _, rfl, congrArg (Option.map (countStroke g r)) hlay, hitemC, hstartC, hpos, hslots⟩

/-- Settles O46: stroke points and PLAIN step ends. -/
theorem strokePointsAreTaken : Obligations.StrokePointsAreTaken := by
  unfold Obligations.StrokePointsAreTaken
  refine ⟨fun s t l x g r mark w hlaying hitem hstep hk hmark ht => ?_, fun s l x g r w hlaying hitem hstep hk => ?_,
    fun s t l l' x g r w hlaying hitem hstep ht hlaying' => ?_⟩
  · obtain ⟨hlay, hmarkT, herrorT, -, -, hstn, hkept, hgiven⟩ := stroked_rules (g := g) (r := r) hlaying hitem
    have hadvance := advanceMark_some (g := g) hmark
    have hslips : (advanceMark g s).slips l
        = (!l.slipMark && decide (s.conf.slipLimit < (sdiff s.pos.ch0.lu (mark + word32 (g.f / g.spp))).natAbs)) := by
      rw [hadvance]
      rfl
    set z := onLaying (countStroke g r) (s.stroked g r l) with hz
    have hT : t = setCascade z := ht.trans (deliver_cascade_folded hlaying hstep hk)
    have hlayT : t.lay = z.lay := by rw [hT, setCascade_eq]
    have hstnT : t.stn = (s.stroked g r l).stn := by rw [hT, setCascade_eq]; rfl
    have hfaultT : t.fault = (s.stroked g r l).fault := by rw [hT, setCascade_eq]; rfl
    have hmsgT : t.msg = (s.stroked g r l).msg := by rw [hT, setCascade_eq]; rfl
    obtain ⟨hitemC, hflatC, hpleatedC, hslipC, hoverC⟩ := countStroke_keeps g r (l.taken x ((advanceMark g s).slips l) s.overruns)
    obtain ⟨hstroke, hpleat, hstep'⟩ := countStroke_counters g r (l.taken x ((advanceMark g s).slips l) s.overruns)
    rw [hlayT]
    refine ⟨?_, ?_, ⟨_, congrArg (Option.map (countStroke g r)) hlay, hflatC, hpleatedC, ?_, ?_, ?_, fun hstnS hflight => ?_,
      fun slip late hslip hlate => ?_⟩, fun h => ?_, fun h => ?_, fun h hflight => ?_⟩
    · show (s.stroked g r l).lay.mark = _
      rw [hmarkT, hadvance]
    · show (s.stroked g r l).lay.error = _
      rw [herrorT, hadvance]
    · exact hstroke
    · exact hpleat
    · exact hstep'
    · have hover : s.overruns = true := by rw [State.overruns, decide_eq_true hstnS, hflight]; rfl
      exact ⟨_, hitemC, by simp only [hover, Bool.or_true]⟩
    · have hlate' : late = s.overruns := hlate
      rw [← hslips] at hslip
      subst hslip
      subst hlate'
      refine ⟨hitemC, hslipC, hoverC, hstnT.trans hstn, fun hlive hroom => ?_⟩
      rw [hfaultT, hmsgT]
      exact stroked_faults hlaying hitem hlive hroom _ rfl
    · obtain ⟨hflight, -, hleft, hright⟩ := hkept (.inl h)
      exact ⟨hflight, hleft, hright⟩
    · obtain ⟨hflight, hblade, hleft, hright⟩ := hkept (.inr h)
      exact ⟨hflight.trans h, hblade, hleft, hright⟩
    · obtain ⟨hflight', hblade, hleft, hright⟩ := hgiven h hflight
      have hsides : ∀ side, strokeSide g r l.stroke = side → z.lay.pulseLeft = (if side = .left then some 5 else s.lay.pulseLeft)
          ∧ z.lay.pulseRight = (if side = .right then some 5 else s.lay.pulseRight) := by
        rintro _ rfl
        exact ⟨hleft, hright⟩
      refine ⟨hflight', hblade, fun hspp hstroke => ?_, fun hspp hstroke => ?_, fun hspp hdir => ?_, fun hspp hdir => ?_⟩
      · exact hsides .left (by rw [strokeSide, if_pos hspp, if_pos hstroke])
      · exact (hsides .right (by rw [strokeSide, if_pos hspp, if_neg hstroke])).symm
      · exact hsides .left (by rw [strokeSide, if_neg hspp, hdir]; rfl)
      · exact (hsides .right (by rw [strokeSide, if_neg hspp, hdir]; rfl)).symm
  · rw [deliver_cascade_plain hlaying hstep hk, setCascade_eq]
  · obtain ⟨z, lz, f, hdeliver, hlayZ, hitemZ, hstartZ, hposZ, hslotsZ⟩ := cascade_base (w := w) hlaying hitem hstep
    have hsame : lz = l' := by
      rw [ht, hdeliver, setCascade_eq] at hlaying'
      exact Option.some.inj (hlayZ.symm.trans hlaying')
    subst hsame
    have hslot : z.slot x.slot = s.slot x.slot := slot_congr hslotsZ _
    rw [ht, hdeliver, stepInForce_setCascade]
    refine ⟨fun hnone => ?_, fun g' r' base point hsome hbase hpoint => ?_⟩
    · rw [setCascade_none hnone, hposZ]
    · rw [setCascade_some hlayZ hitemZ hsome, hposZ, hstartZ, hbase, hpoint, ← pleatedBefore_eq]
      simp only [hslot]
      rfl

end

end Sys2Proof.Machine
end

section
/-! PROOFS. O48, the blade and the stroke pulses (R117, R118, R168). -/

namespace Sys2Proof.Machine

section
variable {s u : State}

/-! ## In HALTED no stroke is given, whatever fires -/

/-- The stroke in flight and its timer. -/
def State.blade (s : State) : Bool × Timer := (s.lay.inFlight, s.lay.bladeTimer)

theorem blade_of_lay (h : u.lay = s.lay) : u.blade = s.blade := by rw [State.blade, State.blade, h]

theorem reformOwn_blade (s : State) : (reformOwn s).blade = s.blade := blade_of_lay (reformOwn_lay s)
theorem postLasting_blade (f : Frame) (s : State) : (postLasting f s).blade = s.blade := blade_of_lay (postLasting_lay f s)

theorem commitRule_blade (s : State) : (commitRule s).blade = s.blade := by
  obtain ⟨hlay, -⟩ := commitRule_keeps s
  rw [State.blade, hlay]
  rfl

theorem setCascade_blade (s : State) : (setCascade s).blade = s.blade := by
  rw [setCascade_eq]
  rfl

theorem itemEnd_blade (s : State) : (itemEnd s).blade = s.blade := by
  cases hlaying : s.lay.laying with
  | none => rw [itemEnd_of_none hlaying]
  | some l =>
    rw [itemEnd_of_laying hlaying, commitRule_blade, reformOwn_blade, State.blade, releaseItem_lay]
    exact postLasting_blade _ _

theorem startItem_blade (n : NextItem) (s : State) : (startItem n s).blade = s.blade := by
  unfold startItem
  rw [commitRule_blade, postLasting_blade, reformOwn_blade]
  exact setCascade_blade _

theorem itemStart_blade (s : State) : (itemStart s).blade = s.blade := by
  unfold itemStart
  split
  · rfl
  · split
    · exact startItem_blade _ _
    · rw [startItem_blade, itemEnd_blade]
      rfl

theorem slipTest_blade (s : State) : (slipTest s).blade = s.blade := by
  unfold slipTest
  split
  · split
    · refine (blade_of_lay (recordFault_lay _ _ _)).trans ?_
      rfl
    · rfl
  · rfl

theorem slipTest_stn (s : State) : (slipTest s).stn = s.stn := (congrArg (fun u : State => u.stn) (slipTest_sansWatched s) :)
theorem deliver_stn (w : Watch) (s : State) : (deliver w s).stn = s.stn := (congrArg (fun u : State => u.stn) (deliver_sansWatched w s) :)

theorem cascadeFires_blade (h : s.stn = .halted) : (cascadeFires s).blade = s.blade := by
  unfold cascadeFires
  split
  · next l g r hlaying hstep =>
    split
    · exact setCascade_blade _
    · rw [setCascade_blade, strokeAt_halted (by rw [slipTest_stn, advanceMark_eq]; exact h)]
      show (slipTest (advanceMark g s)).blade = s.blade
      rw [slipTest_blade, advanceMark_eq]
      rfl
  · rfl

theorem seamArrival_blade (a : Word) (s : State) : (seamArrival a s).blade = s.blade := by
  unfold seamArrival
  split <;> rfl

theorem seamPassed_blade (a : Word) (s : State) : (seamPassed a s).blade = s.blade := by
  unfold seamPassed
  split
  · rfl
  · split
    · rfl
    · simp only
      split
      · exact postLasting_blade _ _
      · exact postLasting_blade _ _

theorem spanEntry_blade (a : Word) (s : State) : (spanEntry a s).blade = s.blade := by
  unfold spanEntry
  split
  · rfl
  · split
    · rfl
    · simp only
      split
      · split
        · rfl
        · exact postLasting_blade _ _
      · rfl

theorem spanLeave_blade (a : Word) (s : State) : (spanLeave a s).blade = s.blade := by
  unfold spanLeave
  split
  · rfl
  · split
    · rfl
    · exact postLasting_blade _ s

theorem deliver_blade (w : Watch) (h : s.stn = .halted) : (deliver w s).blade = s.blade := by
  unfold deliver
  cases w.event with
  | itemStart => exact itemStart_blade s
  | itemEnd => exact itemEnd_blade s
  | cascade => exact cascadeFires_blade h
  | seamArrival => exact seamArrival_blade _ s
  | seamEnd => exact seamPassed_blade _ s
  | evictedEnd => rfl
  | spanEntry start => exact spanEntry_blade start s
  | spanLeave start => exact spanLeave_blade start s

theorem fire_blade (n : Nat) (h : s.stn = .halted) : (fire n s).blade = s.blade := by
  induction n generalizing s with
  | zero => rfl
  | succ n ih =>
    unfold fire
    split
    · rfl
    · next w hw => rw [ih (by rw [deliver_stn]; exact h), deliver_blade w (by exact h)]; rfl

theorem haltRole_blade (s : State) : (haltRole s).blade = s.blade := by
  unfold haltRole
  split <;> rfl

/-- A local cause leaves the stroke in flight and its timer, whatever fires at the entry to HALTED. -/
theorem localCause_blade (c : FaultCode) (d : Nat) (latched : Bool) (s : State) : (localCause c d latched s).blade = s.blade := by
  cases hlive : s.live with
  | false => rw [localCause, hlive]; rfl
  | true =>
    by_cases hstn : s.stn = .halted
    · have hcause : localCause c d latched s = recordFault c d (if latched then { s with ctl.entryClear := s.ctl.lastClear } else s) := by
        simp [localCause, hlive, hstn]
      rw [hcause]
      refine (blade_of_lay (recordFault_lay _ _ _)).trans ?_
      split <;> rfl
    · rw [localCause_halts hlive hstn, postLasting_blade]
      set x : State := { s with fault := some ⟨c, half16 d, s.stn⟩ } with hx
      obtain ⟨hhalted, -, hlay, -⟩ := atHalt_fields x
      have hentry : (enterHalted x).blade = (settle (atHalt x)).blade := by
        rw [enterHalted_eq]
        exact blade_of_lay (cadence_lay _ _)
      rw [blade_of_lay (sendPattern_lay _), hentry, settle, fire_blade _ hhalted, blade_of_lay hlay, haltRole_blade]
      rfl

/-! ## O48 -/

theorem exec_bladeHome {released n : Nat} (hrole : s.isRole .head = true) : exec (.bladeHomeBecomesActive ⟨released, n, []⟩) s = .next
    (if rises s.port.input3 ⟨released, n, []⟩ = true then { s with
        port.input3 := levelAfter s.port.input3 ⟨released, n, []⟩, lay.inFlight := false, lay.bladeTimer := none }
      else { s with port.input3 := levelAfter s.port.input3 ⟨released, n, []⟩ }) := by
  have harm : exec (.bladeHomeBecomesActive ⟨released, n, []⟩) s = execBladeHomeBecomesActive ⟨released, n, []⟩ s := rfl
  rw [harm, execBladeHomeBecomesActive, samplePins_nil, if_pos hrole]

theorem exec_bladeTimer (h : s.lay.bladeTimer.isSome = true) : exec .bladeHomeTimerExpiry s = .next
    (if s.lay.inFlight then localCause .bladeJam s.layingId true { s with lay.bladeTimer := none } else { s with lay.bladeTimer := none }) := by
  have harm : exec .bladeHomeTimerExpiry s = execBladeHomeTimerExpiry s := rfl
  rw [harm, execBladeHomeTimerExpiry, if_pos h]

/-- A latched cause: the state it leads to, and its record while few frames are queued and no watch fires. -/
theorem localCause_latched_rules {c : FaultCode} {d : Nat} (hlive : s.live = true) :
    (localCause c d true s).stn = .halted ∧ (localCause c d true s).ctl.entryClear = s.ctl.lastClear
      ∧ (s.stn ≠ .halted → (localCause c d true s).link.tx = .sendingStop ∧ (localCause c d true s).ctl.quiet = some 500)
      ∧ (s.stn = .halted → (localCause c d true s).link = s.link)
      ∧ (s.haltsQuietly → s.msg.queue.length ≤ 6 → (localCause c d true s).fault = some ⟨c, half16 d, s.stn⟩) := by
  obtain ⟨hhalted, hentry, htx⟩ := localCause_latched (c := c) (d := d) hlive
  refine ⟨hhalted, hentry, fun hne => ⟨htx hne, ?_⟩, fun hstn => ?_, fun hquiet hlen => ?_⟩
  · rw [localCause_halts hlive hne, postLasting_ctl, sendPattern_ctl, enterHalted_ctl]
  · have hcause : localCause c d true s = recordFault c d { s with ctl.entryClear := s.ctl.lastClear } := by
      simp [localCause, hlive, hstn]
    rw [hcause, recordFault_link]
  · exact (localCause_records (l := true) hlive hquiet (hlen.trans (by decide))).1

/-- Settles O48: the blade home input and timer, and the ends of the stroke pulses. -/
theorem bladeAndPulsesEnd : Obligations.BladeAndPulsesEnd := by
  unfold Obligations.BladeAndPulsesEnd
  intro s
  refine ⟨fun released n hrole hrise hn => ?_, fun released n hlevel hreleased => ?_, fun released n hrole hreleased hn => ?_,
    fun htimer hflight => ?_, fun htimer hflight hlive => ?_, rfl, rfl⟩
  · rw [exec_bladeHome hrole, if_pos ((rises_iff _ _).mpr ⟨hrise, hn⟩), levelAfter_high (r := ⟨released, n, []⟩) hn]
  · have hkeeps : levelAfter s.port.input3 ⟨released, n, []⟩ = s.port.input3 := by
      by_cases hn : n < 3
      · exact levelAfter_held hn hreleased
      · rw [levelAfter_high (r := ⟨released, n, []⟩) (Nat.le_of_not_lt hn), hlevel]
    cases hrole : s.isRole .head with
    | true => rw [exec_bladeHome hrole, rises_held hlevel hreleased, if_neg (by simp), hkeeps]
    | false =>
      have harm : exec (.bladeHomeBecomesActive ⟨released, n, []⟩) s = execBladeHomeBecomesActive ⟨released, n, []⟩ s := rfl
      rw [harm, execBladeHomeBecomesActive, samplePins_nil, if_neg (by rw [hrole]; simp)]
  · rw [exec_bladeHome hrole, if_neg (fun h => absurd ((rises_iff _ _).mp h).2 (Nat.not_le.mpr hn)),
      levelAfter_low (r := ⟨released, n, []⟩) hn hreleased]
  · rw [exec_bladeTimer htimer, hflight]
    rfl
  · rw [exec_bladeTimer htimer, hflight, if_pos rfl]
    obtain ⟨hhalted, hentry, hsends, hlink, hfault⟩ := localCause_latched_rules (s := { s with lay.bladeTimer := none }) (c := .bladeJam)
      (d := s.layingId) hlive
    have hblade := localCause_blade .bladeJam s.layingId true { s with lay.bladeTimer := none }
    refine ⟨_, rfl, hhalted, congrArg Prod.snd hblade, (congrArg Prod.fst hblade).trans hflight, hentry, hsends, hlink, fun hquiet hlen =>
      hfault ?_ hlen⟩
    refine hquiet.imp_right fun h => ?_
    rw [← h]
    have hrole : haltRole { s with lay.bladeTimer := none } = { haltRole s with lay.bladeTimer := none } := by
      unfold haltRole
      have hsame : State.role { s with lay.bladeTimer := none } = s.role := rfl
      rw [hsame]
      split <;> rfl
    rw [hrole]
    exact nextDue_of_pos rfl

end

end Sys2Proof.Machine
end

section
/-! PROOFS. O49, ROLL LOAD and threading (R127, R128). -/

namespace Sys2Proof.Machine

section
variable {s t : State}

/-! ## A ROLL STATE handed -/

theorem handRollState_delayed (s : State) : (handRollState s).msg.delayed = s.msg.delayed := by
  obtain ⟨-, hdelayed, -, -⟩ := supersede_frame s.msg (.rollState (rollStateNow { s with sup.rollTimer := some 250 }))
  unfold handRollState
  split
  · exact hdelayed
  · rfl

/-- The ROLL STATE waits in the queue, or is held for it (R39). -/
theorem handRollState_handed (h : s.isRole .supply = true) :
    (handRollState s).msg.hasKind 4 = true ∨ (handRollState s).msg.heldRollState.isSome = true := by
  rw [handRollState_supply h]
  set f : Frame := .rollState (rollStateNow { s with sup.rollTimer := some 250 }) with hf
  have hkind : f.kind = 4 := rfl
  cases hhas : s.msg.hasKind 4 with
  | true => exact .inl (hasKind_supersede _ _ _ hhas)
  | false =>
    by_cases hlen : s.msg.queue.length < 12
    · exact .inl (hkind ▸ hasKind_supersede_self (room_of_lt hlen))
    · refine .inr ?_
      show (s.msg.supersede f).heldRollState.isSome = true
      rw [supersede_holds hhas (Nat.le_of_not_lt hlen)]
      rfl

theorem mem_handRollState {e : QEntry} (hkind : e.frame.kind ≠ 4) (he : e ∈ s.msg.queue) : e ∈ (handRollState s).msg.queue := by
  unfold handRollState
  split
  · exact mem_supersede (f := .rollState (rollStateNow { s with sup.rollTimer := some Config.rollStateMs })) hkind he
  · exact he

/-! ## ROLL LOAD -/

theorem loadRefusal_rules (a : Arm) (length : Nat) :
    (a.state = .running ∨ a.state = .loading ∨ a.state = .loaded → loadRefusal a length = some .armBusy)
      ∧ (a.state = .empty ∨ a.state = .expired → length = 0 ∨ 60000 < length → loadRefusal a length = some .badLength)
      ∧ (a.state = .empty ∨ a.state = .expired → 1 ≤ length → length ≤ 60000 → loadRefusal a length = none) := by
  have hfree : a.state = .empty ∨ a.state = .expired → ¬(a.state = .running ∨ a.state = .loading ∨ a.state = .loaded) := by
    rintro (h | h) <;> simp [h]
  unfold loadRefusal
  refine ⟨fun h => if_pos h, fun h hlen => ?_, fun h hlow hhigh => ?_⟩
  · have hbad : within 1 60000 length = false := by
      rw [← Bool.not_eq_true, within_iff]
      omega
    rw [if_neg (hfree h), hbad]
    rfl
  · have hgood : within 1 60000 length = true := within_iff.mpr ⟨hlow, hhigh⟩
    rw [if_neg (hfree h), hgood]
    rfl

theorem exec_rollLoad {sender : Station} {p : List Byte} {r : RequestIn} {armByte : Byte} {roll length : Half}
    (hasked : s.asked .rollLoad sender p r) (hserves : s.serves .rollLoad sender r) (hbody : r.body = .rollLoad armByte roll length) :
    (∀ why, loadRefusal (s.sup.arm (armNamed armByte)) length.toNat = some why →
      exec (.rollLoad sender p) s = .next (answer sender r.id .rollLoad (refused why) (dropLatch s)))
    ∧ (loadRefusal (s.sup.arm (armNamed armByte)) length.toNat = none → exec (.rollLoad sender p) s = .next
        (handRollState (onArm (armNamed armByte) (fun a => a.load roll length)
          (delay sender r.id (.rollLoad armByte roll length) (dropLatch s))))) := by
  have harm : exec (.rollLoad sender p) s = execRollLoad sender p s := rfl
  rw [harm, execRollLoad, receiveRequest_of_serves hasked hserves, hbody]
  have hsup : (dropLatch s).sup = s.sup := rfl
  refine ⟨fun why h => ?_, fun h => ?_⟩
  · simp only [serveLoad, hsup, h]
  · simp only [serveLoad, hsup, h]

theorem onArm_msg_delayed (n : ArmName) (f : Arm → Arm) (s : State) : (onArm n f s).msg.delayed = s.msg.delayed := by rw [onArm_msg]

theorem handInterim_delayed (m : Msg) (a : AnswerMsg) : (m.handInterim a).delayed = m.delayed := by
  unfold Msg.handInterim
  split <;> rfl

/-! ## Threading -/

theorem exec_armReady {n : ArmName} {released samples : Nat} (hrole : s.isRole .supply = true) :
    exec (.armReadyBecomesActive n ⟨released, samples, []⟩) s = .next
      (if rises (s.armReady n) ⟨released, samples, []⟩ = true ∧ (s.sup.arm n).state = .loading then
        completeLoad done (threadArm n (setArmReady n (levelAfter (s.armReady n) ⟨released, samples, []⟩) s))
      else setArmReady n (levelAfter (s.armReady n) ⟨released, samples, []⟩) s) := by
  have harm : exec (.armReadyBecomesActive n ⟨released, samples, []⟩) s = execArmReadyBecomesActive n ⟨released, samples, []⟩ s := rfl
  rw [harm, execArmReadyBecomesActive, samplePins_nil, if_pos hrole]

theorem exec_armReady_other {n : ArmName} {released samples : Nat} (hrole : s.isRole .supply = false) :
    exec (.armReadyBecomesActive n ⟨released, samples, []⟩) s = .next s := by
  have harm : exec (.armReadyBecomesActive n ⟨released, samples, []⟩) s = execArmReadyBecomesActive n ⟨released, samples, []⟩ s := rfl
  rw [harm, execArmReadyBecomesActive, samplePins_nil, if_neg (by rw [hrole]; simp)]

theorem armReady_eq_input (n : ArmName) (s : State) : s.armReady n = s.input (if n = .a then 3 else 4) := by cases n <;> rfl

theorem setArmReady_same (n : ArmName) (s : State) : setArmReady n (s.armReady n) s = s := by cases n <;> rfl

theorem input_setArmReady (n : ArmName) (k : Nat) (s : State) :
    (setArmReady n true s).input k = (s.input k || decide (k = if n = .a then 3 else 4)) := by
  have hinput : (setArmReady n true s).input k = if k = readyInput n then true else s.input k := by
    cases n
    · exact input_setInput (n := 3) true (by decide) (by decide) k
    · exact input_setInput (n := 4) true (by decide) (by decide) k
  have hready : readyInput n = if n = .a then 3 else 4 := by cases n <;> rfl
  rw [hinput, hready]
  by_cases hk : k = if n = .a then 3 else 4
  · rw [if_pos hk, decide_eq_true hk, Bool.or_true]
  · rw [if_neg hk, decide_eq_false hk, Bool.or_false]

/-- The ROLL LOAD that waits is finished (R54). -/
theorem completeLoad_delayed {d : Delayed} {f : Final} (h : s.msg.delayed = [d]) (hresult : d.result = none)
    (hcode : d.body.code = .rollLoad) : (completeLoad f s).msg.delayed = [{ d with result := some f, hold := some s.conf.answerHold }] := by
  have hfind : (s.msg.delayed.find? fun d => d.result.isNone && d.body.code == .rollLoad) = some d := by simp [h, hresult, hcode]
  have hcompletes : completeLoad f s = { s with msg := s.msg.complete d.requester d.id f s.conf.answerHold } := by
    simp only [completeLoad, hfind]
  rw [hcompletes]
  simp [Msg.complete, h]

theorem completeLoad_eq (f : Final) (s : State) : completeLoad f s = { s with msg := (completeLoad f s).msg } := by
  unfold completeLoad
  split <;> rfl

/-- A threaded arm: LOADED with the whole length, or RUNNING with no other RUNNING (R127, R128). -/
theorem threadArm_rules (n : ArmName) (s : State) :
    threadArm n s = { s with sup := (threadArm n s).sup, msg := (threadArm n s).msg }
      ∧ (threadArm n s).msg.delayed = s.msg.delayed ∧ (threadArm n s).sup.arm (otherOf n) = s.sup.arm (otherOf n)
      ∧ ((threadArm n s).sup.arm n).remaining = (s.sup.arm n).loaded ∧ ((threadArm n s).sup.arm n).roll = (s.sup.arm n).roll
      ∧ ((threadArm n s).sup.arm n).threading = none
      ∧ (s.sup.running = none → ((threadArm n s).sup.arm n).state = .running)
      ∧ (s.sup.running ≠ none → ((threadArm n s).sup.arm n).state = .loaded) := by
  set t := handRollState (onArm n (fun a => { a with state := .loaded, remaining := a.loaded, threading := none }) s) with ht
  have hT : t = { s with sup := t.sup, msg := t.msg } := by rw [ht, handRollState_eq, onArm_sup]
  have harm : t.sup.arm n = { s.sup.arm n with state := .loaded, remaining := (s.sup.arm n).loaded, threading := none } := by
    rw [ht, handRollState_arm, onArm_arm]
  have hother : t.sup.arm (otherOf n) = s.sup.arm (otherOf n) := by rw [ht, handRollState_arm, onArm_arm_other]
  have hdelayed : t.msg.delayed = s.msg.delayed := by rw [ht, handRollState_delayed, onArm_msg_delayed]
  by_cases hnone : s.sup.running = none
  · have hthread : threadArm n s = handRollState (onArm n Arm.run t) := if_pos hnone
    rw [hthread]
    have hrun : (handRollState (onArm n Arm.run t)).sup.arm n = (t.sup.arm n).run := by rw [handRollState_arm, onArm_arm]
    rw [hrun, harm, handRollState_delayed, onArm_msg_delayed, hdelayed, handRollState_arm, onArm_arm_other, hother]
    refine ⟨?_, rfl, rfl, rfl, rfl, rfl, fun _ => rfl, fun h => absurd hnone h⟩
    have hedit : ∀ (a : Supply) (b : Msg), { t with sup := a, msg := b } = { s with sup := a, msg := b } := fun a b => by rw [hT]
    rw [handRollState_eq, onArm_sup]
    exact hedit _ _
  · have hthread : threadArm n s = t := if_neg hnone
    rw [hthread, harm]
    exact ⟨hT, hdelayed, hother, rfl, rfl, rfl, fun h => absurd h hnone, fun _ => rfl⟩

/-- Settles O49: ROLL LOAD, the ready inputs and the threading timers. -/
theorem rollsAreLoaded : Obligations.RollsAreLoaded := by
  unfold Obligations.RollsAreLoaded
  refine ⟨fun s sender p r armByte roll length n hlive hasked hserves hbody hn => ?_, fun s n released samples d => ?_⟩
  · have hnamed : armNamed armByte = n := hn.symm
    obtain ⟨hrefuses, hloads⟩ := exec_rollLoad hasked hserves hbody
    rw [hnamed] at hrefuses hloads
    obtain ⟨hbusy, hbad, hgood⟩ := loadRefusal_rules (s.sup.arm n) length.toNat
    refine ⟨fun hstate => ?_, fun hstate hlen => ?_, fun hstate hlow hhigh => ?_⟩
    · exact ⟨_, hrefuses _ (hbusy hstate), rfl, finish_answersOnly _ _, finish_gives _ _⟩
    · exact ⟨_, hrefuses _ (hbad hstate hlen), rfl, finish_answersOnly _ _, finish_gives _ _⟩
    · obtain ⟨-, -, hrole, -⟩ := hserves
      set x := onArm n (fun a => a.load roll length) (delay sender r.id (.rollLoad armByte roll length) (dropLatch s)) with hx
      have hxeq : x = { s with link.latch := none, msg := x.msg, sup := x.sup } := by rw [hx, onArm_sup]; rfl
      have hsupply : x.isRole .supply = true := by
        rw [isRole_congr (t := s) .supply (by rw [hxeq]) (by rw [hxeq])]
        exact (isRole_iff s .supply).mpr ⟨hlive, hrole⟩
      have harm : (handRollState x).sup.arm n = (s.sup.arm n).load roll length := by
        rw [handRollState_arm, hx, onArm_arm]
        rfl
      have hother : (handRollState x).sup.arm (otherOf n) = s.sup.arm (otherOf n) := by
        rw [handRollState_arm, hx, onArm_arm_other]
        rfl
      refine ⟨_, hloads (hgood hstate hlow hhigh), ?_, ?_, ?_, ?_, ?_, hother, ?_, ?_, ?_, handRollState_handed hsupply, fun hroom => ?_⟩
      · rw [handRollState_eq, hxeq]
      · rw [harm]; rfl
      · rw [harm]; rfl
      · rw [harm]; rfl
      · rw [harm]; rfl
      · rw [handRollState_eq, hx]
        exact onArm_splice _ _ _
      · rw [handRollState_supply hsupply]
      · rw [handRollState_delayed, hx, onArm_msg_delayed]
        exact handInterim_delayed _ _
      · rw [copyWaits_iff]
        refine ⟨⟨.answer ⟨r.id, sender, .rollLoad, .wait⟩, 0, .waiting⟩, mem_handRollState (by simp [Frame.kind]) ?_, rfl, rfl⟩
        rw [hx, onArm_msg]
        show _ ∈ (Msg.handInterim { s.msg with delayed := s.msg.delayed ++ _ } _).queue
        rw [handInterim_of_room (by exact hroom)]
        exact List.mem_append_right _ (List.mem_singleton.mpr rfl)
  · rw [← armReady_eq_input]
    refine ⟨fun hlevel hreleased => ?_, fun hrole hreleased hfew => ?_, fun hrole hloading hdelayed hresult hcode =>
      ⟨fun hrise hmany => ?_, fun htimer => ?_⟩⟩
    · cases hrole : s.isRole .supply with
      | false => exact exec_armReady_other hrole
      | true =>
        have hkeeps : levelAfter (s.armReady n) ⟨released, samples, []⟩ = s.armReady n := by
          by_cases hn : samples < 3
          · exact levelAfter_held hn hreleased
          · rw [levelAfter_high (r := ⟨released, samples, []⟩) (Nat.le_of_not_lt hn), hlevel]
        rw [exec_armReady hrole, if_neg (by rw [rises_held hlevel hreleased]; simp), hkeeps, setArmReady_same]
    · rw [exec_armReady hrole, if_neg (fun h => absurd ((rises_iff _ _).mp h.1).2 (Nat.not_le.mpr hfew)),
        levelAfter_low (r := ⟨released, samples, []⟩) hfew hreleased]
      cases n <;> rfl
    · have hstart : exec (.armReadyBecomesActive n ⟨released, samples, []⟩) s
          = .next (completeLoad done (threadArm n (setArmReady n true s))) := by
        rw [exec_armReady hrole, if_pos ⟨(rises_iff _ _).mpr ⟨hrise, hmany⟩, hloading⟩,
          levelAfter_high (r := ⟨released, samples, []⟩) hmany]
      obtain ⟨hthread, hdelayedT, hother, hremaining, hroll, hthreading, hrun, hload⟩ :=
        threadArm_rules n (setArmReady n true s)
      have hcomplete := completeLoad_eq done (threadArm n (setArmReady n true s))
      have hsup : (completeLoad done (threadArm n (setArmReady n true s))).sup = (threadArm n (setArmReady n true s)).sup := by
        rw [hcomplete]
      rw [hstart]
      refine ⟨_, rfl, ?_, fun k => ?_, ?_, ?_, ?_, fun h => ?_, fun h => ?_, ?_, ?_⟩
      · rw [hcomplete, hthread]
        rfl
      · rw [← input_setArmReady]
        exact input_congr (by rw [completeLoad_port, threadArm_port]) k
      · rw [hsup, hremaining]
        rfl
      · rw [hsup, hroll]
        rfl
      · rw [hsup, hthreading]
      · rw [Supply.clutch, hsup, hrun h]
        exact ⟨rfl, rfl⟩
      · rw [Supply.clutch, hsup, hload h]
        exact ⟨rfl, rfl⟩
      · rw [hsup, hother]
        rfl
      · rw [completeLoad_delayed (hdelayedT.trans hdelayed) hresult hcode, hthread]
        rfl
    · have hstart : exec (.threadingTimerExpiry n) s = .next (completeLoad (refused .notThreaded)
          (handRollState (onArm n (fun a => { a with state := .empty, roll := none, threading := none }) s))) := by
        have harm : exec (.threadingTimerExpiry n) s = execThreadingTimerExpiry n s := rfl
        rw [harm, execThreadingTimerExpiry, if_pos ⟨htimer, hloading⟩]
      set y := handRollState (onArm n (fun a => { a with state := .empty, roll := none, threading := none }) s) with hy
      have hyeq : y = { s with sup := y.sup, msg := y.msg } := by rw [hy, handRollState_eq, onArm_sup]
      have hcomplete := completeLoad_eq (refused .notThreaded) y
      have hsup : (completeLoad (refused .notThreaded) y).sup = y.sup := by rw [hcomplete]
      have harm : y.sup.arm n = { s.sup.arm n with state := .empty, roll := none, threading := none } := by
        rw [hy, handRollState_arm, onArm_arm]
      have hother : y.sup.arm (otherOf n) = s.sup.arm (otherOf n) := by rw [hy, handRollState_arm, onArm_arm_other]
      have hdelayedY : y.msg.delayed = [d] := by rw [hy, handRollState_delayed, onArm_msg_delayed, hdelayed]
      rw [hstart]
      refine ⟨_, rfl, ?_, ?_, ?_, ?_, ?_, ?_⟩
      · rw [hcomplete, hyeq]
      · rw [hsup, harm]
      · rw [hsup, harm]
      · rw [hsup, harm]
      · rw [hsup, hother]
      · rw [completeLoad_delayed hdelayedY hresult hcode, hyeq]
        rfl

end

end Sys2Proof.Machine
end

section
/-! PROOFS. O50, the festoon (R9, R10, R130). -/

namespace Sys2Proof.Machine

section
variable {s t : State}

/-! ## The entry to STOPPING, no input active (R9, R10) -/

theorem enterStopping_outcome (he : s.port.eStop = false) (hw : s.port.webBreak = false) :
    (enterStopping s).stn = (if s.atRest then (if s.heard then .ready else .listen) else .stopping)
      ∧ (enterStopping s).fault = s.fault := by
  cases h : s.atRest with
  | false =>
    rw [enterStopping_moving h]
    exact ⟨by rw [stopped_eq]; rfl, by rw [stopped_eq]⟩
  | true =>
    obtain ⟨hstn, -, -, -, -, hfault, -⟩ := enterReadyOrListen_fields (s := s.stopped)
      (by rw [stopped_eq]; exact he) (by rw [stopped_eq]; exact hw)
    have hheard : s.stopped.heard = s.heard := by rw [stopped_eq]; rfl
    rw [enterStopping_resting h, hstn, hfault, hheard]
    exact ⟨rfl, by rw [stopped_eq]⟩

/-! ## The festoon's condition -/

theorem setFestoon_eq (f : Festoon) (s : State) : setFestoon f s = { s with
    sup := { s.sup with festoon := f, rollTimer := (setFestoon f s).sup.rollTimer }, msg := (setFestoon f s).msg } := by
  unfold setFestoon
  split
  · next h =>
    subst h
    rfl
  · rw [handRollState_eq]

theorem setFestoon_length_le (f : Festoon) (s : State) : (setFestoon f s).msg.queue.length ≤ s.msg.queue.length + 1 := by
  unfold setFestoon
  split
  · exact Nat.le_succ _
  · unfold handRollState
    split
    · exact len_supersede _ _
    · exact Nat.le_succ _

/-- At the SUPPLY the quiet of an entry to HALTED is that of the positions. -/
theorem haltsQuietly_congr_supply (hrole : s.role = some .supply) (hcfg : t.cfg = s.cfg) (hstn : t.stn = s.stn) (hpos : t.pos = s.pos)
    (h : s.haltsQuietly) : t.haltsQuietly := by
  have hrole' : t.role = some .supply := (role_congr hcfg).trans hrole
  rw [State.haltsQuietly, hstn]
  refine h.imp_right fun hquiet => ?_
  rw [← hquiet, haltRole_of_supply hrole, haltRole_of_supply hrole']
  exact nextDue_of_pos (by rw [haltSupply_pos, haltSupply_pos, hpos])

/-- What a local cause leaves of the Supply Unit (R13, R14). -/
theorem localCause_supply (c : FaultCode) (d : Nat) (latched : Bool) (s : State) :
    (localCause c d latched s).sup.armA = s.sup.armA ∧ (localCause c d latched s).sup.armB = s.sup.armB
      ∧ (localCause c d latched s).sup.splice = s.sup.splice ∧ (localCause c d latched s).sup.content = s.sup.content
      ∧ (localCause c d latched s).sup.festoon = s.sup.festoon ∧ (localCause c d latched s).sup.festoonHold = s.sup.festoonHold
      ∧ (localCause c d latched s).sup.emptyMark = s.sup.emptyMark ∧ (localCause c d latched s).sup.pressFire = s.sup.pressFire
      ∧ (localCause c d latched s).sup.pressTimer = s.sup.pressTimer := by
  have hkept {α : Type} (f : State → α) : f (localCause c d latched s).sansHalt = f s.sansHalt :=
    congrArg f (localCause_sansHalt c d latched s)
  exact ⟨hkept (·.sup.armA), hkept (·.sup.armB), hkept (·.sup.splice), hkept (·.sup.content), hkept (·.sup.festoon),
    hkept (·.sup.festoonHold), hkept (·.sup.emptyMark), hkept (·.sup.pressFire), hkept (·.sup.pressTimer)⟩

/-! ## A report -/

/-- A complete report taken off the sensor link, its channel's staleness timer restarted (R169). -/
def State.reported (channel : Nat) (burst : SensorBurst) (s : State) : State := freshReport channel (hearSensor burst s)

theorem exec_festoonReading {burst : SensorBurst} {r : SensorReport} (hrole : s.isRole .supply = true)
    (hheard : s.heardReport burst = some r) (hchannel : r.channel = 0) : exec (.festoonReading burst) s = .next
      (if reportSound r then goodFestoon (reportValue r) (s.reported 0 burst) else festoonDoubt (s.reported 0 burst)) := by
  have harm : exec (.festoonReading burst) s = execFestoonReading burst s := rfl
  rw [harm, execFestoonReading]
  simp only [hheard, hrole, hchannel, and_self, if_true]
  rfl

/-- The Supply Unit once a good reading is in force, the empty limit not yet tested. -/
def State.withContent (mm : Int) (s : State) : State := setFestoon .good { s with sup.content := contentOf mm, sup.festoonHold := none }

theorem withContent_eq (mm : Int) (s : State) : s.withContent mm = { s with
    sup := { s.sup with
      content := contentOf mm, festoonHold := none, festoon := .good, rollTimer := (s.withContent mm).sup.rollTimer }
    msg := (s.withContent mm).msg } := setFestoon_eq _ _

theorem goodFestoon_kept {mm : Int} (h : ¬((contentOf mm : Int) < s.conf.emptyLimit)) :
    goodFestoon mm s = { s.withContent mm with sup.emptyMark := false } := by
  have hcontent : (s.withContent mm).sup.content = contentOf mm := by rw [withContent_eq]
  have hconf : (s.withContent mm).conf = s.conf := by rw [withContent_eq]; rfl
  show emptyTest mm (s.withContent mm) = _
  unfold emptyTest
  rw [hcontent, hconf, if_neg h]

theorem goodFestoon_marked {mm : Int} (h : (contentOf mm : Int) < s.conf.emptyLimit)
    (hquiet : ¬((s.stn = .running ∨ s.stn = .stopping ∨ s.stn = .halted) ∧ s.sup.emptyMark = false)) :
    goodFestoon mm s = s.withContent mm := by
  have hcontent : (s.withContent mm).sup.content = contentOf mm := by rw [withContent_eq]
  have hconf : (s.withContent mm).conf = s.conf := by rw [withContent_eq]; rfl
  have hstn : (s.withContent mm).stn = s.stn := by rw [withContent_eq]
  have hmark : (s.withContent mm).sup.emptyMark = s.sup.emptyMark := by rw [withContent_eq]
  show emptyTest mm (s.withContent mm) = _
  unfold emptyTest
  rw [hcontent, hconf, if_pos h, hstn, hmark, if_neg hquiet]

theorem goodFestoon_empty {mm : Int} (h : (contentOf mm : Int) < s.conf.emptyLimit)
    (hraises : (s.stn = .running ∨ s.stn = .stopping ∨ s.stn = .halted) ∧ s.sup.emptyMark = false) :
    goodFestoon mm s = localCause .festoonEmpty (clampInt 0 65535 mm).toNat true { s.withContent mm with sup.emptyMark := true } := by
  have hcontent : (s.withContent mm).sup.content = contentOf mm := by rw [withContent_eq]
  have hconf : (s.withContent mm).conf = s.conf := by rw [withContent_eq]; rfl
  have hstn : (s.withContent mm).stn = s.stn := by rw [withContent_eq]
  have hmark : (s.withContent mm).sup.emptyMark = s.sup.emptyMark := by rw [withContent_eq]
  show emptyTest mm (s.withContent mm) = _
  unfold emptyTest
  have hraises' : ((s.withContent mm).stn = .running ∨ (s.withContent mm).stn = .stopping ∨ (s.withContent mm).stn = .halted)
      ∧ (s.withContent mm).sup.emptyMark = false := by
    rw [hstn, hmark]
    exact hraises
  rw [hcontent, hconf, if_pos h, if_pos hraises']

theorem festoonDoubt_good (h : s.sup.festoon = .good) :
    festoonDoubt s = setFestoon .holding { s with sup.festoonHold := some 500 } := if_pos h

theorem festoonDoubt_other (h : s.sup.festoon ≠ .good) : festoonDoubt s = s := if_neg h

/-- What a report on channel 0 leaves alone at the SUPPLY, good or not. -/
def State.festoonKeeps (s t : State) : Prop :=
  t.port = s.port ∧ t.sup.armA = s.sup.armA ∧ t.sup.armB = s.sup.armB ∧ t.sup.splice = s.sup.splice

theorem goodFestoon_keeps (mm : Int) (s : State) : s.festoonKeeps (goodFestoon mm s)
    ∧ (goodFestoon mm s).sup.content = contentOf mm ∧ (goodFestoon mm s).sup.festoon = .good
    ∧ (goodFestoon mm s).sup.festoonHold = none := by
  by_cases hlimit : (contentOf mm : Int) < s.conf.emptyLimit
  · by_cases hraises : (s.stn = .running ∨ s.stn = .stopping ∨ s.stn = .halted) ∧ s.sup.emptyMark = false
    · rw [goodFestoon_empty hlimit hraises]
      obtain ⟨harmA, harmB, hsplice, hcontent, hfestoon, hhold, -⟩ := localCause_supply .festoonEmpty (clampInt 0 65535 mm).toNat true
        { s.withContent mm with sup.emptyMark := true }
      unfold State.festoonKeeps
      rw [localCause_port, harmA, harmB, hsplice, hcontent, hfestoon, hhold, withContent_eq]
      exact ⟨⟨rfl, rfl, rfl, rfl⟩, rfl, rfl, rfl⟩
    · rw [goodFestoon_marked hlimit hraises, withContent_eq]
      exact ⟨⟨rfl, rfl, rfl, rfl⟩, rfl, rfl, rfl⟩
  · rw [goodFestoon_kept hlimit, withContent_eq]
    exact ⟨⟨rfl, rfl, rfl, rfl⟩, rfl, rfl, rfl⟩

theorem festoonDoubt_keeps (s : State) : s.festoonKeeps (festoonDoubt s) ∧ (festoonDoubt s).stn = s.stn
    ∧ (festoonDoubt s).sup.content = s.sup.content ∧ (festoonDoubt s).sup.emptyMark = s.sup.emptyMark
    ∧ (s.sup.festoon = .good → (festoonDoubt s).sup.festoon = .holding ∧ (festoonDoubt s).sup.festoonHold = some 500)
    ∧ (s.sup.festoon ≠ .good → (festoonDoubt s).sup = s.sup) := by
  by_cases h : s.sup.festoon = .good
  · rw [festoonDoubt_good h, setFestoon_eq]
    exact ⟨⟨rfl, rfl, rfl, rfl⟩, rfl, rfl, rfl, fun _ => ⟨rfl, rfl⟩, fun hne => absurd h hne⟩
  · rw [festoonDoubt_other h]
    exact ⟨⟨rfl, rfl, rfl, rfl⟩, rfl, rfl, rfl, fun hg => absurd hg h, fun _ => rfl⟩

/-- Settles O50: festoon reports and the festoon hold timer. -/
theorem festoonIsFollowed : Obligations.FestoonIsFollowed := by
  unfold Obligations.FestoonIsFollowed
  refine ⟨fun s burst r c hrole hheard hchannel hc => ?_, fun s burst h => ?_, fun s hlive htimer he hw => ?_⟩
  · obtain ⟨hlive, hsupply⟩ := (isRole_iff s .supply).mp hrole
    set x := s.reported 0 burst with hx
    have hstale : ∀ y : State, y.port = x.port → y.staleTimer 0 = some 500 := fun y hy => by
      rw [State.staleTimer, hy]
      simp [hx, State.reported, freshReport, Config.stalenessMs]
    have hreport : x.port.report = none := heardReport_clears hheard
    rw [exec_festoonReading hrole hheard hchannel]
    refine ⟨_, rfl, ?_⟩
    cases hsound : reportSound r with
    | false =>
      have hstatus : r.status ≠ 0 := by simpa [reportSound] using hsound
      obtain ⟨⟨hport, harmA, harmB, hsplice⟩, hstn, hcontent, hmark, hgood, hother⟩ := festoonDoubt_keeps x
      rw [if_neg (by simp)]
      exact ⟨hstale _ hport, by rw [hport]; exact hreport, harmA, harmB, hsplice, fun h => absurd h hstatus,
        fun _ => ⟨hstn, hcontent, hmark, hgood, hother⟩⟩
    | true =>
      have hstatus : r.status = 0 := by simpa [reportSound] using hsound
      obtain ⟨⟨hport, harmA, harmB, hsplice⟩, hcontent, hfestoon, hhold⟩ := goodFestoon_keeps (reportValue r) x
      have hcontent' : contentOf (reportValue r) = c := hc.symm
      rw [if_pos rfl]
      refine ⟨hstale _ hport, by rw [hport]; exact hreport, harmA, harmB, hsplice, fun _ => ⟨hcontent.trans hcontent', hfestoon, hhold,
        fun hlimit => ?_, fun hlimit hquiet => ?_, fun hlimit hstn hmark => ?_⟩, fun h => absurd hstatus h⟩
      · rw [goodFestoon_kept (s := x) (by rw [hcontent']; exact not_lt.mpr (by exact_mod_cast hlimit)), withContent_eq]
        exact ⟨rfl, rfl, rfl⟩
      · have hkept : ¬((x.stn = .running ∨ x.stn = .stopping ∨ x.stn = .halted) ∧ x.sup.emptyMark = false) := by
          rintro ⟨hmoving, hmark⟩
          have hmark' : s.sup.emptyMark = false := hmark
          have hmoving' : s.stn = .running ∨ s.stn = .stopping ∨ s.stn = .halted := hmoving
          rcases hquiet with h | h | h <;> simp_all
        rw [goodFestoon_marked (s := x) (by rw [hcontent']; exact hlimit) hkept, withContent_eq]
        exact ⟨rfl, rfl, rfl⟩
      · rw [goodFestoon_empty (s := x) (by rw [hcontent']; exact hlimit) ⟨hstn, hmark⟩]
        set y : State := { x.withContent (reportValue r) with sup.emptyMark := true } with hy
        have hstnY : y.stn = s.stn := by rw [hy, withContent_eq]; rfl
        have hctlY : y.ctl = s.ctl := by rw [hy, withContent_eq]; rfl
        have hcfgY : y.cfg = s.cfg := by rw [hy, withContent_eq]; rfl
        have hposY : y.pos = s.pos := by rw [hy, withContent_eq]; rfl
        have hlenY : y.msg.queue.length ≤ s.msg.queue.length + 1 := setFestoon_length_le _ _
        obtain ⟨hhalted, hentry, -⟩ := localCause_latched_rules (s := y) (c := .festoonEmpty)
          (d := (clampInt 0 65535 (reportValue r)).toNat) (by rw [State.live, hstnY]; exact hlive)
        obtain ⟨-, -, -, -, -, -, hmarked, -⟩ := localCause_supply .festoonEmpty (clampInt 0 65535 (reportValue r)).toNat true y
        refine ⟨hmarked, hhalted, by rw [hentry, hctlY], fun hquiet hlen => ?_⟩
        rw [(localCause_records (s := y) (by rw [State.live, hstnY]; exact hlive)
          (haltsQuietly_congr_supply hsupply hcfgY hstnY hposY hquiet) (by omega)).1, hstnY]
  · have harm : exec (.festoonReading burst) s = execFestoonReading burst s := rfl
    rw [harm, execFestoonReading]
    cases hheard : s.heardReport burst with
    | none => rfl
    | some r =>
      have hrole : s.isRole .supply = false := h.resolve_right (by rw [hheard]; simp)
      simp only [hrole, Bool.false_eq_true, false_and, if_false]
  · have hnext : exec .festoonHoldTimerExpiry s = .next
        (stopCause (recordFault .festoonSensorLost 0 (setFestoon .lost { s with sup.festoonHold := none }))) := by
      have harm : exec .festoonHoldTimerExpiry s = execFestoonHoldTimerExpiry s := rfl
      rw [harm, execFestoonHoldTimerExpiry, if_pos htimer]
    set x := setFestoon .lost { s with sup.festoonHold := none } with hx
    have hxeq : x = { s with sup := { s.sup with festoonHold := none, festoon := .lost, rollTimer := x.sup.rollTimer }, msg := x.msg } :=
      setFestoon_eq _ _
    have hlenX : x.msg.queue.length ≤ s.msg.queue.length + 1 := setFestoon_length_le _ _
    have hstnX : x.stn = s.stn := by rw [hxeq]
    set y := recordFault .festoonSensorLost 0 x with hy
    have hstnY : y.stn = s.stn := by rw [hy, recordFault_stn, hstnX]
    have hfault : s.msg.queue.length ≤ 10 → y.fault = some ⟨.festoonSensorLost, 0, s.stn⟩ := fun hlen => by
      rw [hy, recordFault_room (room_of_lt (by omega)) (by rw [State.live, hstnX]; exact hlive), hstnX]
      rfl
    have hrest : y.atRest = s.atRest := by
      rw [State.atRest, State.atRest, State.role, hy, recordFault_cfg, recordFault_sup, recordFault_spd, hxeq]
      rfl
    have hheard : y.heard = s.heard := by rw [State.heard, hy, recordFault_ctl, hxeq]; rfl
    have hkept {α : Type} (f : State → α) : f (stopCause y).sansHalt = f x.sansHalt :=
      congrArg f ((stopCause_sansHalt y).trans (recordFault_sansHalt _ _ x))
    obtain ⟨hstop, hfaultStop⟩ := enterStopping_outcome (s := y) (by rw [hy, recordFault_port, hxeq]; exact he)
      (by rw [hy, recordFault_port, hxeq]; exact hw)
    rw [hnext]
    refine ⟨_, rfl, (hkept (·.sup.festoon)).trans (by rw [hxeq]; rfl), (hkept (·.sup.festoonHold)).trans (by rw [hxeq]; rfl),
      (hkept (·.sup.content)).trans (by rw [hxeq]; rfl), fun hlen => ?_, fun hne => ?_, fun hstn => ?_⟩
    · unfold stopCause
      split
      · rw [hfaultStop, hfault hlen]
      · exact hfault hlen
    · rw [stopCause, if_neg (by rw [hstnY]; exact hne), hstnY]
    · rw [stopCause, if_pos (by rw [hstnY]; exact hstn), hstop, hrest, hheard]
      rfl

end

end Sys2Proof.Machine
end

section
/-! PROOFS. O51, the supply timer: the unwind reference (R131) and the press (R139). -/

namespace Sys2Proof.Machine

section
variable {s t : State}

/-! ## The Supply Unit through a change of station state -/

/-- From `u` to `v` nothing but the roll state timer has changed, and the brake, which only comes on (R141, R142). -/
structure Supply.Brakes (u v : Supply) : Prop where
  view : v = { u with brake := v.brake, rollTimer := v.rollTimer }
  brake : u.brake = true → v.brake = true

theorem Supply.Brakes.refl (u : Supply) : u.Brakes u := ⟨rfl, id⟩

theorem Supply.Brakes.trans {u v w : Supply} (h : u.Brakes v) (h' : v.Brakes w) : u.Brakes w := by
  refine ⟨?_, h'.brake ∘ h.brake⟩
  rw [h'.view, h.view]

theorem Supply.Brakes.of_eq {u v : Supply} (h : v = u) : u.Brakes v := h ▸ .refl u

theorem haltRole_brakes (s : State) : s.sup.Brakes (haltRole s).sup := by
  unfold haltRole
  split
  · exact .of_eq rfl
  · exact ⟨rfl, fun h => by rw [show (haltSupply s).sup.brake = (s.sup.brake || decide (s.sup.unwindRef = 0)) from rfl, h, Bool.true_or]⟩
  · exact .of_eq rfl
  · exact .of_eq rfl

theorem enterHalted_brakes (s : State) : s.sup.Brakes (enterHalted s).sup := by
  rw [enterHalted_eq]
  obtain ⟨-, -, -, hsup, -⟩ := atHalt_fields s
  refine (haltRole_brakes s).trans ⟨?_, fun h => ?_⟩
  · rw [cadence_settle_sup, hsup]
  · rw [cadence_settle_sup, hsup]
    exact h

theorem localCause_brakes (c : FaultCode) (d : Nat) (latched : Bool) (s : State) : s.sup.Brakes (localCause c d latched s).sup := by
  unfold localCause
  split_ifs
  · exact .refl _
  · exact .of_eq (recordFault_sup _ _ _)
  · exact .of_eq (recordFault_sup _ _ _)
  · refine (enterHalted_brakes { s with fault := some ⟨c, half16 d, s.stn⟩ }).trans (.of_eq ?_)
    rw [postLasting_sup, sendPattern_sup]

theorem enterListen_brakes (s : State) : s.sup.Brakes (enterListen s).sup := by
  rw [enterListen_eq]
  split_ifs
  · exact localCause_brakes _ _ _ s.listening
  · exact localCause_brakes _ _ _ s.listening
  · exact .refl _

/-- The end of STOPPING keeps the Supply Unit, whatever input it meets (R7, R10). -/
theorem stoppingEnd_brakes (s : State) : s.sup.Brakes (stoppingEnd s).sup := by
  unfold stoppingEnd enterReadyOrListen
  split_ifs
  · exact .of_eq (enterReady_sup s)
  · exact enterListen_brakes s
  · exact .refl _

theorem stoppingEnd_of_other (h : s.stn ≠ .stopping) : stoppingEnd s = s := if_neg fun hstopping => h hstopping.1

/-! ## What an evaluation of the splice sequence leaves (R135 to R140) -/

/-- The state with what an evaluation of the splice sequence writes blanked. -/
def State.unjudged (s : State) : State := { s with
  msg := .reset
  spd := .reset
  fault := none
  sup := { s.sup with
    splice := .run, outstanding := none, fpos := none, emergency := false, fineUnwind := 0, rollTimer := none
    armA.noSpare := false, armB.noSpare := false } }

theorem handRollState_unjudged (s : State) : (handRollState s).unjudged = s.unjudged := by rw [handRollState_eq]; rfl

theorem reformOwn_unjudged (s : State) : (reformOwn s).unjudged = s.unjudged := by rw [reformOwn_eq]; rfl

theorem setSplice_unjudged (x : SpliceState) (s : State) : (setSplice x s).unjudged = s.unjudged := by
  rw [setSplice, handRollState_unjudged, reformOwn_unjudged]
  rfl

theorem requestSlot_unjudged (s : State) : (requestSlot s).unjudged = s.unjudged := by
  unfold requestSlot
  split <;> rfl

theorem enterPressing_unjudged (emergency : Bool) (s : State) : (enterPressing emergency s).unjudged = s.unjudged := by
  rw [enterPressing, setSplice_unjudged]
  rfl

theorem postLasting_unjudged (f : Frame) (s : State) : (postLasting f s).unjudged = s.unjudged := by
  unfold postLasting
  split_ifs <;> rfl

theorem recordFault_unjudged (c : FaultCode) (d : Nat) (s : State) : (recordFault c d s).unjudged = s.unjudged := by
  unfold recordFault
  split
  · exact postLasting_unjudged _ _
  · rfl

theorem evalRun_unjudged (s : State) : (evalRun s).unjudged = s.unjudged := by
  unfold evalRun
  cases s.sup.running with
  | none => rfl
  | some n =>
    simp only
    split_ifs
    · rfl
    · rw [requestSlot_unjudged, setSplice_unjudged]
    · rfl
    · rw [recordFault_unjudged]
      cases n <;> rfl

theorem unlessEmergency_unjudged {f : State → State} (h : (f s).unjudged = s.unjudged) :
    (unlessEmergency f s).unjudged = s.unjudged := by
  unfold unlessEmergency
  split_ifs
  · exact enterPressing_unjudged true s
  · exact h

theorem evalRequesting_unjudged (s : State) : (evalRequesting s).unjudged = s.unjudged := by
  unfold evalRequesting
  split_ifs
  · exact requestSlot_unjudged s
  · rfl

/-- FILLING that arms, where it does, the stop trigger not yet tested (R137). -/
def State.filled (s : State) : State :=
  if s.sup.splice = .filling ∧ s.sup.usesContent = true ∧ s.conf.fillTarget ≤ s.sup.content + s.conf.festoonCapacity / 100 then
    setSplice .armed s
  else s

theorem evalFilling_eq (s : State) : evalFilling s = if stopTrigger s.filled then enterPressing false s.filled else s.filled := rfl

theorem filled_unjudged (s : State) : s.filled.unjudged = s.unjudged := by
  unfold State.filled
  split_ifs
  · exact setSplice_unjudged _ s
  · rfl

theorem evalFilling_unjudged (s : State) : (evalFilling s).unjudged = s.unjudged := by
  rw [evalFilling_eq]
  split_ifs
  · rw [enterPressing_unjudged, filled_unjudged]
  · exact filled_unjudged s

theorem evalAccelerating_unjudged (s : State) : (evalAccelerating s).unjudged = s.unjudged := by
  unfold evalAccelerating
  split_ifs
  · exact setSplice_unjudged _ s
  · rfl

theorem evalRunThenEmergency_unjudged (s : State) : (evalRunThenEmergency s).unjudged = s.unjudged :=
  (unlessEmergency_unjudged rfl).trans (evalRun_unjudged s)

theorem evalSplice_idle (h : ¬(s.stn = .ready ∨ s.stn = .running ∨ s.stn = .stopping)) : evalSplice s = s := if_neg h

theorem evalSplice_pressing (h : s.sup.splice = .pressing) : evalSplice s = s := by
  unfold evalSplice
  rw [h]
  split_ifs <;> rfl

theorem evalSplice_unjudged (s : State) : (evalSplice s).unjudged = s.unjudged := by
  unfold evalSplice
  split_ifs
  · cases s.sup.splice with
    | pressing => rfl
    | accelerating => exact evalAccelerating_unjudged s
    | run => exact evalRunThenEmergency_unjudged s
    | requesting => exact unlessEmergency_unjudged (evalRequesting_unjudged s)
    | noSlot => exact unlessEmergency_unjudged rfl
    | slotted => exact unlessEmergency_unjudged rfl
    | filling => exact unlessEmergency_unjudged (evalFilling_unjudged s)
    | armed => exact unlessEmergency_unjudged (evalFilling_unjudged s)
  · rfl

/-! ## The fine reference as PRESSING is entered (R131) -/

theorem unwindRef_of_unjudged (h : t.unjudged = s.unjudged) : t.sup.unwindRef = s.sup.unwindRef :=
  (congrArg (fun u : State => u.sup.unwindRef) h :)

/-- A step that enters PRESSING takes the fine reference from the unwind reference. -/
def State.takesFine (s t : State) : Prop := t.sup.splice = .pressing → t.sup.fineUnwind = 100 * s.sup.unwindRef

theorem takesFine_of_other (h : t.sup.splice ≠ .pressing) : s.takesFine t := fun hpressing => absurd hpressing h

theorem enterPressing_fine (emergency : Bool) (s : State) : (enterPressing emergency s).sup.fineUnwind = 100 * s.sup.unwindRef := by
  rw [enterPressing, setSplice_sup]

theorem unlessEmergency_takesFine {f : State → State} (h : s.takesFine (f s)) : s.takesFine (unlessEmergency f s) := by
  unfold unlessEmergency
  split_ifs
  · exact fun _ => enterPressing_fine true s
  · exact h

theorem evalRequesting_splice (s : State) : (evalRequesting s).sup.splice = s.sup.splice := by
  unfold evalRequesting
  split_ifs
  · exact requestSlot_splice s
  · rfl

theorem filled_splice_ne (h : s.sup.splice ≠ .pressing) : s.filled.sup.splice ≠ .pressing := by
  unfold State.filled
  split_ifs
  · rw [setSplice_splice]
    decide
  · exact h

theorem evalFilling_takesFine (h : s.sup.splice ≠ .pressing) : s.takesFine (evalFilling s) := by
  rw [evalFilling_eq]
  split_ifs
  · exact fun _ => by rw [enterPressing_fine, unwindRef_of_unjudged (filled_unjudged s)]
  · exact takesFine_of_other (filled_splice_ne h)

theorem evalAccelerating_splice_ne (h : s.sup.splice ≠ .pressing) : (evalAccelerating s).sup.splice ≠ .pressing := by
  unfold evalAccelerating
  split_ifs
  · rw [setSplice_splice]
    decide
  · exact h

theorem evalRunThenEmergency_takesFine (h : s.sup.splice = .run) : s.takesFine (evalRunThenEmergency s) := by
  have hfine : (evalRun s).takesFine (unlessEmergency id (evalRun s)) :=
    unlessEmergency_takesFine (takesFine_of_other (evalRun_splice_ne h))
  exact fun hpressing => (hfine hpressing).trans (by rw [unwindRef_of_unjudged (evalRun_unjudged s)])

theorem evalSplice_fine (h : (evalSplice s).sup.splice = .pressing) :
    (evalSplice s).sup.fineUnwind = if s.sup.splice = .pressing then s.sup.fineUnwind else 100 * s.sup.unwindRef := by
  by_cases hpressing : s.sup.splice = .pressing
  · rw [if_pos hpressing, evalSplice_pressing hpressing]
  · rw [if_neg hpressing]
    suffices htakes : s.takesFine (evalSplice s) from htakes h
    unfold evalSplice
    split_ifs
    · cases hsplice : s.sup.splice with
      | pressing => exact absurd hsplice hpressing
      | accelerating => exact takesFine_of_other (evalAccelerating_splice_ne hpressing)
      | run => exact evalRunThenEmergency_takesFine hsplice
      | requesting => exact unlessEmergency_takesFine (takesFine_of_other (by rw [evalRequesting_splice]; exact hpressing))
      | noSlot => exact unlessEmergency_takesFine (takesFine_of_other hpressing)
      | slotted => exact unlessEmergency_takesFine (takesFine_of_other hpressing)
      | filling => exact unlessEmergency_takesFine (evalFilling_takesFine hpressing)
      | armed => exact unlessEmergency_takesFine (evalFilling_takesFine hpressing)
    · exact takesFine_of_other hpressing

/-! ## The unwind reference (R131) -/

/-- The splice sequence as the supply timer evaluates it. -/
def State.judged (s : State) : State := evalSplice { s with sup.supplyTimer := some 10 }

theorem exec_supplyTimer (h : s.sup.supplyTimer.isSome = true) :
    exec .supplyTimerExpiry s = .next (stoppingEnd (pressCheck (formUnwind s.judged))) := by
  have harm : exec .supplyTimerExpiry s = execSupplyTimerExpiry s := rfl
  rw [harm, execSupplyTimerExpiry, if_pos h]
  rfl

theorem judged_unjudged (s : State) : s.judged.unjudged = { s.unjudged with sup.supplyTimer := some 10 } :=
  evalSplice_unjudged _

theorem judged_idle (h : ¬(s.stn = .ready ∨ s.stn = .running ∨ s.stn = .stopping)) :
    s.judged = { s with sup.supplyTimer := some 10 } := evalSplice_idle h

theorem judged_pressing (h : s.sup.splice = .pressing) : s.judged = { s with sup.supplyTimer := some 10 } := evalSplice_pressing h

theorem formUnwind_eq (s : State) : formUnwind s = { s with
    sup.fineUnwind := (formUnwind s).sup.fineUnwind, sup.unwindRef := (formUnwind s).sup.unwindRef } := by
  unfold formUnwind
  split_ifs <;> rfl

theorem formUnwind_halted (h : s.stn = .halted) : formUnwind s = s := if_pos h

theorem formUnwind_pressing (hstn : s.stn ≠ .halted) (h : s.sup.splice = .pressing) : formUnwind s = { s with
    sup.fineUnwind := s.sup.fineUnwind - s.conf.spliceDecel
    sup.unwindRef := (s.sup.fineUnwind - s.conf.spliceDecel) / 100 } := by
  rw [formUnwind, if_neg hstn, if_pos h]

theorem formUnwind_other (hstn : s.stn ≠ .halted) (h : s.sup.splice ≠ .pressing) : formUnwind s = { s with
    sup.unwindRef := (clampInt 0 s.conf.unwindMax (s.sup.vHead + festoonCorrection s)).toNat } := by
  rw [formUnwind, if_neg hstn, if_neg h]

/-- The festoon correction, by what it reads. -/
theorem festoonCorrection_eq (hfestoon : t.sup.festoon = s.sup.festoon) (hcontent : t.sup.content = s.sup.content)
    (hstn : t.stn = s.stn) (hconf : t.conf = s.conf) : festoonCorrection t =
      if s.sup.festoon = .noReading ∨ s.sup.festoon = .lost then 0
      else clampInt (-1000) (if s.stn = .running then 1000 else 0)
        (((if t.sup.splice = .filling ∨ t.sup.splice = .armed then s.conf.fillTarget else s.conf.runTarget : Nat)
          - (s.sup.content : Int)).tdiv 100) := by
  unfold festoonCorrection
  rw [hfestoon, hcontent, hstn, hconf]
  by_cases hrunning : s.stn = .running
  · simp only [hrunning, if_true]
  · simp only [hrunning, if_false]

/-- What the timer's last two steps leave as the unwind reference was formed: the press fires, the brake comes on. -/
theorem supplyEnd_eq (x : State) : (stoppingEnd (pressCheck x)).sup = { x.sup with
    brake := (stoppingEnd (pressCheck x)).sup.brake, pressFire := (stoppingEnd (pressCheck x)).sup.pressFire
    pressTimer := (stoppingEnd (pressCheck x)).sup.pressTimer, rollTimer := (stoppingEnd (pressCheck x)).sup.rollTimer } := by
  have hcheck : (pressCheck x).sup = { x.sup with
      brake := (pressCheck x).sup.brake, pressFire := (pressCheck x).sup.pressFire, pressTimer := (pressCheck x).sup.pressTimer } := by
    unfold pressCheck
    split_ifs <;> rfl
  rw [(stoppingEnd_brakes (pressCheck x)).view, hcheck]

/-- An unfired press of a PRESSING splice at rest fires in RUNNING (R139). -/
theorem supplyEnd_fires (hsplice : s.sup.splice = .pressing) (hrest : s.pos.measured = 0) (hstn : s.stn = .running)
    (hfire : s.sup.pressFire = false) : stoppingEnd (pressCheck s) =
      { s with sup.brake := true, sup.pressFire := true, sup.pressTimer := some s.conf.pressTimeout } := by
  rw [pressCheck, if_pos ⟨hsplice, hrest⟩, if_pos ⟨hstn, hfire⟩]
  exact stoppingEnd_of_running hstn

/-- Settles O51: the unwind reference, and the press, at an expiry of the supply timer. -/
theorem supplyTimerFormsTheUnwind : Obligations.SupplyTimerFormsTheUnwind := by
  unfold Obligations.SupplyTimerFormsTheUnwind
  refine ⟨fun s corr htimer => ?_, fun s htimer hstn hsplice hrest hfire => ?_, fun s htimer hsplice hrest hkept => ?_⟩
  · have hkept {α : Type} (f : State → α) : f s.judged.unjudged = f { s.unjudged with sup.supplyTimer := some 10 } :=
      congrArg f (judged_unjudged s)
    have hstn : s.judged.stn = s.stn := hkept (·.stn)
    have hconf : s.judged.conf = s.conf := conf_congr (hkept (·.cfg))
    have hsup := supplyEnd_eq (formUnwind s.judged)
    have hsplice : (stoppingEnd (pressCheck (formUnwind s.judged))).sup.splice = s.judged.sup.splice := by rw [hsup, formUnwind_eq]
    refine ⟨_, exec_supplyTimer htimer, ?_, ?_, ?_, fun hhalted => ?_, fun hlisten => ?_, fun hne hnot hcorr => ?_,
      fun hne hpressing fine hfine => ?_⟩
    · rw [hsup, formUnwind_eq]
      exact hkept (·.sup.supplyTimer)
    · rw [hsup, formUnwind_eq]
      exact hkept (·.sup.content)
    · rw [hsup, formUnwind_eq]
      exact hkept (·.sup.offset)
    · have hidle : s.judged = { s with sup.supplyTimer := some 10 } := judged_idle (by rw [hhalted]; decide)
      have hform : formUnwind s.judged = s.judged := formUnwind_halted (hstn.trans hhalted)
      refine ⟨by rw [hsup, hform, hidle], by rw [hsplice, hidle], ?_⟩
      have hcheck : (pressCheck s.judged).stn = .halted := by rw [pressCheck_eq]; exact hstn.trans hhalted
      rw [hform, stoppingEnd_of_other (by rw [hcheck]; decide), hcheck]
    · rw [hsplice, judged_idle (by rw [hlisten]; decide)]
    · rw [hsplice] at hnot hcorr
      have hcorrection : festoonCorrection s.judged = corr :=
        (festoonCorrection_eq (t := s.judged) (hkept (·.sup.festoon)) (hkept (·.sup.content)) hstn hconf).trans hcorr.symm
      have hhead : s.judged.sup.vHead = s.sup.vHead := hkept (·.sup.vHead)
      have hform : (formUnwind s.judged).sup.unwindRef = (clampInt 0 s.conf.unwindMax (s.sup.vHead + corr)).toNat := by
        rw [formUnwind_other (by rw [hstn]; exact hne) hnot, hcorrection, hconf, hhead]
      rw [hsup]
      exact hform
    · rw [hsplice] at hpressing
      have hentered : s.judged.sup.fineUnwind = if s.sup.splice = .pressing then s.sup.fineUnwind else 100 * s.sup.unwindRef :=
        evalSplice_fine hpressing
      rw [hsup, formUnwind_pressing (by rw [hstn]; exact hne) hpressing, hconf, hentered, ← hfine]
      exact ⟨rfl, rfl⟩
  · have hne : s.stn ≠ .halted := by
      rw [hstn]
      decide
    have hform : formUnwind s.judged = { s with
        sup.supplyTimer := some 10, sup.fineUnwind := s.sup.fineUnwind - s.conf.spliceDecel
        sup.unwindRef := (s.sup.fineUnwind - s.conf.spliceDecel) / 100 } := by
      rw [judged_pressing hsplice]
      exact formUnwind_pressing (s := { s with sup.supplyTimer := some 10 }) hne hsplice
    rw [exec_supplyTimer htimer, hform]
    exact congrArg Host.Outcome.next (supplyEnd_fires hsplice hrest hstn hfire)
  · obtain ⟨hform, hmeasured, hfire, hpt⟩ : (formUnwind s.judged).sup.splice = .pressing ∧ (formUnwind s.judged).pos.measured = 0
        ∧ (formUnwind s.judged).sup.pressFire = s.sup.pressFire ∧ (formUnwind s.judged).sup.pressTimer = s.sup.pressTimer := by
      rw [formUnwind_eq, judged_pressing hsplice]
      exact ⟨hsplice, hrest, rfl, rfl⟩
    have hstn : (formUnwind s.judged).stn = s.stn := by rw [formUnwind_eq, judged_pressing hsplice]
    have hcheck : pressCheck (formUnwind s.judged) = { formUnwind s.judged with sup.brake := true } := by
      rw [pressCheck, if_pos ⟨hform, hmeasured⟩, if_neg]
      rw [hstn, hfire]
      rintro ⟨hrunning, hoff⟩
      exact hkept.elim (fun h => h hrunning) (fun h => by rw [h] at hoff; exact absurd hoff (by decide))
    have hbrakes := stoppingEnd_brakes (pressCheck (formUnwind s.judged))
    have hbrake : (pressCheck (formUnwind s.judged)).sup.brake = true := by rw [hcheck]
    refine ⟨_, exec_supplyTimer htimer, hbrakes.brake hbrake, ?_, ?_, ?_⟩
    · rw [hbrakes.view, hcheck]
      exact hform
    · rw [hbrakes.view, hcheck]
      exact hfire
    · rw [hbrakes.view, hcheck]
      exact hpt

end

end Sys2Proof.Machine
end

section
/-! PROOFS. O53, the press done input and the press timer (R139, R140, R142). -/

namespace Sys2Proof.Machine

section
variable {s t : State} {n : ArmName} {released samples : Nat}

/-! ## The input (R167) -/

theorem exec_pressDone (hrole : s.isRole .supply = true) : exec (.pressDone ⟨released, samples, []⟩) s = .next
    (if rises s.port.input5 ⟨released, samples, []⟩ = true ∧ s.sup.pressFire = true then
      completeSplice { s with port.input5 := levelAfter s.port.input5 ⟨released, samples, []⟩ }
    else { s with port.input5 := levelAfter s.port.input5 ⟨released, samples, []⟩ }) := by
  have harm : exec (.pressDone ⟨released, samples, []⟩) s = execPressDone ⟨released, samples, []⟩ s := rfl
  rw [harm, execPressDone, samplePins_nil, if_pos hrole]

theorem exec_pressDone_other (hrole : s.isRole .supply = false) : exec (.pressDone ⟨released, samples, []⟩) s = .next s := by
  have harm : exec (.pressDone ⟨released, samples, []⟩) s = execPressDone ⟨released, samples, []⟩ s := rfl
  rw [harm, execPressDone, samplePins_nil, if_neg (by rw [hrole]; decide)]

theorem exec_pressDone_held (hlevel : s.port.input5 = true) (hreleased : released < 3) :
    exec (.pressDone ⟨released, samples, []⟩) s = .next s := by
  cases hrole : s.isRole .supply with
  | false => exact exec_pressDone_other hrole
  | true =>
    have hstays : levelAfter s.port.input5 ⟨released, samples, []⟩ = s.port.input5 := by
      by_cases hsamples : 3 ≤ samples
      · rw [levelAfter_high hsamples, hlevel]
      · exact levelAfter_held (Nat.lt_of_not_le hsamples) hreleased
    rw [exec_pressDone hrole, rises_held hlevel hreleased, hstays]
    exact congrArg Host.Outcome.next (if_neg fun h => absurd h.1 (by decide))

theorem exec_pressDone_low (hrole : s.isRole .supply = true) (hreleased : 3 ≤ released) (hsamples : samples < 3) :
    exec (.pressDone ⟨released, samples, []⟩) s = .next { s with port.input5 := false } := by
  have hno : rises s.port.input5 ⟨released, samples, []⟩ ≠ true := by
    rw [Ne, rises_iff]
    exact fun h => absurd h.2 (Nat.not_le.mpr hsamples)
  rw [exec_pressDone hrole, if_neg fun h => hno h.1, levelAfter_low hsamples hreleased]

theorem exec_pressDone_unfired (hrole : s.isRole .supply = true) (hsamples : 3 ≤ samples) (hfire : s.sup.pressFire = false) :
    exec (.pressDone ⟨released, samples, []⟩) s = .next { s with port.input5 := true } := by
  have hoff : ¬s.sup.pressFire = true := by
    rw [hfire]
    decide
  rw [exec_pressDone hrole, if_neg fun h => hoff h.2, levelAfter_high hsamples]

theorem exec_pressDone_fired (hrole : s.isRole .supply = true) (hlevel : s.port.input5 = false ∨ 3 ≤ released) (hsamples : 3 ≤ samples)
    (hfire : s.sup.pressFire = true) :
    exec (.pressDone ⟨released, samples, []⟩) s = .next (completeSplice { s with port.input5 := true }) := by
  have hrises : rises s.port.input5 ⟨released, samples, []⟩ = true := by
    rw [rises_iff]
    exact ⟨hlevel, hsamples⟩
  rw [exec_pressDone hrole, if_pos ⟨hrises, hfire⟩, levelAfter_high hsamples]

/-! ## The completed splice (R140) -/

/-- The splice's SEAM handed and the arms changed over, the splice still PRESSING. -/
def State.changed (s : State) : State := handRollState (changeOver (postLasting (spliceSeam s) s))

/-- The press off and the splice's marks cleared. -/
def State.pressed (s : State) : State := { s.changed with
  sup.pressFire := false, sup.pressTimer := none, sup.brake := s.changed.sup.brake && decide (s.changed.stn = .halted)
  sup.fpos := none, sup.emergency := false }

theorem completeSplice_eq (s : State) : completeSplice s = setSplice .accelerating s.pressed := rfl

theorem changeOver_eq (h : s.sup.running = some n) : changeOver s =
    onArm (otherOf n) (fun a => { a.run with remaining := a.loaded }) (onArm n (fun a => { a with state := .expired }) s) := by
  simp only [changeOver, h]

theorem onArm_kept (m : ArmName) (f : Arm → Arm) (s : State) : onArm m f s = { s with
    sup := { s.sup with armA := (onArm m f s).sup.armA, armB := (onArm m f s).sup.armB } } := by
  cases m <;> rfl

theorem changeOver_kept (s : State) : changeOver s = { s with
    sup := { s.sup with armA := (changeOver s).sup.armA, armB := (changeOver s).sup.armB } } := by
  cases h : s.sup.running with
  | none => simp only [changeOver, h]
  | some n => rw [changeOver_eq h, onArm_kept, onArm_kept n]

theorem changeOver_arms (h : s.sup.running = some n) : (changeOver s).sup.arm n = { s.sup.arm n with state := .expired }
    ∧ (changeOver s).sup.arm (otherOf n) = { s.sup.arm (otherOf n) with
        state := .running, noSpare := false, remaining := (s.sup.arm (otherOf n)).loaded } := by
  rw [changeOver_eq h, onArm_arm, onArm_arm_other]
  refine ⟨?_, rfl⟩
  have hother := onArm_arm_other (otherOf n) (fun a => { a.run with remaining := a.loaded }) (onArm n (fun a => { a with state := .expired }) s)
  rw [otherOf_otherOf] at hother
  rw [hother, onArm_arm]

theorem postLasting_fault_only (f : Frame) (s : State) :
    postLasting f s = { s with fault := (postLasting f s).fault, msg := (postLasting f s).msg } := by
  unfold postLasting
  split_ifs <;> rfl

/-- What the change over leaves, its notices aside. -/
theorem changed_view (s : State) : s.changed.stn = s.stn ∧ s.changed.cfg = s.cfg
    ∧ s.changed.sup = { s.sup with
        armA := (changeOver s).sup.armA, armB := (changeOver s).sup.armB, rollTimer := s.changed.sup.rollTimer } := by
  have hover : changeOver (postLasting (spliceSeam s) s)
      = { changeOver s with fault := (postLasting (spliceSeam s) s).fault, msg := (postLasting (spliceSeam s) s).msg } := by
    rw [postLasting_fault_only]
    unfold changeOver
    cases hrunning : s.sup.running with
    | none => rfl
    | some n => cases n <;> rfl
  have hsup : (changeOver s).sup = { s.sup with armA := (changeOver s).sup.armA, armB := (changeOver s).sup.armB } :=
    congrArg (fun u : State => u.sup) (changeOver_kept s)
  refine ⟨?_, ?_, ?_⟩
  · rw [State.changed, handRollState_eq, hover, changeOver_kept]
  · rw [State.changed, handRollState_eq, hover, changeOver_kept]
  · calc s.changed.sup = { (changeOver (postLasting (spliceSeam s) s)).sup with rollTimer := s.changed.sup.rollTimer } :=
          congrArg (fun u : State => u.sup) (handRollState_eq _)
      _ = { (changeOver s).sup with rollTimer := s.changed.sup.rollTimer } := by rw [hover]
      _ = _ := by rw [hsup]

theorem reformOwn_own (s : State) : (reformOwn s).spd.ownValue = (roleCeiling s).1 ∧ (reformOwn s).spd.ownReason = (roleCeiling s).2 := by
  unfold reformOwn
  simp only
  split
  · exact ⟨rfl, rfl⟩
  · exact ⟨rfl, rfl⟩

theorem setSplice_own (x : SpliceState) (s : State) : (setSplice x s).spd.ownValue
      = (roleCeiling { s with sup.splice := x, sup.outstanding := if x = .requesting then s.sup.outstanding else none }).1
    ∧ (setSplice x s).spd.ownReason
      = (roleCeiling { s with sup.splice := x, sup.outstanding := if x = .requesting then s.sup.outstanding else none }).2 := by
  rw [setSplice, handRollState_eq]
  exact reformOwn_own _

theorem mem_setSplice {x : SpliceState} {e : QEntry} (hceiling : e.frame.kind ≠ 1) (hroll : e.frame.kind ≠ 4) (he : e ∈ s.msg.queue) :
    e ∈ (setSplice x s).msg.queue :=
  mem_handRollState hroll (mem_reformOwn hceiling he)

theorem spliceSeam_kind (s : State) : (spliceSeam s).kind = 3 := rfl

/-- The SEAM of a completed splice waits (R40, R140). -/
theorem mem_completeSplice (h : s.msg.room = true) : ⟨spliceSeam s, 0, .waiting⟩ ∈ (completeSplice s).msg.queue := by
  have hceiling : (spliceSeam s).kind ≠ 1 := by rw [spliceSeam_kind]; decide
  have hroll : (spliceSeam s).kind ≠ 4 := by rw [spliceSeam_kind]; decide
  rw [completeSplice_eq]
  refine mem_setSplice hceiling hroll ?_
  show _ ∈ (State.changed s).msg.queue
  refine mem_handRollState hroll ?_
  rw [changeOver_kept]
  exact mem_postLasting h

theorem seamPlanned_iff : seamPlanned s = true ↔ s.sup.emergency = false
    ∧ ∃ f, s.sup.fpos = some f ∧ (sdiff s.arrival f).natAbs ≤ s.conf.slotMargin := by
  unfold seamPlanned
  cases s.sup.fpos <;> simp

theorem completeSplice_does (hrole : s.role = some .supply) (hrunning : s.sup.running = some n) :
    (completeSplice s).stn = s.stn ∧ (completeSplice s).sup.splice = .accelerating ∧ (completeSplice s).sup.pressFire = false
      ∧ (completeSplice s).sup.pressTimer = none ∧ (completeSplice s).sup.fpos = none ∧ (completeSplice s).sup.emergency = false
      ∧ (completeSplice s).sup.outstanding = none ∧ (completeSplice s).sup.brake = (s.sup.brake && decide (s.stn = .halted))
      ∧ (completeSplice s).sup.arm n = { s.sup.arm n with state := .expired }
      ∧ (completeSplice s).sup.arm (otherOf n) = { s.sup.arm (otherOf n) with
          state := .running, noSpare := false, remaining := (s.sup.arm (otherOf n)).loaded }
      ∧ (completeSplice s).spd.ownValue = s.conf.unwindMax ∧ (completeSplice s).spd.ownReason = .unwindMax := by
  obtain ⟨hstn, hcfg, hsup⟩ := changed_view s
  obtain ⟨hexpired, hspare⟩ := changeOver_arms hrunning
  obtain ⟨hvalue, hreason⟩ := setSplice_own .accelerating s.pressed
  have harm : ∀ m : ArmName, (completeSplice s).sup.arm m = (changeOver s).sup.arm m := fun m => by
    have hpressed : s.pressed.sup.arm m = (changeOver s).sup.arm m := by
      show s.changed.sup.arm m = _
      rw [hsup]
      cases m <;> rfl
    rw [← hpressed, completeSplice_eq, setSplice_sup]
    cases m <;> rfl
  have hceiling : roleCeiling { s.pressed with sup.splice := .accelerating, sup.outstanding := none } = (s.conf.unwindMax, .unwindMax) := by
    have hrole' : State.role { s.pressed with sup.splice := .accelerating, sup.outstanding := none } = some .supply :=
      (role_congr hcfg).trans hrole
    have hconf : State.conf { s.pressed with sup.splice := .accelerating, sup.outstanding := none } = s.conf := conf_congr hcfg
    rw [← hconf]
    unfold roleCeiling
    rw [hrole']
    rfl
  rw [harm, harm, completeSplice_eq, setSplice_sup]
  refine ⟨(setSplice_stn _ _).trans hstn, rfl, rfl, rfl, rfl, rfl, rfl, ?_, hexpired, hspare, ?_, ?_⟩
  · show (s.changed.sup.brake && decide (s.changed.stn = .halted)) = _
    rw [hsup, hstn]
  · rw [hvalue]
    exact congrArg Prod.fst hceiling
  · rw [hreason]
    exact congrArg Prod.snd hceiling

/-! ## The press timer (R17, R139) -/

theorem exec_pressTimer (h : s.sup.pressTimer.isSome = true) : exec .pressTimerExpiry s = .next
    (localCause .pressTimeout s.spareRoll true { s with sup.pressTimer := none, sup.pressFire := false }) := by
  have harm : exec .pressTimerExpiry s = execPressTimerExpiry s := rfl
  rw [harm, execPressTimerExpiry, if_pos h]

theorem spareRoll_of_running (h : s.sup.running = some n) : s.spareRoll = (s.sup.arm (otherOf n)).rollId := by
  simp [State.spareRoll, h]

/-- Settles O53: the press done input, then the press timer. -/
theorem pressEndsOrTimesOut : Obligations.PressEndsOrTimesOut := by
  unfold Obligations.PressEndsOrTimesOut
  refine ⟨fun s released samples => ⟨exec_pressDone_held, exec_pressDone_low, fun hrole _ => exec_pressDone_unfired hrole⟩,
    fun s released samples n hrole hlevel hsamples hfire hrunning => ?_, fun s hlive htimer => ?_⟩
  · have hsupply : s.role = some .supply := ((isRole_iff s .supply).mp hrole).2
    obtain ⟨hstn, hsplice, hoff, htimer, hfpos, hemergency, hasked, hbrake, hexpired, hspare, hvalue, hreason⟩ :=
      completeSplice_does (s := { s with port.input5 := true }) hsupply hrunning
    refine ⟨_, exec_pressDone_fired hrole hlevel hsamples hfire, completeSplice_port _, hstn, hsplice, hoff, htimer, hfpos, hemergency,
      hasked, hbrake, hexpired, hspare, hvalue, hreason, fun hroom => ⟨seamPlanned s, mem_completeSplice hroom, seamPlanned_iff⟩⟩
  · set u : State := { s with sup.pressTimer := none, sup.pressFire := false } with hu
    obtain ⟨hstn, hentry, htx, -, hfault⟩ := localCause_latched_rules (s := u) (c := .pressTimeout) (d := s.spareRoll) hlive
    obtain ⟨-, -, hsplice, -, -, -, -, hfire, htimer'⟩ := localCause_supply .pressTimeout s.spareRoll true u
    have hquiet : s.haltsQuietly → u.haltsQuietly := (haltsQuietly_congr (s := s) (s' := u) rfl rfl rfl).mpr
    exact ⟨_, exec_pressTimer htimer, hstn, hfire, htimer', hsplice, hentry, htx, fun hq hlen =>
      ⟨_, hfault (hquiet hq) hlen, fun ha => spareRoll_of_running ha, fun hb => spareRoll_of_running hb⟩⟩

end

end Sys2Proof.Machine
end

section
/-! PROOFS. O52, the splice sequence as the supply timer evaluates it (R135 to R140). -/

namespace Sys2Proof.Machine

section
variable {s t : State} {m m' : Msg} {n : ArmName}

/-! ## What a step leaves of the Message Unit's numbers -/

theorem supersede_nextId (m : Msg) (f : Frame) : (m.supersede f).nextId = m.nextId := by
  have hclear : (m.clearHeld f).nextId = m.nextId := by cases f <;> rfl
  unfold Msg.supersede
  split
  · exact hclear
  · split
    · exact hclear
    · cases f <;> rfl

/-- Notices handed take no request id (R44). -/
theorem Msg.Hands.nextId (h : m.Hands m') : m'.nextId = m.nextId := by
  induction h with
  | refl => rfl
  | supersede m' f _ _ ih => exact (supersede_nextId m' f).trans ih
  | lasting m' f _ _ _ ih => exact ih
  | lose m' _ ih => exact ih
  | land m' _ ih => exact ih
  | complete m' r id f h _ ih => exact ih

/-- The Message Unit after the supply timer's last steps, and the fault record. -/
theorem supplyEnd_msg (x : State) : x.msg.Hands (stoppingEnd (pressCheck (formUnwind x))).msg
    ∧ (x.stn ≠ .stopping → (stoppingEnd (pressCheck (formUnwind x))).msg = x.msg)
    ∧ (x.stn ≠ .stopping ∨ (x.port.eStop = false ∧ x.port.webBreak = false) →
        (stoppingEnd (pressCheck (formUnwind x))).fault = x.fault) := by
  have hkept : pressCheck (formUnwind x) = { x with sup := (pressCheck (formUnwind x)).sup } := by
    rw [pressCheck_eq, formUnwind_eq]
  have hstn : (pressCheck (formUnwind x)).stn = x.stn := by rw [hkept]
  refine ⟨stoppingEnd_hands (by rw [hkept]; exact .refl), fun hne => ?_, fun hquiet => ?_⟩
  · rw [stoppingEnd_of_other (by rw [hstn]; exact hne), hkept]
  · rcases hquiet with hne | ⟨he, hw⟩
    · rw [stoppingEnd_of_other (by rw [hstn]; exact hne), hkept]
    · unfold stoppingEnd
      split
      · obtain ⟨-, -, -, -, -, hfault, -⟩ := enterReadyOrListen_fields (s := pressCheck (formUnwind x))
          (by rw [hkept]; exact he) (by rw [hkept]; exact hw)
        rw [hfault, hkept]
      · rw [hkept]

/-- What the supply timer's last steps leave of the splice. -/
theorem supplyEnd_splice (x : State) : (stoppingEnd (pressCheck (formUnwind x))).sup.splice = x.sup.splice
    ∧ (stoppingEnd (pressCheck (formUnwind x))).sup.emergency = x.sup.emergency
    ∧ (stoppingEnd (pressCheck (formUnwind x))).sup.fpos = x.sup.fpos
    ∧ (stoppingEnd (pressCheck (formUnwind x))).sup.outstanding = x.sup.outstanding
    ∧ (stoppingEnd (pressCheck (formUnwind x))).sup.arm n = x.sup.arm n := by
  rw [supplyEnd_eq, formUnwind_eq]
  exact ⟨rfl, rfl, rfl, rfl, by cases n <;> rfl⟩

/-! ## The tests of an evaluation -/

theorem runningRemaining_of (h : s.sup.running = some n) : s.sup.runningRemaining = (s.sup.arm n).remaining := by
  simp [Supply.runningRemaining, h]

theorem spareLoaded_of (h : s.sup.running = some n) : s.sup.spareLoaded = decide ((s.sup.arm (otherOf n)).state = .loaded) := by
  simp only [Supply.spareLoaded, h]

theorem emergencyDue_of (h : s.sup.running = some n) : emergencyDue s =
    (decide ((s.sup.arm (otherOf n)).state = .loaded) && decide ((s.sup.arm n).remaining ≤ s.conf.runoutReserve)) := by
  rw [emergencyDue, spareLoaded_of h, runningRemaining_of h]

theorem usesContent_iff : s.sup.usesContent = true ↔ s.sup.festoon = .good ∨ s.sup.festoon = .holding := by
  simp [Supply.usesContent]

theorem stopTrigger_of {f : Word} (h : s.sup.fpos = some f) :
    stopTrigger s = decide (sdiff f s.arrival ≤ stopDistance s.pos.measured s.conf.spliceDecel) := by
  simp only [stopTrigger, h]

/-- The test for an emergency reads nothing that an evaluation in RUN writes. -/
theorem emergencyDue_of_unjudged (h : t.unjudged = s.unjudged) : emergencyDue t = emergencyDue s := by
  have hview : ∀ u : State, emergencyDue u.unjudged = emergencyDue u := fun u => by
    have hrunning : u.unjudged.sup.running = u.sup.running := rfl
    cases hu : u.sup.running with
    | none => simp [emergencyDue, Supply.spareLoaded, hu, hrunning]
    | some n =>
      rw [emergencyDue_of hu, emergencyDue_of (hrunning.trans hu)]
      cases n <;> rfl
  rw [← hview, h, hview]

theorem unlessEmergency_due {f : State → State} (h : emergencyDue s = true) : unlessEmergency f s = enterPressing true s := if_pos h

theorem unlessEmergency_calm {f : State → State} (h : emergencyDue s = false) : unlessEmergency f s = f s :=
  if_neg (by rw [h]; decide)

/-! ## A SEAM SLOT asked for (R44, R49, R136) -/

/-- The pending entry of a SEAM SLOT asked for now. -/
def State.slotRequest (s : State) : PendingReq := newRequest s (.seamSlot (word32 s.conf.seamLength) (word32 s.conf.slotMargin))

/-- From `s` to `t` one SEAM SLOT has been asked for. -/
structure State.Asks (s t : State) : Prop where
  nextId : t.msg.nextId = s.msg.nextId + 1
  pendings : t.msg.pendings = s.msg.pendings ++ [s.slotRequest]

theorem State.Asks.hands {u : State} (h : s.Asks t) (hands : t.msg.Hands u.msg) : s.Asks u :=
  ⟨hands.nextId.trans h.nextId, hands.tables.1.trans h.pendings⟩

theorem handAsk_nextId (m : Msg) (f : Frame) (u : UnsentRef) : (m.handAsk f u).nextId = m.nextId := by
  unfold Msg.handAsk Msg.markUnsent
  repeat' split
  all_goals rfl

theorem requestSlot_asks (h : s.msg.pendings.length < 4) :
    s.Asks (requestSlot s) ∧ (requestSlot s).sup.outstanding = some s.msg.freeEntry := by
  have hroom : s.msg.pendings.length < Config.tableSize := h
  unfold requestSlot
  rw [if_pos hroom]
  exact ⟨⟨handAsk_nextId _ _ _, (handAsk_keepsTables _ _ _).pendings⟩, rfl⟩

/-- A change of splice state does not change the request that would be asked for. -/
theorem slotRequest_congr (hcfg : t.cfg = s.cfg) (hands : s.msg.Hands t.msg) : t.slotRequest = s.slotRequest ∧ t.msg.freeEntry = s.msg.freeEntry := by
  have hconf : t.conf = s.conf := conf_congr hcfg
  have hfree : t.msg.freeEntry = s.msg.freeEntry := by
    unfold Msg.freeEntry
    rw [hands.tables.1]
  refine ⟨?_, hfree⟩
  unfold State.slotRequest newRequest State.neighbour
  rw [hfree, hands.nextId, hconf]

theorem setSplice_asks {x : SpliceState} (h : s.msg.pendings.length < 4) :
    s.Asks (requestSlot (setSplice x s)) ∧ (requestSlot (setSplice x s)).sup.outstanding = some s.msg.freeEntry := by
  have hands : s.msg.Hands (setSplice x s).msg := setSplice_hands .refl
  have hcfg : (setSplice x s).cfg = s.cfg := (congrArg (fun u : State => u.cfg) (setSplice_unjudged x s) :)
  obtain ⟨hrequest, hfree⟩ := slotRequest_congr hcfg hands
  obtain ⟨⟨hid, hpendings⟩, hout⟩ := requestSlot_asks (s := setSplice x s) (by rw [hands.tables.1]; exact h)
  refine ⟨⟨by rw [hid, hands.nextId], by rw [hpendings, hands.tables.1, hrequest]⟩, by rw [hout, hfree]⟩

/-! ## PRESSING entered (R137, R138) -/

theorem enterPressing_spec (emergency : Bool) (s : State) : (enterPressing emergency s).sup.splice = .pressing
    ∧ (enterPressing emergency s).sup.emergency = emergency
    ∧ (enterPressing emergency s).sup.fpos = if emergency then none else s.sup.fpos := by
  rw [enterPressing, setSplice_sup]
  exact ⟨rfl, rfl, rfl⟩

theorem enterPressing_hands (emergency : Bool) (s : State) : s.msg.Hands (enterPressing emergency s).msg :=
  setSplice_hands (s := { s with
    sup.emergency := emergency, sup.fpos := if emergency then none else s.sup.fpos, sup.fineUnwind := 100 * s.sup.unwindRef }) .refl

/-! ## An evaluation in RUN (R135) -/

theorem evalRun_above (hrunning : s.sup.running = some n) (h : s.conf.requestThreshold < (s.sup.arm n).remaining) : evalRun s = s := by
  simp only [evalRun, hrunning, runningRemaining_of hrunning, if_pos h]

theorem evalRun_asks (hrunning : s.sup.running = some n) (h : ¬s.conf.requestThreshold < (s.sup.arm n).remaining)
    (hspare : (s.sup.arm (otherOf n)).state = .loaded) : evalRun s = requestSlot (setSplice .requesting s) := by
  simp only [evalRun, hrunning, runningRemaining_of hrunning, if_neg h, spareLoaded_of hrunning, hspare, decide_true, if_true]

theorem evalRun_without (hrunning : s.sup.running = some n) (h : ¬s.conf.requestThreshold < (s.sup.arm n).remaining)
    (hspare : (s.sup.arm (otherOf n)).state ≠ .loaded) : evalRun s = if (s.sup.arm n).noSpare then s else
      recordFault .noSpareRoll (s.sup.arm n).rollId (onArm n (fun a => { a with noSpare := true }) s) := by
  simp only [evalRun, hrunning, runningRemaining_of hrunning, if_neg h, spareLoaded_of hrunning, decide_eq_false hspare, Bool.false_eq_true,
    if_false]

/-! ## The evaluation, by the splice state -/

section
variable (hstn : s.stn = .ready ∨ s.stn = .running ∨ s.stn = .stopping)
include hstn

theorem evalSplice_accelerating (h : s.sup.splice = .accelerating) : evalSplice s = evalAccelerating s := by
  simp only [evalSplice, if_pos hstn, h]

theorem evalSplice_run (h : s.sup.splice = .run) : evalSplice s = unlessEmergency id (evalRun s) := by
  simp only [evalSplice, if_pos hstn, h]
  rfl

theorem evalSplice_requesting (h : s.sup.splice = .requesting) : evalSplice s = unlessEmergency evalRequesting s := by
  simp only [evalSplice, if_pos hstn, h]

theorem evalSplice_noSlot (h : s.sup.splice = .noSlot) : evalSplice s = unlessEmergency id s := by
  simp only [evalSplice, if_pos hstn, h]

theorem evalSplice_slotted (h : s.sup.splice = .slotted) : evalSplice s = unlessEmergency id s := by
  simp only [evalSplice, if_pos hstn, h]

theorem evalSplice_filling (h : s.sup.splice = .filling ∨ s.sup.splice = .armed) : evalSplice s = unlessEmergency evalFilling s := by
  rcases h with h | h <;> simp only [evalSplice, if_pos hstn, h]

theorem evalSplice_run_calm (h : s.sup.splice = .run) (hcalm : emergencyDue s = false) : evalSplice s = evalRun s := by
  rw [evalSplice_run hstn h, unlessEmergency_calm ((emergencyDue_of_unjudged (evalRun_unjudged s)).trans hcalm)]
  rfl

/-- An emergency presses, in RUN after the threshold test (R138). -/
theorem evalSplice_emergency (hpressing : s.sup.splice ≠ .pressing) (haccelerating : s.sup.splice ≠ .accelerating)
    (hdue : emergencyDue s = true) : evalSplice s = enterPressing true (if s.sup.splice = .run then evalRun s else s) := by
  cases h : s.sup.splice with
  | pressing => exact absurd h hpressing
  | accelerating => exact absurd h haccelerating
  | run =>
    rw [evalSplice_run hstn h, unlessEmergency_due ((emergencyDue_of_unjudged (evalRun_unjudged s)).trans hdue)]
    rfl
  | requesting => rw [evalSplice_requesting hstn h, unlessEmergency_due hdue]; rfl
  | noSlot => rw [evalSplice_noSlot hstn h, unlessEmergency_due hdue]; rfl
  | slotted => rw [evalSplice_slotted hstn h, unlessEmergency_due hdue]; rfl
  | filling => rw [evalSplice_filling hstn (.inl h), unlessEmergency_due hdue]; rfl
  | armed => rw [evalSplice_filling hstn (.inr h), unlessEmergency_due hdue]; rfl

/-- RUN with a spare at the threshold, and REQUESTING with nothing outstanding, ask for a slot (R135, R136). -/
theorem evalSplice_asks (hrunning : s.sup.running = some n) (hcalm : emergencyDue s = false)
    (h : (s.sup.splice = .run ∧ ¬s.conf.requestThreshold < (s.sup.arm n).remaining ∧ (s.sup.arm (otherOf n)).state = .loaded)
      ∨ (s.sup.splice = .requesting ∧ s.sup.outstanding = none)) :
    (evalSplice s).sup.splice = .requesting ∧ (s.msg.pendings.length < 4 →
      s.Asks (evalSplice s) ∧ (evalSplice s).sup.outstanding = some s.msg.freeEntry) := by
  rcases h with ⟨hsplice, hat, hspare⟩ | ⟨hsplice, hnone⟩
  · rw [evalSplice_run_calm hstn hsplice hcalm, evalRun_asks hrunning hat hspare]
    exact ⟨(requestSlot_splice _).trans (setSplice_splice _ _), setSplice_asks⟩
  · have heval : evalSplice s = requestSlot s := by
      rw [evalSplice_requesting hstn hsplice, unlessEmergency_calm hcalm, evalRequesting, if_pos hnone]
    rw [heval]
    exact ⟨(requestSlot_splice s).trans hsplice, requestSlot_asks⟩

/-- RUN at the threshold without a spare stays RUN and marks the arm; NO SPARE ROLL is raised once a roll (R127, R135). -/
theorem evalSplice_without (hrunning : s.sup.running = some n) (hcalm : emergencyDue s = false) (hsplice : s.sup.splice = .run)
    (hat : ¬s.conf.requestThreshold < (s.sup.arm n).remaining) (hspare : (s.sup.arm (otherOf n)).state ≠ .loaded) :
    (evalSplice s).sup.splice = .run ∧ ((evalSplice s).sup.arm n).noSpare = true
      ∧ ((s.sup.arm n).noSpare = true → evalSplice s = s)
      ∧ (∀ id, (s.sup.arm n).noSpare = false → (s.sup.arm n).roll = some id → s.msg.room = true →
          (evalSplice s).msg = s.msg.place (.fault ⟨.noSpareRoll, id, s.stn⟩)
          ∧ (evalSplice s).fault = some ⟨.noSpareRoll, id, s.stn⟩) := by
  rw [evalSplice_run_calm hstn hsplice hcalm, evalRun_without hrunning hat hspare]
  cases hmark : (s.sup.arm n).noSpare with
  | true => exact ⟨hsplice, hmark, fun _ => rfl, fun _ h => absurd h (by decide)⟩
  | false =>
    rw [if_neg (by decide)]
    refine ⟨?_, ?_, fun h => absurd h (by decide), fun id _ hroll hroom => ?_⟩
    · rw [recordFault_sup, onArm_splice, hsplice]
    · rw [recordFault_sup, onArm_arm]
    · have hlive : (onArm n (fun a => { a with noSpare := true }) s).live = true := by
        rw [live_congr (onArm_stn _ _ _), State.live]
        rcases hstn with h | h | h <;> rw [h] <;> rfl
      have hid : half16 (s.sup.arm n).rollId = id := by simp [Arm.rollId, hroll]
      rw [recordFault_room (by rw [onArm_msg]; exact hroom) hlive, hid, onArm_stn, onArm_msg]
      exact ⟨rfl, rfl⟩

omit hstn in
theorem filled_spec (h : s.sup.splice = .filling ∨ s.sup.splice = .armed) : s.filled.sup.fpos = s.sup.fpos ∧ stopTrigger s.filled = stopTrigger s
    ∧ s.filled.sup.splice = if s.sup.splice = .armed ∨ ((s.sup.festoon = .good ∨ s.sup.festoon = .holding)
        ∧ s.conf.fillTarget ≤ s.sup.content + s.conf.festoonCapacity / 100) then .armed else .filling := by
  by_cases hfull : s.sup.splice = .filling ∧ s.sup.usesContent = true
      ∧ s.conf.fillTarget ≤ s.sup.content + s.conf.festoonCapacity / 100
  · have hfilled : s.filled = setSplice .armed s := if_pos hfull
    have hfpos : (setSplice .armed s).sup.fpos = s.sup.fpos := by rw [setSplice_sup]
    have hview {α : Type} (f : State → α) : f (setSplice .armed s).unjudged = f s.unjudged := congrArg f (setSplice_unjudged _ s)
    have harrival : (setSplice .armed s).arrival = s.arrival := hview State.arrival
    have hpos : (setSplice .armed s).pos = s.pos := hview (·.pos)
    have hconf : (setSplice .armed s).conf = s.conf := conf_congr (hview (·.cfg))
    rw [hfilled, hfpos, setSplice_splice, if_pos (.inr ⟨usesContent_iff.mp hfull.2.1, hfull.2.2⟩)]
    refine ⟨rfl, ?_, rfl⟩
    unfold stopTrigger
    rw [hfpos, harrival, hpos, hconf]
  · have hfilled : s.filled = s := if_neg hfull
    rw [hfilled]
    refine ⟨rfl, rfl, ?_⟩
    rcases h with hfilling | harmed
    · rw [if_neg, hfilling]
      rintro (harmed | ⟨hused, hcontent⟩)
      · rw [hfilling] at harmed
        exact absurd harmed (by decide)
      · exact hfull ⟨hfilling, usesContent_iff.mpr hused, hcontent⟩
    · rw [if_pos (.inl harmed), harmed]

/-- FILLING and ARMED press at the stop trigger; before it FILLING arms once the content is near its target (R137). -/
theorem evalSplice_fills {f : Word} (hcalm : emergencyDue s = false) (hsplice : s.sup.splice = .filling ∨ s.sup.splice = .armed)
    (hf : s.sup.fpos = some f) :
    (sdiff f s.arrival ≤ stopDistance s.pos.measured s.conf.spliceDecel → (evalSplice s).sup.splice = .pressing
      ∧ (evalSplice s).sup.emergency = false ∧ (evalSplice s).sup.fpos = some f)
    ∧ (stopDistance s.pos.measured s.conf.spliceDecel < sdiff f s.arrival → (evalSplice s).sup.splice =
        if s.sup.splice = .armed ∨ ((s.sup.festoon = .good ∨ s.sup.festoon = .holding)
          ∧ s.conf.fillTarget ≤ s.sup.content + s.conf.festoonCapacity / 100) then .armed else .filling) := by
  obtain ⟨hfpos, htrigger, hfilled⟩ := filled_spec hsplice
  rw [stopTrigger_of hf] at htrigger
  rw [evalSplice_filling hstn hsplice, unlessEmergency_calm hcalm, evalFilling_eq, htrigger]
  refine ⟨fun hnear => ?_, fun hfar => ?_⟩
  · rw [decide_eq_true hnear, if_pos rfl]
    obtain ⟨hpressing, hemergency, hkept⟩ := enterPressing_spec false s.filled
    exact ⟨hpressing, hemergency, hkept.trans (hfpos.trans hf)⟩
  · rw [decide_eq_false (not_le.mpr hfar), if_neg (by decide), hfilled]

theorem evalSplice_accelerates (hsplice : s.sup.splice = .accelerating) : (evalSplice s).sup.splice =
    if (s.sup.festoon = .good ∨ s.sup.festoon = .holding)
      ∧ ((s.sup.content : Int) - s.conf.runTarget).natAbs ≤ s.conf.festoonCapacity / 100 then .run else .accelerating := by
  rw [evalSplice_accelerating hstn hsplice, evalAccelerating]
  simp only [usesContent_iff]
  split
  · exact setSplice_splice _ s
  · exact hsplice

/-- The SEAM SLOT of an emergency in RUN, and no request in one elsewhere (R135, R138). -/
theorem evalSplice_emergency_spec (hrunning : s.sup.running = some n) (hpressing : s.sup.splice ≠ .pressing)
    (haccelerating : s.sup.splice ≠ .accelerating) (hdue : emergencyDue s = true) :
    ((evalSplice s).sup.splice = .pressing ∧ (evalSplice s).sup.emergency = true ∧ (evalSplice s).sup.fpos = none)
      ∧ (s.sup.splice = .run → (s.sup.arm n).remaining ≤ s.conf.requestThreshold → s.msg.pendings.length < 4 → s.Asks (evalSplice s))
      ∧ (s.sup.splice ≠ .run ∨ s.conf.requestThreshold < (s.sup.arm n).remaining → s.msg.Hands (evalSplice s).msg) := by
  rw [evalSplice_emergency hstn hpressing haccelerating hdue]
  refine ⟨enterPressing_spec true _, fun hrun hat hroom => ?_, fun hno => ?_⟩
  · have hspare : (s.sup.arm (otherOf n)).state = .loaded := by
      rw [emergencyDue_of hrunning, Bool.and_eq_true, decide_eq_true_eq] at hdue
      exact hdue.1
    rw [if_pos hrun, evalRun_asks hrunning (not_lt.mpr hat) hspare]
    exact (setSplice_asks hroom).1.hands (enterPressing_hands true _)
  · have hsame : (if s.sup.splice = .run then evalRun s else s) = s := by
      split
      · next hrun => exact evalRun_above hrunning (hno.resolve_left fun hne => hne hrun)
      · rfl
    rw [hsame]
    exact enterPressing_hands true s

end

/-- Settles O52: one evaluation of the splice sequence, by its state. -/
theorem spliceSequenceIsEvaluated : Obligations.SpliceSequenceIsEvaluated := by
  unfold Obligations.SpliceSequenceIsEvaluated
  intro s n rem spare emergency stop htimer hrole hstn hrunning hrem hspare hemergency hstop
  set x : State := { s with sup.supplyTimer := some 10 } with hx
  have hstnx : x.stn = .ready ∨ x.stn = .running ∨ x.stn = .stopping := hstn
  have hrunx : x.sup.running = some n := hrunning
  have harm : ∀ k : ArmName, x.sup.arm k = s.sup.arm k := fun k => by cases k <;> rfl
  have hdue : emergencyDue x = emergency := by
    rw [emergencyDue_of hrunx, harm, harm, hemergency, hspare, hrem]
    rfl
  have hkept : s.judged.stn = s.stn := (congrArg (fun u : State => u.stn) (judged_unjudged s) :)
  have hport : s.judged.port = s.port := (congrArg (fun u : State => u.port) (judged_unjudged s) :)
  obtain ⟨hsplice, hemerg, hfpos, hout, harmt⟩ := supplyEnd_splice (n := n) s.judged
  obtain ⟨hands, hmsg, hfault⟩ := supplyEnd_msg s.judged
  rw [hkept] at hmsg hfault
  rw [hport] at hfault
  refine ⟨_, exec_supplyTimer htimer, fun he hnp hna => ?_, fun he hrun habove => ?_, fun he hrun hat hnospare => ?_, fun hask => ?_,
    fun he hno => ?_, fun f he hfill hf => ?_, fun hacc => ?_⟩
  · obtain ⟨⟨hp, hm, hn⟩, hasks, hquiet⟩ := evalSplice_emergency_spec hstnx hrunx hnp hna (hdue.trans he)
    rw [harm, ← hrem] at hasks hquiet
    refine ⟨hsplice.trans hp, hemerg.trans hm, hfpos.trans hn, fun hrun hat hroom => ?_, fun hno => ?_⟩
    · obtain ⟨hid, hpendings⟩ := (hasks hrun hat hroom).hands hands
      exact ⟨hid, hpendings⟩
    · have hall := (hquiet hno).trans hands
      exact ⟨hall.nextId, hall.tables.1⟩
  · rw [hsplice, State.judged, evalSplice_run_calm hstnx hrun (hdue.trans he),
      evalRun_above hrunx (by rw [harm, ← hrem]; exact habove)]
    exact hrun
  · obtain ⟨hs, hmark, hsame, hraises⟩ := evalSplice_without hstnx hrunx (hdue.trans he) hrun
      (by rw [harm, ← hrem]; exact not_lt.mpr hat) (by rw [harm]; exact of_decide_eq_false (hspare.symm.trans hnospare))
    rw [harm] at hsame hraises
    refine ⟨hsplice.trans hs, (congrArg Arm.noSpare harmt).trans hmark, fun id hclear hroll hroom => ?_, fun hmarked => ?_⟩
    · obtain ⟨hplaced, hrecorded⟩ := hraises id hclear hroll hroom
      have hqueued : ⟨.fault ⟨.noSpareRoll, id, s.stn⟩, 0, .waiting⟩ ∈ s.judged.msg.queue := by
        rw [show s.judged.msg = _ from hplaced]
        exact List.mem_append_right _ (List.mem_singleton.mpr rfl)
      exact ⟨hands.keeps_waiting rfl hqueued, fun hne => (hmsg hne).trans hplaced, fun hq => (hfault hq).trans hrecorded⟩
    · have hjudged : s.judged = x := hsame hmarked
      refine ⟨fun hne => (hmsg hne).trans (by rw [hjudged]), fun hq => (hfault hq).trans (by rw [hjudged])⟩
  · have hcalm : emergency = false := hask.elim And.left And.left
    obtain ⟨hs, hasks⟩ := evalSplice_asks hstnx hrunx (hdue.trans hcalm) (by
      rcases hask with ⟨-, hrun, hat, hloaded⟩ | ⟨-, hreq, hnone⟩
      · refine .inl ⟨hrun, ?_, ?_⟩
        · rw [harm, ← hrem]
          exact not_lt.mpr hat
        · rw [harm]
          exact of_decide_eq_true (hspare.symm.trans hloaded)
      · exact .inr ⟨hreq, hnone⟩)
    refine ⟨hsplice.trans hs, fun hroom => ?_⟩
    obtain ⟨hasked, houtstanding⟩ := hasks hroom
    obtain ⟨hid, hpendings⟩ := hasked.hands hands
    exact ⟨hout.trans houtstanding, hid, hpendings⟩
  · rw [hsplice, State.judged, evalSplice_noSlot hstnx hno, unlessEmergency_calm (hdue.trans he)]
    exact hno
  · obtain ⟨hnear, hfar⟩ := evalSplice_fills hstnx (hdue.trans he) hfill hf
    have hdistance : stopDistance x.pos.measured x.conf.spliceDecel = stop := hstop.symm
    rw [hdistance] at hnear hfar
    refine ⟨fun hle => ?_, fun hlt => hsplice.trans (hfar hlt)⟩
    obtain ⟨hp, hm, hn⟩ := hnear hle
    exact ⟨hsplice.trans hp, hemerg.trans hm, hfpos.trans hn⟩
  · exact hsplice.trans (evalSplice_accelerates hstnx hacc)

end

end Sys2Proof.Machine
end

section
/-! PROOFS. The chest re-formed (R151, R154), and O54, SETPOINT (R145). -/

namespace Sys2Proof.Machine

section
variable {s t : State} {i : Nat} {z : Zone} {v : Int}

/-! ## The vent (R151) -/

/-- The over-band test: on over a band, off with no zone over its setpoint, and between the two as it was. -/
theorem overBand_rules (before : Bool) (band : Nat) (zs : List Zone) :
    ((∃ z ∈ zs, 0 < z.setpoint ∧ ∃ r, z.reading = some r ∧ z.setpoint + band < r) → overBand before band zs = true)
      ∧ ((∀ z ∈ zs, 0 < z.setpoint → ∀ r, z.reading = some r → r ≤ z.setpoint) → overBand before band zs = false)
      ∧ ((¬∃ z ∈ zs, 0 < z.setpoint ∧ ∃ r, z.reading = some r ∧ z.setpoint + band < r) →
          (∃ z ∈ zs, 0 < z.setpoint ∧ ∃ r, z.reading = some r ∧ z.setpoint < r) → overBand before band zs = before) := by
  classical
  have htest : overBand before band zs =
      if ∃ z ∈ zs, 0 < z.setpoint ∧ ∃ r, z.reading = some r ∧ z.setpoint + band < r then true
      else if ∀ z ∈ zs, 0 < z.setpoint → ∀ r, z.reading = some r → r ≤ z.setpoint then false
      else before := by
    refine if_congr ?_ rfl (if_congr ?_ rfl rfl)
    · simp only [List.any_eq_true, List.mem_filter, Zone.inUse, decide_eq_true_eq, and_assoc]
      refine exists_congr fun z => and_congr_right fun _ => and_congr_right fun _ => ?_
      cases z.reading <;> simp
    · simp only [List.all_eq_true, List.mem_filter, Zone.inUse, decide_eq_true_eq, and_imp]
      refine forall_congr' fun z => imp_congr_right fun _ => imp_congr_right fun _ => ?_
      cases z.reading <;> simp
  rw [htest]
  refine ⟨fun hover => if_pos hover, fun hunder => ?_, fun hnot ⟨z, hz, hused, r, hr, habove⟩ => ?_⟩
  · rw [if_neg, if_pos hunder]
    rintro ⟨z, hz, hused, r, hr, hover⟩
    have hbelow := hunder z hz hused r hr
    omega
  · rw [if_neg hnot, if_neg fun hall => absurd (hall z hz hused r hr) (not_le.mpr habove)]

/-! ## The chest re-formed (R151, R154) -/

theorem reformChest_eq (s : State) : reformChest s = { s with
    set.vent := if s.stn = .halted then true else overBand s.set.vent s.conf.band s.set.zones
    spd := (reformChest s).spd, msg := (reformChest s).msg } := by
  unfold reformChest
  rw [reformOwn_eq]
  rfl

theorem reformChest_zones (s : State) : (reformChest s).set.zones = s.set.zones := by rw [reformChest_eq]
theorem reformChest_overMark (s : State) : (reformChest s).set.overMark = s.set.overMark := by rw [reformChest_eq]
theorem reformChest_stn (s : State) : (reformChest s).stn = s.stn := by rw [reformChest_eq]
theorem reformChest_fault (s : State) : (reformChest s).fault = s.fault := by rw [reformChest_eq]
theorem reformChest_port (s : State) : (reformChest s).port = s.port := by rw [reformChest_eq]
theorem reformChest_ctl (s : State) : (reformChest s).ctl = s.ctl := by rw [reformChest_eq]

theorem ventFollows_reformChest {before : Bool} (h : s.stn = .halted ∨ s.set.vent = before) : (reformChest s).ventFollows before := by
  obtain ⟨hover, hunder, hbetween⟩ := overBand_rules s.set.vent s.conf.band s.set.zones
  rw [reformChest_eq]
  refine ⟨fun hstn => if_pos hstn, fun hne => ?_⟩
  have hvent : (if s.stn = .halted then true else overBand s.set.vent s.conf.band s.set.zones)
      = overBand s.set.vent s.conf.band s.set.zones := if_neg hne
  rw [hvent]
  exact ⟨hover, hunder, fun hno hz => (hbetween hno hz).trans (h.resolve_left hne)⟩

theorem reformChest_ceiling (hrole : s.role = some .setter) :
    ((reformChest s).spd.ownValue, (reformChest s).spd.ownReason) = chestCeiling (reformChest s) := by
  obtain ⟨hvalue, hreason⟩ := reformOwn_own (reformVent s)
  have hterm : roleCeiling (reformVent s) = chestCeiling (reformVent s) := by
    unfold roleCeiling
    rw [show (reformVent s).role = some .setter from hrole]
  have hsame : chestCeiling (reformChest s) = chestCeiling (reformVent s) := by
    unfold reformChest
    rw [reformOwn_eq]
    rfl
  rw [hsame, ← hterm]
  exact Prod.ext hvalue hreason

theorem set_self {α : Type} {l : List α} {i : Nat} {x : α} (h : l[i]? = some x) : l.set i x = l := by
  obtain ⟨hi, rfl⟩ := List.getElem?_eq_some_iff.mp h
  exact List.set_getElem_self hi

theorem onZone_eq (hz : s.set.zones[i]? = some z) (f : Zone → Zone) : onZone i f s = { s with set.zones := s.set.zones.set i (f z) } := by
  rw [onZone, modifyAt_eq_set hz]

/-! ## O54: SETPOINT (R145) -/

theorem exec_setpoint {sender : Station} {p : List Byte} {r : RequestIn} {zone : Byte} {temp : Half}
    (hasked : s.asked .setpoint sender p r) (hserves : s.serves .setpoint sender r) (hbody : r.body = .setpoint zone temp) :
    (s.set.zones[zone.toNat]? = none →
      exec (.setpoint sender p) s = .next (answer sender r.id .setpoint (refused .badZone) (dropLatch s)))
    ∧ (∀ z, s.set.zones[zone.toNat]? = some z → exec (.setpoint sender p) s = .next
        (answer sender r.id .setpoint (.done (wordOfInt (clampSetpoint s temp)))
          (if z.setpoint = clampSetpoint s temp then dropLatch s
          else reformChest (onZone zone.toNat (Zone.setTo (clampSetpoint s temp)) (dropLatch s))))) := by
  have harm : exec (.setpoint sender p) s = execSetpoint sender p s := rfl
  have hzones : (dropLatch s).set.zones = s.set.zones := rfl
  rw [harm, execSetpoint, receiveRequest_of_serves hasked hserves, hbody]
  refine ⟨fun hz => ?_, fun z hz => ?_⟩
  · simp only [serveSetpoint, hzones, hz]
  · simp only [serveSetpoint, hzones, hz]
    rfl

theorem Zone.setTo_rules (v : Int) (z : Zone) :
    z.setTo v = { z with setpoint := v, integral := (z.setTo v).integral, duty := (z.setTo v).duty }
      ∧ (v = 0 → (z.setTo v).integral = 0 ∧ (z.setTo v).duty = 0)
      ∧ (v ≠ 0 → (z.setTo v).integral = z.integral ∧ (z.setTo v).duty = z.duty) := by
  unfold Zone.setTo
  split
  · next h => exact ⟨rfl, fun _ => ⟨rfl, rfl⟩, fun hne => absurd h hne⟩
  · next h => exact ⟨rfl, fun h0 => absurd h0 h, fun _ => ⟨rfl, rfl⟩⟩

/-- Settles O54: a zone the chest has not, then one it has, at its setpoint already or not. -/
theorem setpointIsClampedAndStored : Obligations.SetpointIsClampedAndStored := by
  unfold Obligations.SetpointIsClampedAndStored
  intro s sender p r zone temp v hasked hserves hbody hv
  have hclamp : clampSetpoint s temp = v := hv.symm
  obtain ⟨hnone, hsome⟩ := exec_setpoint hasked hserves hbody
  rw [hclamp] at hsome
  refine ⟨fun hlen => ⟨_, hnone (List.getElem?_eq_none hlen), rfl, finish_answersOnly _ _, finish_gives _ _⟩, fun z hz => ?_⟩
  have hnext := hsome z hz
  by_cases hsame : z.setpoint = v
  · rw [if_pos hsame] at hnext
    refine ⟨_, z, hnext, (set_self hz).symm, by rw [← hsame], fun h0 hne => absurd (hsame.trans h0) hne, fun _ => ⟨rfl, rfl⟩,
      rfl, rfl, rfl, fun hne => absurd hsame hne, fun _ => rfl, finish_gives _ _⟩
  · rw [if_neg hsame, onZone_eq (s := dropLatch s) hz] at hnext
    obtain ⟨hset, hzero, hkept⟩ := z.setTo_rules v
    obtain ⟨-, -, hrole, -⟩ := hserves
    set x : State := { dropLatch s with set.zones := s.set.zones.set zone.toNat (z.setTo v) } with hx
    refine ⟨_, z.setTo v, hnext, reformChest_zones x, hset, fun h0 _ => hzero h0, fun h => hkept ?_, reformChest_stn x, reformChest_overMark x,
      reformChest_fault x, fun _ => ⟨reformChest_ceiling (s := x) hrole, ventFollows_reformChest (s := x) (.inr rfl)⟩,
      fun h => absurd h hsame, finish_gives _ _⟩
    rcases h with hne | h0
    · exact hne
    · exact fun hv0 => hsame (h0.trans hv0.symm)

end

end Sys2Proof.Machine
end

section
/-! PROOFS. O55, zone reports, the hard limit and lost sensors (R146 to R151, R154). -/

namespace Sys2Proof.Machine

section
variable {s t : State} {i : Nat} {z : Zone} {v : Int}

/-! ## The readings of a list of zones with one changed -/

theorem getElem?_set_here {α : Type} {l : List α} {x y : α} (h : l[i]? = some x) : (l.set i y)[i]? = some y := by
  obtain ⟨hi, -⟩ := List.getElem?_eq_some_iff.mp h
  simp [hi]

theorem getElem?_set_away {α : Type} {l : List α} {y : α} {k : Nat} (h : k ≠ i) : (l.set i y)[k]? = l[k]? :=
  List.getElem?_set_ne h.symm

/-! ## A report (R146, R169) -/

theorem exec_zoneReport {burst : SensorBurst} {r : SensorReport} (hrole : s.isRole .setter = true)
    (hheard : s.heardReport burst = some r) (hchannel : r.channel.toNat = i) (hz : s.set.zones[i]? = some z) :
    exec (.zoneReport burst) s = .next
      (if reportGood r then goodZone i (reportValue r) (s.reported i burst)
      else reformChest (onZone i Zone.doubt (s.reported i burst))) := by
  have harm : exec (.zoneReport burst) s = execZoneReport burst s := rfl
  have hzone : s.isZone i = true := by
    obtain ⟨hi, -⟩ := List.getElem?_eq_some_iff.mp hz
    simp [State.isZone, hrole, hi]
  rw [harm, execZoneReport]
  simp only [hheard, hchannel, hzone, if_true]
  rw [takeZone, hchannel]
  rfl

theorem reportGood_iff {r : SensorReport} : reportGood r = true ↔ r.status = 0 ∧ -500 ≤ reportValue r ∧ reportValue r ≤ 2500 := by
  simp [reportGood, reportSound, and_assoc]

theorem staleTimer_reported (hi : i < 8) (burst : SensorBurst) (s : State) : (s.reported i burst).staleTimer i = some 500 := by
  simp [State.staleTimer, State.reported, freshReport, Config.stalenessMs, hi]

theorem staleTimer_congr (h : t.port = s.port) (k : Nat) : t.staleTimer k = s.staleTimer k := by
  rw [State.staleTimer, State.staleTimer, h]

/-! ## The trip at the hard limit (R150) -/

theorem Zone.shut_shut (z : Zone) : z.shut.shut = z.shut := rfl

theorem map_shut_shut (zs : List Zone) : (zs.map Zone.shut).map Zone.shut = zs.map Zone.shut := by
  rw [List.map_map]
  rfl

/-- The zones shut and the mark set, OVERTEMP not yet raised. -/
def State.tripped (s : State) : State := { s with set.zones := s.set.zones.map Zone.shut, set.overMark := true }

theorem tripLimit_clear (h : s.set.overMark = false) : tripLimit i s = localCause .overtemp i true s.tripped := by
  rw [tripLimit]
  simp only [h, Bool.false_eq_true, if_false]
  rfl

theorem tripLimit_marked (h : s.set.overMark = true) : tripLimit i s = { s with set.zones := s.set.zones.map Zone.shut } := by
  rw [tripLimit]
  simp only [h, if_true]

/-- At a SETTER whose zones are shut a local cause leaves them and the mark as they are. -/
theorem localCause_zones {c : FaultCode} {d : Nat} (hlive : s.live = true) (hrole : s.role = some .setter)
    (hshut : s.set.zones.map Zone.shut = s.set.zones) :
    (localCause c d true s).set.zones = s.set.zones ∧ (localCause c d true s).set.overMark = s.set.overMark := by
  by_cases hstn : s.stn = .halted
  · have hcause : localCause c d true s = recordFault c d { s with ctl.entryClear := s.ctl.lastClear } := by
      simp [localCause, hlive, hstn]
    rw [hcause, recordFault_set]
    exact ⟨rfl, rfl⟩
  · set x : State := { s with fault := some ⟨c, half16 d, s.stn⟩ } with hx
    have hset : (enterHalted x).set = { s.set with zones := s.set.zones.map Zone.shut, vent := true } := enterHalted_set_setter x hrole
    rw [localCause_halts hlive hstn, postLasting_set, sendPattern_set, ← hx, hset]
    exact ⟨hshut, rfl⟩

theorem tripLimit_rules (hlive : s.live = true) (hrole : s.role = some .setter) :
    (tripLimit i s).set.zones = s.set.zones.map Zone.shut ∧ (tripLimit i s).set.overMark = true
      ∧ (tripLimit i s).port = s.port ∧ (tripLimit i s).cfg = s.cfg
      ∧ (s.set.overMark = false → (tripLimit i s).stn = .halted ∧ (tripLimit i s).ctl.entryClear = s.ctl.lastClear
          ∧ (s.haltsQuietly → s.msg.queue.length ≤ 6 → (tripLimit i s).fault = some ⟨.overtemp, half16 i, s.stn⟩
              ∧ ⟨.fault ⟨.overtemp, half16 i, s.stn⟩, 0, .waiting⟩ ∈ (tripLimit i s).msg.queue))
      ∧ (s.set.overMark = true → (tripLimit i s).stn = s.stn ∧ (tripLimit i s).fault = s.fault
          ∧ (tripLimit i s).set.vent = s.set.vent) := by
  cases hmark : s.set.overMark with
  | true =>
    rw [tripLimit_marked hmark]
    exact ⟨rfl, hmark, rfl, rfl, fun h => absurd h (by decide), fun _ => ⟨rfl, rfl, rfl⟩⟩
  | false =>
    obtain ⟨hzones, hover⟩ := localCause_zones (s := s.tripped) (c := .overtemp) (d := i) hlive hrole (map_shut_shut _)
    obtain ⟨hstn, hentry, -⟩ := localCause_latched_rules (s := s.tripped) (c := .overtemp) (d := i) hlive
    rw [tripLimit_clear hmark]
    refine ⟨hzones, hover, localCause_port _ _ _ _, localCause_cfg _ _ _ _, fun _ => ⟨hstn, hentry, fun hquiet hlen => ?_⟩,
      fun h => absurd h (by decide)⟩
    exact localCause_records (s := s.tripped) hlive ((haltsQuietly_congr (s := s) (s' := s.tripped) rfl rfl rfl).mpr hquiet)
      (hlen.trans (by decide))

/-! ## The control step (R148) -/

/-- The record of a zone after a good report at or below the hard limit, in HALTED or outside it. -/
def Zone.follow (halted : Bool) (c : Cfg) (v : Int) (z : Zone) : Zone :=
  if halted then z.read v else if z.inUse then (z.read v).control c v else z.read v

theorem goodZone_below (h : ¬(s.conf.hardLimit : Int) < v) (hz : s.set.zones[i]? = some z) : goodZone i v s =
    reformChest { s with set.zones := s.set.zones.set i (z.follow (decide (s.stn = .halted)) s.conf v) } := by
  have hread : (s.set.zones.set i (z.read v))[i]? = some (z.read v) := getElem?_set_here hz
  rw [goodZone, if_neg h, onZone_eq hz, controlStep]
  by_cases hstn : s.stn = .halted
  · rw [if_pos hstn, Zone.follow, if_pos (decide_eq_true hstn)]
  · have hfollow : z.follow (decide (s.stn = .halted)) s.conf v = if (z.read v).inUse then (z.read v).control s.conf v else z.read v := by
      rw [decide_eq_false hstn]
      rfl
    rw [if_neg hstn, onZone_eq hread, hfollow]
    exact congrArg (fun zs => reformChest { s with set.zones := zs }) (List.set_set ..)

theorem goodZone_above (h : (s.conf.hardLimit : Int) < v) : goodZone i v s = reformChest (onZone i (Zone.read v) (tripLimit i s)) := by
  rw [goodZone, if_pos h]

theorem Zone.follow_rules (halted : Bool) (c : Cfg) (v e : Int) (he : e = z.setpoint - v) :
    (z.follow halted c v).reading = some v ∧ (z.follow halted c v).cond = .good ∧ (z.follow halted c v).hold = none
      ∧ (z.follow halted c v).setpoint = z.setpoint
      ∧ (halted = true ∨ z.setpoint ≤ 0 → (z.follow halted c v).integral = z.integral ∧ (z.follow halted c v).duty = z.duty)
      ∧ (halted = false → 0 < z.setpoint →
          (z.follow halted c v).integral = (if (z.duty = 1023 ∧ 0 < e) ∨ (z.duty = 0 ∧ e < 0) then z.integral
            else clampInt (-(c.integralLimit : Int)) c.integralLimit (z.integral + e))
          ∧ (z.follow halted c v).duty =
            (clampInt 0 1023 ((c.kp * e + c.ki * (z.follow halted c v).integral).tdiv 64)).toNat) := by
  subst he
  unfold Zone.follow
  cases halted with
  | true => exact ⟨rfl, rfl, rfl, rfl, fun _ => ⟨rfl, rfl⟩, fun h => absurd h (by decide)⟩
  | false =>
    rw [if_neg (by decide)]
    by_cases hused : 0 < z.setpoint
    · have huse : z.inUse = true := decide_eq_true hused
      rw [if_pos huse]
      exact ⟨rfl, rfl, rfl, rfl, fun h => absurd hused (not_lt.mpr (h.resolve_left (by decide))), fun _ _ => ⟨rfl, rfl⟩⟩
    · have huse : ¬z.inUse = true := fun h => hused (of_decide_eq_true h)
      rw [if_neg huse]
      exact ⟨rfl, rfl, rfl, rfl, fun _ => ⟨rfl, rfl⟩, fun _ h => absurd h hused⟩

/-! ## A lost sensor (R147, R152, R154) -/

theorem exec_zoneHold (hz : s.set.zones[i]? = some z) (h : z.hold.isSome = true) : exec (.zoneHoldTimerExpiry i) s = .next
    (reformChest (recordFault .sensorLost i { s with set.zones := s.set.zones.set i z.lose })) := by
  have harm : exec (.zoneHoldTimerExpiry i) s = execZoneHoldTimerExpiry i s := rfl
  rw [harm, execZoneHoldTimerExpiry]
  simp only [hz, h, if_true]
  rw [onZone_eq hz]

/-- A zone in use without a reading leaves the chest no ceiling. -/
theorem chestCeiling_lost (hz : z ∈ s.set.zones) (hused : 0 < z.setpoint) (hnone : z.reading = none) :
    chestCeiling s = (0, .sensorLost) := by
  have hany : s.set.zones.any Zone.inUse = true := List.any_eq_true.mpr ⟨z, hz, decide_eq_true hused⟩
  have hlost : ((s.set.zones.filter Zone.inUse).any fun y => y.reading.isNone) = true :=
    List.any_eq_true.mpr ⟨z, List.mem_filter.mpr ⟨hz, decide_eq_true hused⟩, by rw [hnone]; rfl⟩
  have hcold : coldest s = none := by
    unfold coldest
    exact if_pos hlost
  simp [chestCeiling, hany, hcold]

/-- Settles O55: good reports, above the hard limit and below it, faulty ones, and the end of a zone's hold. -/
theorem zonesFollowTheirSensors : Obligations.ZonesFollowTheirSensors := by
  unfold Obligations.ZonesFollowTheirSensors
  refine ⟨fun s burst r i z v e hrole hheard hchannel hi hz hstatus hv hlow hhigh he => ?_,
    fun s i z hrole hi hz => ⟨fun burst r hheard hchannel hbad => ?_, fun hhold => ?_⟩⟩
  · obtain ⟨hlive, hsetter⟩ := (isRole_iff s .setter).mp hrole
    have hgood : reportGood r = true := reportGood_iff.mpr ⟨hstatus, hv ▸ hlow, hv ▸ hhigh⟩
    set x := s.reported i burst with hx
    have hzx : x.set.zones[i]? = some z := hz
    have hreport : x.port.report = none := heardReport_clears hheard
    have hstale : x.staleTimer i = some 500 := staleTimer_reported hi burst s
    rw [exec_zoneReport hrole hheard hchannel hz, if_pos hgood, ← hv]
    by_cases hlimit : (s.conf.hardLimit : Int) < v
    · obtain ⟨hzones, hmark, hport, hcfg, hclear, hmarked⟩ := tripLimit_rules (s := x) (i := i) hlive hsetter
      have hzy : (tripLimit i x).set.zones[i]? = some z.shut := by rw [hzones, List.getElem?_map, hzx]; rfl
      rw [goodZone_above (by exact hlimit), onZone_eq hzy]
      set y : State := { tripLimit i x with set.zones := (tripLimit i x).set.zones.set i (z.shut.read v) } with hy
      have hlist : (reformChest y).set.zones = (s.set.zones.map Zone.shut).set i (z.shut.read v) := by
        rw [reformChest_zones, hy, hzones]
        rfl
      have hportr : (reformChest y).port = x.port := (reformChest_port y).trans hport
      have hvent : y.stn = .halted ∨ y.set.vent = s.set.vent := by
        cases hm : s.set.overMark with
        | false => exact .inl (hclear hm).1
        | true => exact .inr (hmarked hm).2.2
      have hroley : y.role = some .setter := (role_congr hcfg).trans hsetter
      refine ⟨_, z.shut.read v, rfl, by rw [hportr]; exact hreport, ventFollows_reformChest hvent, ?_, (staleTimer_congr hportr i).trans hstale,
        ?_, rfl, rfl, rfl, rfl, fun _ => ⟨fun w hw => ?_, (reformChest_overMark y).trans hmark, fun hm => ?_, fun hm => ?_⟩,
        fun hle => absurd hlimit (not_lt.mpr hle), reformChest_ceiling hroley⟩
      · rw [reformChest_zones]
        exact getElem?_set_here hzy
      · rw [hlist, List.length_set, List.length_map]
      · rw [hlist] at hw
        rcases List.mem_or_eq_of_mem_set hw with hmem | rfl
        · obtain ⟨w', -, rfl⟩ := List.mem_map.mp hmem
          exact ⟨rfl, rfl⟩
        · exact ⟨rfl, rfl⟩
      · obtain ⟨hhalted, hentry, hrecords⟩ := hclear hm
        refine ⟨(reformChest_stn y).trans hhalted, ?_, by rw [reformChest_ctl]; exact hentry, fun hquiet hlen => ?_⟩
        · exact (ventFollows_reformChest (s := y) hvent).1 ((reformChest_stn y).trans hhalted)
        · obtain ⟨hfault, hqueued⟩ := hrecords ((haltsQuietly_congr (s := s) (s' := x) rfl rfl rfl).mpr hquiet) hlen
          exact ⟨(reformChest_fault y).trans hfault, mem_reformOwn (s := reformVent y) (by simp [Frame.kind]) hqueued⟩
      · obtain ⟨hstn, hfault, -⟩ := hmarked hm
        exact ⟨(reformChest_stn y).trans hstn, (reformChest_fault y).trans hfault⟩
    · rw [goodZone_below (by exact hlimit) hzx]
      set z' := z.follow (decide (x.stn = .halted)) x.conf v with hz'
      set y : State := { x with set.zones := x.set.zones.set i z' } with hy
      obtain ⟨hreading, hcond, hhold, hsetpoint, hrest, hcontrol⟩ := z.follow_rules (decide (x.stn = .halted)) x.conf v e he
      have hportr : (reformChest y).port = x.port := reformChest_port y
      refine ⟨_, z', rfl, by rw [hportr]; exact hreport, ventFollows_reformChest (.inr rfl), ?_, (staleTimer_congr hportr i).trans hstale, ?_,
        hreading, hcond, hhold, hsetpoint, fun h => absurd h hlimit, fun _ => ⟨reformChest_stn y, reformChest_fault y, reformChest_overMark y,
          fun k hk => ?_, fun h => hrest (h.imp_left decide_eq_true), fun hne => hcontrol (decide_eq_false hne)⟩,
        reformChest_ceiling (s := y) hsetter⟩
      · rw [reformChest_zones]
        exact getElem?_set_here hzx
      · rw [reformChest_zones]
        exact List.length_set
      · rw [reformChest_zones]
        exact getElem?_set_away hk
  · have hnot : ¬reportGood r = true := by
      rw [reportGood_iff]
      rintro ⟨h0, hlow, hhigh⟩
      rcases hbad with h | h | h
      · exact h h0
      · omega
      · omega
    rw [exec_zoneReport hrole hheard hchannel hz, if_neg hnot, onZone_eq (s := s.reported i burst) hz]
    exact ⟨_, rfl, ventFollows_reformChest (.inr rfl), reformChest_stn _, reformChest_fault _,
      (staleTimer_congr (reformChest_port _) i).trans (staleTimer_reported hi burst s), reformChest_zones _⟩
  · obtain ⟨hlive, hsetter⟩ := (isRole_iff s .setter).mp hrole
    set x : State := { s with set.zones := s.set.zones.set i z.lose } with hx
    have hzones : (reformChest (recordFault .sensorLost i x)).set.zones = s.set.zones.set i z.lose := by
      rw [reformChest_zones, recordFault_set]
    have hrolex : (recordFault .sensorLost i x).role = some .setter := (role_congr (recordFault_cfg _ _ x)).trans hsetter
    have hceiling := reformChest_ceiling hrolex
    refine ⟨_, exec_zoneHold hz hhold, ventFollows_reformChest (.inr (by rw [recordFault_set])), ?_, hzones, fun hroom => ?_, hceiling,
      fun hused => ?_⟩
    · rw [reformChest_stn, recordFault_stn]
    · rw [reformChest_fault, recordFault_room (s := x) hroom hlive]
    · have hmem : z.lose ∈ (reformChest (recordFault .sensorLost i x)).set.zones := by
        rw [hzones]
        exact List.mem_of_getElem? (getElem?_set_here hz)
      rw [chestCeiling_lost hmem hused rfl, Prod.mk.injEq] at hceiling
      exact hceiling

end

end Sys2Proof.Machine
end

section
/-! PROOFS. O57, stale sensor channels, dropped reports and the receiver of the sensor link (R130, R146, R169). -/

namespace Sys2Proof.Machine

section
variable {s t : State} {i : Nat} {z : Zone}

/-! ## A stale channel -/

/-- A channel's staleness timer stopped. -/
def State.staled (channel : Nat) (s : State) : State :=
  { s with port.staleness := s.port.staleness.setIfInBounds channel none }

theorem exec_stalenessTimer (h : (s.staleTimer i).isSome = true) :
    exec (.stalenessTimerExpiry i) s = .next (becomesStale i (s.staled i)) := by
  have harm : exec (.stalenessTimerExpiry i) s = execStalenessTimerExpiry i s := rfl
  rw [harm, execStalenessTimerExpiry, if_pos h]
  rfl

theorem staleTimer_staled (hi : i < 8) : (s.staled i).staleTimer i = none := by
  simp [State.staleTimer, State.staled, hi]

theorem staleTimer_staled_other {k : Nat} (h : k ≠ i) : (s.staled i).staleTimer k = s.staleTimer k := by
  simp [State.staleTimer, State.staled, Vector.getElem?_setIfInBounds_ne h.symm]

theorem not_isRole_of {r r' : Role} (h : s.isRole r = true) (hne : r ≠ r') : s.isRole r' = false := by
  obtain ⟨-, hrole⟩ := (isRole_iff s r).mp h
  rw [← Bool.not_eq_true, isRole_iff]
  rintro ⟨-, hrole'⟩
  exact hne (Option.some.inj (hrole.symm.trans hrole'))

theorem becomesStale_festoon (hrole : s.isRole .supply = true) : becomesStale 0 s = festoonDoubt s := if_pos ⟨hrole, rfl⟩

theorem becomesStale_zone (hrole : s.isRole .setter = true) (hz : s.set.zones[i]? = some z) :
    becomesStale i s = reformChest { s with set.zones := s.set.zones.set i z.doubt } := by
  have hsupply : s.isRole .supply = false := not_isRole_of hrole (by decide)
  have hzone : s.isZone i = true := by
    obtain ⟨hi, -⟩ := List.getElem?_eq_some_iff.mp hz
    simp [State.isZone, hrole, hi]
  rw [becomesStale, if_neg (by simp [hsupply]), if_pos hzone, onZone_eq hz]

theorem becomesStale_other (hfestoon : s.isRole .supply = false ∨ i ≠ 0) (hzone : s.isRole .setter = false ∨ s.set.zones[i]? = none) :
    becomesStale i s = s := by
  have hno : ¬s.isZone i = true := by
    rw [State.isZone, Bool.and_eq_true, decide_eq_true_eq]
    rintro ⟨hrole, hi⟩
    rcases hzone with h | h
    · rw [h] at hrole
      exact absurd hrole (by decide)
    · exact absurd (List.getElem?_eq_none_iff.mp h) (not_le.mpr hi)
  rw [becomesStale, if_neg, if_neg hno]
  rintro ⟨hrole, hi⟩
  rcases hfestoon with h | h
  · rw [h] at hrole
    exact absurd hrole (by decide)
  · exact h hi

/-- A stale channel is one of three things: the festoon's, a zone's, or nobody's. -/
theorem becomesStale_cases (i : Nat) (s : State) :
    (s.isRole .supply = true ∧ i = 0) ∨ (∃ z, s.isRole .setter = true ∧ s.set.zones[i]? = some z) ∨ becomesStale i s = s := by
  by_cases hfestoon : s.isRole .supply = true ∧ i = 0
  · exact .inl hfestoon
  · have hnot : s.isRole .supply = false ∨ i ≠ 0 := by
      cases h : s.isRole .supply with
      | false => exact .inl rfl
      | true => exact .inr fun hi => hfestoon ⟨h, hi⟩
    cases hz : s.set.zones[i]? with
    | none => exact .inr (.inr (becomesStale_other hnot (.inr hz)))
    | some z =>
      cases hrole : s.isRole .setter with
      | true => exact .inr (.inl ⟨z, rfl, rfl⟩)
      | false => exact .inr (.inr (becomesStale_other hnot (.inl hrole)))

theorem becomesStale_keeps (i : Nat) (s : State) : (becomesStale i s).port = s.port ∧ (becomesStale i s).stn = s.stn
    ∧ (becomesStale i s).fault = s.fault := by
  rcases becomesStale_cases i s with ⟨hrole, rfl⟩ | ⟨z, hrole, hz⟩ | hsame
  · rw [becomesStale_festoon hrole]
    obtain ⟨⟨hport, -⟩, hstn, -⟩ := festoonDoubt_keeps s
    refine ⟨hport, hstn, ?_⟩
    unfold festoonDoubt
    split
    · rw [setFestoon_eq]
    · rfl
  · rw [becomesStale_zone hrole hz]
    exact ⟨reformChest_port _, reformChest_stn _, reformChest_fault _⟩
  · rw [hsame]
    exact ⟨rfl, rfl, rfl⟩

theorem Zone.doubt_eq (z : Zone) : z.doubt = if z.cond = .good then { z with cond := .holding, hold := some 2000 } else z := rfl

/-! ## The receiver of the sensor link (R169) -/

section
variable {b : SensorBurst} {held : Option (List SensorChar)} {old : List SensorChar}

/-- What the receiver holds as characters arrive: 300 µs of idle line begin a report. -/
def reportBegun (b : SensorBurst) (held : Option (List SensorChar)) : Option (List SensorChar) :=
  if 300 ≤ b.idle then some [] else held

theorem takeReport_discards (h : reportBegun b held = none) : takeReport b held = (none, none) := by
  have hmatch : (if Config.reportGapUs ≤ b.idle then some [] else held) = none := h
  simp only [takeReport, hmatch]

theorem takeReport_takes (h : reportBegun b held = some old) : takeReport b held =
    if (old ++ b.chars).length < 4 then (some (old ++ b.chars), none) else (none, completeReport (old ++ b.chars)) := by
  have hmatch : (if Config.reportGapUs ≤ b.idle then some [] else held) = some old := h
  simp only [takeReport, hmatch, Config.reportChars]

theorem heardReport_live (hlive : s.live = true) (b : SensorBurst) : s.heardReport b = (takeReport b s.port.report).2 := if_pos hlive

theorem hearSensor_live (hlive : s.live = true) (b : SensorBurst) :
    (hearSensor b s).port.report = (takeReport b s.port.report).1 := if_pos hlive

end

/-- Settles O57: stale channels and dropped reports, then the receiver. -/
theorem staleChannelsAndDroppedReports : Obligations.StaleChannelsAndDroppedReports := by
  unfold Obligations.StaleChannelsAndDroppedReports
  refine ⟨fun s => ⟨fun c hc htimer => ?_, fun burst => rfl⟩, fun s idle cs => ⟨fun hlive => ⟨heardReport_idle hlive, hearSensor_idle hlive⟩,
    fun held hlive hheld => ⟨rfl, fun hnone => ?_, fun old hold => ⟨fun hfew => ?_, fun c lo hi st rest hchars => ?_⟩⟩⟩⟩
  · obtain ⟨hport, hstn, hfault⟩ := becomesStale_keeps c (s.staled c)
    refine ⟨_, exec_stalenessTimer htimer, (staleTimer_congr hport c).trans (staleTimer_staled hc),
      fun k hk => (staleTimer_congr hport k).trans (staleTimer_staled_other hk), hstn, hfault, fun hrole hc0 hgood => ?_,
      fun hrole hc0 hbad => ?_, fun hrole hc0 => ?_, fun z hrole hz => ?_, fun hrole => ?_⟩
    · subst hc0
      obtain ⟨-, -, -, -, hholding, -⟩ := festoonDoubt_keeps (s.staled 0)
      rw [becomesStale_festoon (s := s.staled 0) hrole]
      exact hholding hgood
    · subst hc0
      obtain ⟨-, -, -, -, -, hkept⟩ := festoonDoubt_keeps (s.staled 0)
      rw [becomesStale_festoon (s := s.staled 0) hrole]
      exact hkept hbad
    · rw [becomesStale_other (s := s.staled c) (.inr hc0) (.inl (not_isRole_of (s := s) hrole (by decide)))]
      rfl
    · rw [becomesStale_zone (s := s.staled c) hrole hz, reformChest_zones, Zone.doubt_eq]
      rfl
    · rw [becomesStale_other (s := s.staled c) (.inl (not_isRole_of (s := s) hrole (by decide))) (.inl (not_isRole_of (s := s) hrole (by decide)))]
      rfl
  · have hbegins : reportBegun ⟨idle, cs⟩ s.port.report = none := hheld.symm.trans hnone
    rw [heardReport_live hlive, hearSensor_live hlive, takeReport_discards hbegins]
    exact ⟨rfl, rfl⟩
  · have hbegins : reportBegun ⟨idle, cs⟩ s.port.report = some old := hheld.symm.trans hold
    rw [heardReport_live hlive, hearSensor_live hlive, takeReport_takes hbegins, if_pos hfew]
    exact ⟨rfl, rfl⟩
  · have hbegins : reportBegun ⟨idle, cs⟩ s.port.report = some old := hheld.symm.trans hold
    have hmany : ¬(old ++ cs).length < 4 := by
      rw [hchars]
      simp
    rw [heardReport_live hlive, hearSensor_live hlive, takeReport_takes hbegins, if_neg hmany]
    refine ⟨rfl, ?_⟩
    show completeReport (old ++ cs) = _
    rw [hchars]
    rfl

end

end Sys2Proof.Machine
end

section
/-! PROOFS. A watch set and fired at once (R62), and O58, the pass notices (R156, R157, R159). -/

namespace Sys2Proof.Machine

section
variable {s t : State} {w : Watch} {sp : Span} {i : Nat}

/-! ## A watch set on a settled state (R62) -/

theorem past_of_pos (h : t.pos = s.pos) (w : Watch) : w.past t = w.past s := by
  unfold Watch.past
  cases w.pos <;> simp only [State.posOf, State.mapPos, h]

theorem nextDue_setWatch_ahead (h : nextDue s = none) (hahead : w.past s < 0) : nextDue (setWatch w s) = none := by
  rw [nextDue_eq_none_iff] at h ⊢
  intro v hv
  rcases List.mem_append.mp hv with hold | hnew
  · exact h v hold
  · rw [List.mem_singleton.mp hnew]
    exact hahead

theorem nextDue_setWatch_due (h : nextDue s = none) (hdue : 0 ≤ w.past s) : nextDue (setWatch w s) = some w := by
  have hold : s.pos.watches.filter (fun v => decide (0 ≤ v.past (setWatch w s))) = [] :=
    List.filter_eq_nil_iff.mpr fun v hv hpast =>
      absurd (of_decide_eq_true hpast) (not_le.mpr (nextDue_eq_none_iff.mp h v hv))
  have hnew : [w].filter (fun v => decide (0 ≤ v.past (setWatch w s))) = [w] :=
    List.filter_cons_of_pos (decide_eq_true (show 0 ≤ w.past (setWatch w s) from hdue))
  have hfilter : (setWatch w s).pos.watches.filter (fun v => decide (0 ≤ v.past (setWatch w s))) = [w] := by
    rw [setWatch_watches, List.filter_append, hold, hnew]
    rfl
  unfold nextDue
  rw [hfilter]
  rfl

/-- A due watch, none other being due, leaves the watches as they were. -/
theorem dropWatch_setWatch (h : nextDue s = none) (hdue : 0 ≤ w.past s) : dropWatch w (setWatch w s) = s := by
  have hfresh : w ∉ s.pos.watches := fun hw => absurd (nextDue_eq_none_iff.mp h w hw) (not_lt.mpr hdue)
  have hwatches : (s.pos.watches ++ [w]).erase w = s.pos.watches := by
    rw [List.erase_append_right _ hfresh]
    simp
  show { s with pos.watches := (s.pos.watches ++ [w]).erase w } = s
  rw [hwatches]

theorem settle_setWatch_ahead (h : nextDue s = none) (hahead : w.past s < 0) : settle (setWatch w s) = setWatch w s :=
  settle_of_none (nextDue_setWatch_ahead h hahead)

theorem settle_setWatch_due (h : nextDue s = none) (hdue : 0 ≤ w.past s) (hafter : nextDue (deliver w s) = none) :
    settle (setWatch w s) = deliver w s := by
  refine settle_of_fires (k := 1) ⟨w, nextDue_setWatch_due h hdue, ?_⟩ (by omega)
  rw [dropWatch_setWatch h hdue]
  exact ⟨hafter, rfl⟩

/-! ## A span that enters the chest (R160) -/

/-- A span as it enters the chest. -/
def State.enters (s : State) (sp : Span) : Span := { sp with
  phase := .inChest s.pos.measured (coldest s) 0
  own := if s.stn = .halted then { sp.own with halt := true } else sp.own }

/-- The map with a span in the chest and its leaving point watched, no notice handed. -/
def State.entered (i : Nat) (sp : Span) (s : State) : State :=
  setWatch ⟨.map, leavingPoint s sp.start sp.length, .spanLeave sp.start⟩ { s with map.spans := s.map.spans.set i (s.enters sp) }

section
variable (hfind : s.map.spans.findIdx? (fun x => x.start == sp.start && decide (x.phase = .approaching)) = some i)
  (hi : s.map.spans[i]? = some sp)
include hfind hi

theorem spanEntry_found : spanEntry sp.start s = (spanStart (s.enters sp)).elim (s.entered i sp) fun f =>
    if s.conf.lineEnd then s.entered i sp else postLasting f (s.entered i sp) := by
  unfold spanEntry
  simp only [hfind, hi]
  split
  · next f h =>
    have hstart : spanStart (s.enters sp) = some f := h
    rw [hstart]
    rfl
  · next h =>
    have hstart : spanStart (s.enters sp) = none := h
    rw [hstart]
    rfl

theorem spanEntry_silent (h : s.conf.lineEnd = true ∨ spanStart (s.enters sp) = none) : spanEntry sp.start s = s.entered i sp := by
  rw [spanEntry_found hfind hi]
  cases hstart : spanStart (s.enters sp) with
  | none => rfl
  | some f => exact if_pos (h.resolve_right (by rw [hstart]; exact fun h => nomatch h))

theorem spanEntry_announced {f : Frame} (hend : s.conf.lineEnd = false) (hstart : spanStart (s.enters sp) = some f) :
    spanEntry sp.start s = postLasting f (s.entered i sp) := by
  rw [spanEntry_found hfind hi, hstart]
  exact if_neg (by rw [hend]; decide)

/-- Whether it is announced or not, a span enters as it does. -/
theorem spanEntry_enters : (spanEntry sp.start s).map = (s.entered i sp).map ∧ (spanEntry sp.start s).pos = (s.entered i sp).pos := by
  cases hend : s.conf.lineEnd with
  | true =>
    rw [spanEntry_silent hfind hi (.inl hend)]
    exact ⟨rfl, rfl⟩
  | false =>
    cases hstart : spanStart (s.enters sp) with
    | none =>
      rw [spanEntry_silent hfind hi (.inr hstart)]
      exact ⟨rfl, rfl⟩
    | some f =>
      rw [spanEntry_announced hfind hi hend hstart]
      exact ⟨postLasting_map _ _, postLasting_pos _ _⟩

end

theorem spanEntry_none {a : Word} (h : s.map.spans.findIdx? (fun x => x.start == a && decide (x.phase = .approaching)) = none) :
    spanEntry a s = s := by
  unfold spanEntry
  simp only [h]

/-- An entry whose leaving point lies ahead leaves no watch due. -/
theorem nextDue_spanEntry {a : Word} (h : nextDue s = none)
    (hleaves : ∀ x ∈ s.map.spans, x.start = a → ahead (leavingPoint s x.start x.length) s.mapPos = true) :
    nextDue (spanEntry a s) = none := by
  cases hfind : s.map.spans.findIdx? (fun x => x.start == a && decide (x.phase = .approaching)) with
  | none => rwa [spanEntry_none hfind]
  | some i =>
    obtain ⟨hlt, hhit, -⟩ := List.findIdx?_eq_some_iff_getElem.mp hfind
    have hi : s.map.spans[i]? = some s.map.spans[i] := List.getElem?_eq_getElem hlt
    have hstart : s.map.spans[i].start = a := by
      rw [Bool.and_eq_true, beq_iff_eq] at hhit
      exact hhit.1
    rw [← hstart] at hfind ⊢
    rw [nextDue_of_pos (spanEntry_enters hfind hi).2]
    exact nextDue_setWatch_ahead (s := { s with map.spans := s.map.spans.set i (s.enters s.map.spans[i]) }) h
      (sdiff_neg_of_ahead (hleaves _ (List.getElem_mem hlt) hstart))

/-! ## A span mapped (R156 to R158) -/

/-- The map with a span put in, its watch not yet set. -/
def State.withSpan (sp : Span) (s : State) : State := { s with map.spans := insertSpan sp s.map.spans }

theorem mapSpan_eq (sp : Span) (s : State) : mapSpan sp s = setWatch ⟨.map, sp.start, .spanEntry sp.start⟩ (s.withSpan sp) := rfl

theorem insertSpan_place (sp : Span) (l : List Span) : ∃ l1 l2, l = l1 ++ l2 ∧ insertSpan sp l = l1 ++ sp :: l2
    ∧ (∀ x ∈ l1, ahead x.start sp.start = false) ∧ ∀ x l3, l2 = x :: l3 → ahead x.start sp.start = true := by
  obtain ⟨l1, l2, hsplit, hinsert, hbefore, hafter⟩ := insertSpan_split sp l
  exact ⟨l1, l2, hsplit, hinsert, hbefore, fun x l3 h => hafter x (by rw [h]; rfl)⟩

/-- A span mapped at a start that no other has: it waits for the map position, or enters at once (R62, R63, R157). -/
theorem settle_mapSpan (h : nextDue s = none) (hgone : notGone s sp.start sp.length = true) (hstart : ∀ x ∈ s.map.spans, x.start ≠ sp.start) :
    (sdiff s.mapPos sp.start < 0 → settle (mapSpan sp s) = mapSpan sp s)
      ∧ (0 ≤ sdiff s.mapPos sp.start →
          settle (mapSpan sp s) = deliver ⟨.map, sp.start, .spanEntry sp.start⟩ (s.withSpan sp)) := by
  have hdue : nextDue (s.withSpan sp) = none := h
  rw [mapSpan_eq]
  refine ⟨fun hahead => settle_setWatch_ahead hdue hahead, fun hreached => settle_setWatch_due hdue hreached ?_⟩
  refine nextDue_spanEntry hdue fun x hx hxs => ?_
  rcases List.mem_cons.mp ((insertSpan_perm sp s.map.spans).mem_iff.mp hx) with rfl | hold
  · exact hgone
  · exact absurd hxs (hstart x hold)

/-! ## PANEL PASS START (R157) -/

/-- The four tests of R157 that drop a notice without a fault. -/
theorem notGone_iff {a b : Word} : notGone s a b = true ↔ ahead (a + b + word32 s.conf.chestLength) s.mapPos = true := Iff.rfl

theorem inWindow_iff {a : Word} : inWindow s a = true ↔ s.conf.windowAhead = 0 ∨ sdiff a s.mapPos ≤ s.conf.windowAhead := by
  simp [inWindow]

theorem startTaken_iff {a : Word} : startTaken s a = true ↔ ∃ x ∈ s.map.spans, x.start = a := by
  simp [startTaken]

theorem spanKind_cases {m : PassStartIn} {k : SpanKind} (h : m.spanKind = some k) :
    (m.kind = 0 ∧ k = .panel m.id m.slot m.grade) ∨ (m.kind = 1 ∧ k = .gap m.flags.emergency m.flags.used) := by
  unfold PassStartIn.spanKind at h
  split at h
  · next hkind => exact .inl ⟨BitVec.eq_of_toNat_eq hkind, (Option.some.inj h).symm⟩
  · next hkind => exact .inr ⟨BitVec.eq_of_toNat_eq hkind, (Option.some.inj h).symm⟩
  · exact nomatch h

theorem duplicates_iff {m : PassStartIn} {k : SpanKind} (h : m.spanKind = some k) :
    duplicates s k = true ↔ m.kind = 0 ∧ ∃ x ∈ s.map.spans, x.isPanel m.id = true := by
  rcases spanKind_cases h with ⟨hkind, rfl⟩ | ⟨hkind, rfl⟩
  · simp [duplicates, hkind]
  · simp [duplicates, hkind]

theorem exec_passStart {p : List Byte} {l : Latch} {m : PassStartIn} (hhears : s.hears 2 s.neighbour p l)
    (hparse : parsePassStart p = some m) : exec (.panelPassStart s.neighbour p) s = .next (takePassStart m (dropLatch s)) := by
  have harm : exec (.panelPassStart s.neighbour p) s = execPanelPassStart s.neighbour p s := rfl
  rw [harm, execPanelPassStart, receive_of_hears hhears]
  simp only [hparse]

section
variable {m : PassStartIn} {k : SpanKind} (hk : m.spanKind = some k)
include hk

/-- A notice that fails one of the first four tests is dropped. -/
theorem takePassStart_drops (h : notGone s m.start m.length = false ∨ inWindow s m.start = false ∨ duplicates s k = true
    ∨ startTaken s m.start = true) : takePassStart m s = s := by
  unfold takePassStart
  simp only [hk]
  refine if_pos ?_
  rcases h with h | h | h | h <;> simp [h]

theorem takePassStart_passes (hgone : notGone s m.start m.length = true) (hwindow : inWindow s m.start = true)
    (hdup : duplicates s k = false) (htaken : startTaken s m.start = false) : takePassStart m s =
      if mapRoom s then settle (mapSpan (newSpan s m k) s) else recordFault .mapOverflow k.panelId s := by
  unfold takePassStart
  simp only [hk]
  exact if_neg (by simp [hgone, hwindow, hdup, htaken])

/-- The span a notice becomes, a SEAM span over it or not (R157). -/
theorem newSpan_fields (s : State) : (newSpan s m k).start = m.start ∧ (newSpan s m k).length = m.length
    ∧ (newSpan s m k).phase = .approaching ∧ (newSpan s m k).endSeen = false ∧ (newSpan s m k).received = m.flags.ofPanel
    ∧ (m.kind = 0 → (newSpan s m k).kind = .panel m.id m.slot m.grade ∧ (newSpan s m k).own = { PanelFlags.none with
        seam := s.map.spans.any fun x => x.isSeam && rangesOverlap x.start x.coverStop m.start (m.start + m.length) })
    ∧ (m.kind = 1 → (newSpan s m k).own = PanelFlags.none ∧ (newSpan s m k).kind = .gap m.flags.emergency (m.flags.used
        || s.map.spans.any fun x => x.isSeam && rangesOverlap x.start x.coverStop m.start (m.start + m.length))) := by
  rcases spanKind_cases hk with ⟨hkind, rfl⟩ | ⟨hkind, rfl⟩
  · have hne : m.kind ≠ 1 := by rw [hkind]; decide
    cases hover : (s.map.spans.any fun x => x.isSeam && rangesOverlap x.start x.coverStop m.start (m.start + m.length)) with
    | true =>
      have hnew : newSpan s m (.panel m.id m.slot m.grade) = ⟨.panel m.id m.slot m.grade, m.start, m.length, m.flags.ofPanel,
          { PanelFlags.none with seam := true }, false, .approaching⟩ := if_pos hover
      rw [hnew]
      exact ⟨rfl, rfl, rfl, rfl, rfl, fun _ => ⟨rfl, rfl⟩, fun h => absurd h hne⟩
    | false =>
      have hnew : newSpan s m (.panel m.id m.slot m.grade) = ⟨.panel m.id m.slot m.grade, m.start, m.length, m.flags.ofPanel,
          PanelFlags.none, false, .approaching⟩ := if_neg (by rw [Bool.not_eq_true]; exact hover)
      rw [hnew]
      exact ⟨rfl, rfl, rfl, rfl, rfl, fun _ => ⟨rfl, rfl⟩, fun h => absurd h hne⟩
  · have hne : m.kind ≠ 0 := by rw [hkind]; decide
    cases hover : (s.map.spans.any fun x => x.isSeam && rangesOverlap x.start x.coverStop m.start (m.start + m.length)) with
    | true =>
      have hnew : newSpan s m (.gap m.flags.emergency m.flags.used) = ⟨.gap m.flags.emergency true, m.start, m.length,
          m.flags.ofPanel, PanelFlags.none, false, .approaching⟩ := if_pos hover
      rw [hnew]
      exact ⟨rfl, rfl, rfl, rfl, rfl, fun h => absurd h hne, fun _ => ⟨rfl, by rw [Bool.or_true]⟩⟩
    | false =>
      have hnew : newSpan s m (.gap m.flags.emergency m.flags.used) = ⟨.gap m.flags.emergency m.flags.used, m.start, m.length,
          m.flags.ofPanel, PanelFlags.none, false, .approaching⟩ := if_neg (by rw [Bool.not_eq_true]; exact hover)
      rw [hnew]
      exact ⟨rfl, rfl, rfl, rfl, rfl, fun h => absurd h hne, fun _ => ⟨rfl, by rw [Bool.or_false]⟩⟩

theorem panelId_of : k.panelId = if m.kind = 0 then m.id.toNat else 0 := by
  rcases spanKind_cases hk with ⟨hkind, rfl⟩ | ⟨hkind, rfl⟩
  · rw [hkind]
    rfl
  · rw [hkind]
    rfl

end

/-! ## PANEL PASS END (R159) -/

theorem exec_passEnd {p : List Byte} {l : Latch} {m : PassEndIn} (hhears : s.hears 2 s.neighbour p l)
    (hparse : parsePassEnd p = some m) : exec (.panelPassEnd s.neighbour p) s = .next (takePassEnd m (dropLatch s)) := by
  have harm : exec (.panelPassEnd s.neighbour p) s = execPanelPassEnd s.neighbour p s := rfl
  rw [harm, execPanelPassEnd, receive_of_hears hhears]
  simp only [hparse]

theorem endSpan_eq {m : PassEndIn} {hit : Span → Bool} (hkind : m.kind = 0 ∨ m.kind = 1)
    (hhit : ∀ x, hit x = if m.kind = 0 then x.isPanel m.id else x.isGap && !x.endSeen) : endSpan s m = s.map.spans.findIdx? hit := by
  rcases hkind with h | h
  · have hsame : hit = fun x => x.isPanel m.id := funext fun x => by rw [hhit, if_pos h]
    rw [hsame, endSpan, h]
    rfl
  · have hsame : hit = fun x => x.isGap && !x.endSeen := funext fun x => by rw [hhit, if_neg (by rw [h]; decide)]
    rw [hsame, endSpan, h]
    rfl

theorem takePassEnd_some {m : PassEndIn} {x : Span} (h : endSpan s m = some i) (hx : s.map.spans[i]? = some x) :
    takePassEnd m s = { s with map.spans := s.map.spans.set i (x.merge m.flags) } := by
  unfold takePassEnd
  simp only [h]
  rw [modifyAt_eq_set hx]

theorem takePassEnd_none {m : PassEndIn} (h : endSpan s m = none) : takePassEnd m s = s := by
  unfold takePassEnd
  simp only [h]

/-- The kind a merged span has: a GAP takes the used flag. -/
theorem merge_kind (f : PanelFlags) (x : Span) : x.merge f = { x with
      received := x.received.or f.ofPanel, endSeen := true, kind := (x.merge f).kind }
    ∧ (x.isGap = false → (x.merge f).kind = x.kind) ∧ (∀ e u, x.kind = .gap e u → (x.merge f).kind = .gap e (u || f.used)) := by
  refine ⟨rfl, fun hgap => ?_, fun e u h => ?_⟩
  · unfold Span.merge
    cases h : x.kind with
    | gap e u => simp [Span.isGap, h] at hgap
    | panel id slot grade => rfl
    | seam e => rfl
  · simp only [Span.merge, h]

/-- Settles O58: a PASS START dropped, mapped or without room, then a PASS END. -/
theorem passNoticesAreMapped : Obligations.PassNoticesAreMapped := by
  unfold Obligations.PassNoticesAreMapped
  refine ⟨fun s p l m k hhears hparse hk => ⟨fun hdrop => ?_, fun hahead hnear hnew hstart => ?_⟩,
    fun s p l m hit hhears hparse hkind hhit => ⟨fun hnone => ?_, fun i x hfind hx => ?_⟩⟩
  · rw [exec_passStart hhears hparse]
    refine congrArg Host.Outcome.next (takePassStart_drops hk ?_)
    rcases hdrop with hgone | ⟨hne, hfar⟩ | hdup | htaken
    · exact .inl hgone
    · refine .inr (.inl ?_)
      rw [← Bool.not_eq_true, inWindow_iff]
      rintro (h0 | hin)
      · exact hne h0
      · exact absurd hfar (not_lt.mpr hin)
    · exact .inr (.inr (.inl ((duplicates_iff hk).mpr hdup)))
    · exact .inr (.inr (.inr (startTaken_iff.mpr htaken)))
  · have hdup : duplicates (dropLatch s) k = false := by
      rw [← Bool.not_eq_true, duplicates_iff hk]
      rintro ⟨h0, x, hx, hid⟩
      rw [hnew h0 x hx] at hid
      exact absurd hid (by decide)
    have htaken : startTaken (dropLatch s) m.start = false := by
      rw [← Bool.not_eq_true, startTaken_iff]
      rintro ⟨x, hx, hxs⟩
      exact hstart x hx hxs
    have htake := takePassStart_passes (s := dropLatch s) hk hahead (inWindow_iff.mpr hnear) hdup htaken
    refine ⟨fun hroom hdue => ?_, fun hfull => ?_⟩
    · rw [if_pos (show mapRoom (dropLatch s) = true from decide_eq_true hroom)] at htake
      set sp := newSpan (dropLatch s) m k with hsp
      obtain ⟨hs, hl, hphase, hseen, hreceived, hpanel, hgap⟩ := newSpan_fields hk (dropLatch s)
      obtain ⟨hwaits, henters⟩ := settle_mapSpan (s := dropLatch s) (sp := sp) hdue (by rw [hsp, hs, hl]; exact hahead)
        (by rw [hsp, hs]; exact hstart)
      rw [← hsp] at hs hl hphase hseen hreceived hpanel hgap
      rw [hs] at hwaits henters
      refine ⟨_, sp, mapSpan sp (dropLatch s), rfl, (exec_passStart hhears hparse).trans (congrArg Host.Outcome.next htake), hwaits, henters,
        insertSpan_place sp s.map.spans, ?_, insertSpan_perm sp s.map.spans, hs, hl, hphase, hseen, hreceived, hpanel, hgap⟩
      rw [← hs]
      rfl
    · rw [if_neg (show ¬mapRoom (dropLatch s) = true from fun h => absurd (of_decide_eq_true h) (not_lt.mpr hfull))] at htake
      refine ⟨_, (exec_passStart hhears hparse).trans (congrArg Host.Outcome.next htake), by rw [recordFault_map]; rfl,
        by rw [recordFault_pos]; rfl, by rw [recordFault_stn]; rfl, fun hlive hfree => ?_⟩
      rw [recordFault_room (s := dropLatch s) hfree hlive, panelId_of hk]
      rfl
  · rw [exec_passEnd hhears hparse, takePassEnd_none]
    · rfl
    · rw [endSpan_eq hkind hhit, List.findIdx?_eq_none_iff]
      exact fun x hx => Bool.not_eq_true _ ▸ List.any_eq_false.mp hnone x hx
  · obtain ⟨hmerge, hkept, hused⟩ := merge_kind m.flags x
    refine ⟨(x.merge m.flags).kind, ?_, fun h0 => hkept ?_, hused⟩
    · rw [exec_passEnd hhears hparse, takePassEnd_some (s := dropLatch s) ((endSpan_eq hkind hhit).trans hfind) hx]
      rfl
    · obtain ⟨hlt, hmatches, -⟩ := List.findIdx?_eq_some_iff_getElem.mp hfind
      obtain ⟨_, hxi⟩ := List.getElem?_eq_some_iff.mp hx
      rw [hxi, hhit, if_pos h0] at hmatches
      cases hxk : x.kind with
      | gap e u => simp [Span.isPanel, hxk] at hmatches
      | panel id slot grade => simp [Span.isGap, hxk]
      | seam e => simp [Span.isGap, hxk]

end

end Sys2Proof.Machine
end

section
/-! PROOFS. O59, a SEAM at a SETTER (R158). -/

namespace Sys2Proof.Machine

section
variable {s t : State} {m : SeamMsg}

theorem exec_seamAtSetter {p : List Byte} {l : Latch} (hrole : s.isRole .setter = true) (hhears : s.hears 3 s.neighbour p l)
    (hparse : parseSeam p = some m) : exec (.seamAtSetter s.neighbour p) s = .next (takeSeamAtSetter m (dropLatch s)) := by
  have harm : exec (.seamAtSetter s.neighbour p) s = execSeamAtSetter s.neighbour p s := rfl
  have hsetter : (dropLatch s).isRole .setter = true := hrole
  rw [harm, execSeamAtSetter, receive_of_hears hhears]
  simp only [hparse, hsetter]

/-! ## A seam forwarded -/

/-- The SEAM a SETTER sends on. -/
def forwarded (m : SeamMsg) (unplaced : Bool) : Frame := .seam ⟨m.pos, m.length, m.emergency, unplaced, 0⟩

theorem forwardSeam_of_room (h : s.msg.room = true) (unplaced : Bool) :
    forwardSeam m unplaced s = { s with msg := s.msg.place (forwarded m unplaced) } := postLasting_room h

theorem takeSeam_unplaced (h : m.unplaced = true) : takeSeamAtSetter m s = forwardSeam m true s := if_pos h

theorem takeSeam_outside (hplaced : m.unplaced = false) (h : notGone s m.pos m.length = false ∨ inWindow s m.pos = false) :
    takeSeamAtSetter m s = forwardSeam m false s := by
  rw [takeSeamAtSetter, if_neg (by rw [hplaced]; decide)]
  refine if_pos ?_
  rcases h with h | h <;> simp [h]

section
variable (hplaced : m.unplaced = false) (hgone : notGone s m.pos m.length = true) (hwindow : inWindow s m.pos = true)
include hplaced hgone hwindow

theorem takeSeam_inside : takeSeamAtSetter m s = if startTaken s m.pos then forwardSeam m true s
    else if mapRoom s then placeSeam m s else recordFault .mapOverflow 0 (forwardSeam m true s) := by
  rw [takeSeamAtSetter, if_neg (by rw [hplaced]; decide)]
  exact if_neg (by simp [hgone, hwindow])

end

/-! ## A seam mapped -/

/-- The span of a mapped seam. -/
def seamSpan (m : SeamMsg) : Span := ⟨.seam m.emergency, m.pos, m.length, PanelFlags.none, PanelFlags.none, false, .approaching⟩

/-- The spans with a seam put over them. -/
def seamed (m : SeamMsg) (spans : List Span) : List Span := spans.map fun x => if x.overlaps (seamSpan m) then x.takeSeam else x

theorem takeSeam_start (x : Span) : x.takeSeam.start = x.start := by
  unfold Span.takeSeam
  split <;> rfl

theorem seamed_start (h : ∀ x ∈ s.map.spans, x.start ≠ m.pos) : ∀ x ∈ seamed m s.map.spans, x.start ≠ m.pos := by
  intro x hx
  obtain ⟨y, hy, rfl⟩ := List.mem_map.mp hx
  split
  · rw [takeSeam_start]
    exact h y hy
  · exact h y hy

theorem placeSeam_eq (m : SeamMsg) (s : State) :
    placeSeam m s = settle (mapSpan (seamSpan m) { s with map.spans := seamed m s.map.spans }) := rfl

/-- Settles O59: a seam sent on for each of the rule's reasons, then one mapped. -/
theorem seamsAreMappedOrForwarded : Obligations.SeamsAreMappedOrForwarded := by
  unfold Obligations.SeamsAreMappedOrForwarded
  intro s p l m gone window hrole hhears hparse hlen hdue hgone hwindow
  have hroom : (dropLatch s).msg.room = true := room_of_lt (by show s.msg.queue.length < 12; omega)
  have hgone' : notGone (dropLatch s) m.pos m.length = !gone := by
    rw [hgone, Bool.not_not]
    rfl
  have hwindow' : inWindow (dropLatch s) m.pos = window := hwindow.symm
  have hforward : ∀ unplaced : Bool, forwardSeam m unplaced (dropLatch s) = { s with
      link.latch := none, msg.queue := s.msg.queue ++ [⟨forwarded m unplaced, 0, .waiting⟩] } := fun unplaced => by
    rw [forwardSeam_of_room hroom]
    rfl
  have hinside : m.unplaced = false → gone = false → window = true → takeSeamAtSetter m (dropLatch s) =
      if startTaken (dropLatch s) m.pos then forwardSeam m true (dropLatch s)
      else if mapRoom (dropLatch s) then placeSeam m (dropLatch s)
      else recordFault .mapOverflow 0 (forwardSeam m true (dropLatch s)) :=
    fun hplaced hg hw => takeSeam_inside hplaced (by rw [hgone', hg]; rfl) (hwindow'.trans hw)
  have htaken_iff : startTaken (dropLatch s) m.pos = true ↔ ∃ x ∈ s.map.spans, x.start = m.pos := startTaken_iff
  have hroom_iff : mapRoom (dropLatch s) = true ↔ s.map.spans.length < 24 := decide_eq_true_iff
  have hno : (∀ x ∈ s.map.spans, x.start ≠ m.pos) → ¬startTaken (dropLatch s) m.pos = true := fun hfree h => by
    obtain ⟨x, hx, hxs⟩ := htaken_iff.mp h
    exact hfree x hx hxs
  rw [exec_seamAtSetter hrole hhears hparse]
  refine ⟨fun hwhy => ?_, fun hplaced hg hw htaken => ?_, fun hplaced hg hw hfree hfull => ?_, fun hplaced hg hw hfree hfew => ?_⟩
  · cases hunplaced : m.unplaced with
    | true => rw [takeSeam_unplaced hunplaced, hforward]; rfl
    | false =>
      have hout : notGone (dropLatch s) m.pos m.length = false ∨ inWindow (dropLatch s) m.pos = false := by
        rcases hwhy with h | h | h
        · rw [hunplaced] at h
          exact absurd h (by decide)
        · exact .inl (by rw [hgone', h]; rfl)
        · exact .inr (hwindow'.trans h)
      rw [takeSeam_outside hunplaced hout, hforward]
      rfl
  · rw [hinside hplaced hg hw, if_pos (htaken_iff.mpr htaken), hforward]
    rfl
  · have hlive : s.live = true := ((isRole_iff s .setter).mp hrole).1
    set x : State := forwardSeam m true (dropLatch s) with hx
    have hroomx : x.msg.room = true := by
      rw [hx, hforward]
      exact room_of_lt (by simp; omega)
    have hrecord : recordFault .mapOverflow 0 x = { x with
        fault := some ⟨.mapOverflow, 0, s.stn⟩, msg := x.msg.place (.fault ⟨.mapOverflow, 0, s.stn⟩) } := by
      have hlivex : x.live = true := by rw [hx, hforward]; exact hlive
      have hstnx : x.stn = s.stn := by rw [hx, hforward]
      rw [recordFault_room hroomx hlivex, hstnx]
      rfl
    rw [hinside hplaced hg hw, if_neg (hno hfree), if_neg (fun h => absurd (hroom_iff.mp h) (not_lt.mpr hfull)), hrecord]
    refine ⟨_, rfl, by rw [hx, hforward], rfl, List.mem_append_left _ ?_⟩
    rw [hx, hforward]
    exact List.mem_append_right _ (List.mem_singleton.mpr rfl)
  · set v : State := { dropLatch s with map.spans := seamed m s.map.spans } with hv
    obtain ⟨hwaits, henters⟩ := settle_mapSpan (s := v) (sp := seamSpan m) hdue (by rw [← Bool.not_not gone, hg] at hgone'; exact hgone')
      (seamed_start hfree)
    obtain ⟨l1, l2, -, hinsert, hbefore, hafter⟩ := insertSpan_place (seamSpan m) (seamed m s.map.spans)
    rw [hinside hplaced hg hw, if_neg (hno hfree), if_pos (hroom_iff.mpr hfew), placeSeam_eq]
    exact ⟨_, seamSpan m, mapSpan (seamSpan m) v, rfl, rfl, hwaits, henters, rfl, rfl, insertSpan_perm _ _, l1, l2, hinsert, hbefore, hafter⟩

end

end Sys2Proof.Machine
end

section
/-! PROOFS. O60, spans in the chest: samples, entry, leaving, verdicts (R160 to R163). -/

namespace Sys2Proof.Machine

section
variable {s t : State} {sp : Span} {i : Nat}

/-! ## The sample timer (R161) -/

theorem exec_sampleTimer (h : s.map.sampleTimer.isSome = true) : exec .sampleTimerExpiry s = .next
    { s with map.sampleTimer := some 100, map.spans := s.map.spans.map (Span.sampleTick (coldest s)) } := by
  have harm : exec .sampleTimerExpiry s = execSampleTimerExpiry s := rfl
  rw [harm, execSampleTimerExpiry, if_pos h]

theorem sampleTick_approaching {cold : Option Int} (h : sp.phase = .approaching) : sp.sampleTick cold = sp := by
  simp only [Span.sampleTick, h]

/-- A sample takes the lesser temperature, COLD where either has no value. -/
theorem sampleTick_inChest {cold : Option Int} {v st : Nat} {tl : Option Int} (h : sp.phase = .inChest v tl st) :
    ∃ tl', sp.sampleTick cold = { sp with phase := .inChest v tl' st }
      ∧ (∀ a b, tl = some a → cold = some b → tl' = some (min a b)) ∧ (tl = none ∨ cold = none → tl' = none) := by
  simp only [Span.sampleTick, h]
  refine ⟨_, rfl, ?_, ?_⟩
  · rintro a b rfl rfl
    rfl
  · rintro (rfl | rfl)
    · rfl
    · cases tl <;> rfl

/-! ## The flags of a notice -/

theorem flagsNow_panel {id : Half} {slot grade : Byte} (h : sp.kind = .panel id slot grade) : sp.flagsNow = sp.received.or sp.own := by
  simp only [Span.flagsNow, h]

theorem flagsNow_gap {e u : Bool} (h : sp.kind = .gap e u) :
    sp.flagsNow = { sp.received.or sp.own with used := u, emergency := e } := by
  simp only [Span.flagsNow, h, PanelFlags.withGap]

/-! ## The entry (R160) -/

/-- HALT is ORed into the own flags of a span that enters while HALTED. -/
theorem enters_eq (s : State) (sp : Span) : s.enters sp = { sp with
    phase := .inChest s.pos.measured (coldest s) 0, own := { sp.own with halt := sp.own.halt || decide (s.stn = .halted) } } := by
  unfold State.enters
  by_cases h : s.stn = .halted
  · rw [if_pos h, decide_eq_true h, Bool.or_true]
  · rw [if_neg h, decide_eq_false h, Bool.or_false]

theorem spanStart_seam (h : sp.isSeam = true) : spanStart sp = none := by
  unfold spanStart
  cases hk : sp.kind with
  | seam e => rfl
  | panel id slot grade => simp [Span.isSeam, hk] at h
  | gap e u => simp [Span.isSeam, hk] at h

theorem spanStart_panel {id : Half} {slot grade : Byte} (h : sp.kind = .panel id slot grade) :
    spanStart sp = some (.passStart ⟨false, id, slot, grade, sp.start, sp.length, sp.received.or sp.own⟩) := by
  rw [← flagsNow_panel h]
  simp only [spanStart, h]

theorem spanStart_gap {e u : Bool} (h : sp.kind = .gap e u) : spanStart sp =
    some (.passStart ⟨true, 0, 0, 0, sp.start, sp.length, { sp.received.or sp.own with used := u, emergency := e }⟩) := by
  rw [← flagsNow_gap h]
  simp only [spanStart, h]

/-- A span that is announced, its PASS START placed in a free entry. -/
theorem spanEntry_places {f : Frame} (hfind : s.map.spans.findIdx? (fun x => x.start == sp.start && decide (x.phase = .approaching)) = some i)
    (hi : s.map.spans[i]? = some sp) (hend : s.conf.lineEnd = false) (hroom : s.msg.room = true)
    (hstart : spanStart (s.enters sp) = some f) : (spanEntry sp.start s).msg = s.msg.place f := by
  rw [spanEntry_announced hfind hi hend hstart, postLasting_room (by exact hroom)]
  rfl

/-! ## The leaving (R162) -/

/-- A span as it leaves the chest. -/
def Span.leaves (sp : Span) : Span := if sp.endSeen then sp else { sp with own := { sp.own with noEnd := true } }

theorem leaves_eq (sp : Span) : sp.leaves = { sp with own := { sp.own with noEnd := sp.own.noEnd || !sp.endSeen } } := by
  unfold Span.leaves
  cases h : sp.endSeen with
  | true => rw [if_pos rfl, Bool.not_true, Bool.or_false, ← h]
  | false => rw [if_neg (by decide), Bool.not_false, Bool.or_true, ← h]

theorem spanLeave_found (hfind : s.map.spans.findIdx? (fun x => x.start == sp.start && decide (x.phase ≠ .approaching)) = some i)
    (hi : s.map.spans[i]? = some sp) :
    spanLeave sp.start s = { postLasting (spanEnd s sp.leaves) s with map.spans := s.map.spans.eraseIdx i } := by
  unfold spanLeave
  simp only [hfind, hi]
  rfl

theorem spanEnd_panel {id : Half} {slot grade : Byte} {v st : Nat} {tl : Option Int} (h : sp.kind = .panel id slot grade)
    (hphase : sp.phase = .inChest v tl st) : spanEnd s sp = .passEnd ⟨false, id, sp.received.or sp.own, verdictOf s v tl st,
      reportedOf (sp.received.or sp.own) (verdictOf s v tl st)⟩ := by
  simp only [spanEnd, h, hphase, flagsNow_panel h]

theorem spanEnd_gap {e u : Bool} (h : sp.kind = .gap e u) :
    spanEnd s sp = .passEnd ⟨true, 0, { sp.received.or sp.own with used := u, emergency := e }, .none, .none⟩ := by
  simp only [spanEnd, h, flagsNow_gap h]

theorem spanEnd_seam {e : Bool} (h : sp.kind = .seam e) : spanEnd s sp = .seam ⟨sp.start, sp.length, e, false, 0⟩ := by
  simp only [spanEnd, h]

/-! ## The verdict (R163) -/

section
variable {v st : Nat} {tl : Option Int}

theorem verdictOf_overset (h : s.conf.standstillLimit < st) : verdictOf s v tl st = .overset := if_pos h

theorem verdictOf_cold (h : ¬s.conf.standstillLimit < st) : verdictOf s v none st = .underset := if_neg h

theorem verdictOf_tooCold {T : Int} (h : ¬s.conf.standstillLimit < st) (hd : dwellRequirement s T = none) :
    verdictOf s v (some T) st = .underset := by
  rw [verdictOf, if_neg h]
  simp only [hd]

theorem verdictOf_dwell {T : Int} {d : Nat} (h : ¬s.conf.standstillLimit < st) (hd : dwellRequirement s T = some d) :
    verdictOf s v (some T) st = if v ≠ 0 ∧ s.conf.chestLength / v < d then .underset else .set := by
  rw [verdictOf, if_neg h]
  simp only [hd]

end

/-! ## The reported verdict (R163) -/

section
variable {f : PanelFlags} (o : Verdict)

theorem reportedOf_halt (h : f.halt = true) : reportedOf f o = .halt := if_pos h

theorem reportedOf_seam (hhalt : f.halt = false) (h : f.seam = true) : reportedOf f o = .seam := by
  simp [reportedOf, hhalt, h]

theorem reportedOf_pleat (hhalt : f.halt = false) (hseam : f.seam = false) (h : f.pleat = true) : reportedOf f o = .pleat := by
  simp [reportedOf, hhalt, hseam, h]

theorem reportedOf_noEnd (hhalt : f.halt = false) (hseam : f.seam = false) (hpleat : f.pleat = false) (h : f.noEnd = true) :
    reportedOf f o = .noEnd := by
  simp [reportedOf, hhalt, hseam, hpleat, h]

end

/-- Settles O60: the sample timer, an entry, a leaving, and the verdicts. -/
theorem spansPassTheChest : Obligations.SpansPassTheChest := by
  unfold Obligations.SpansPassTheChest
  refine ⟨fun s htimer => ⟨_, exec_sampleTimer htimer, rfl, rfl, List.length_map _, fun i sp hi => ?_⟩,
    fun s i sp sp' hfind hi hsp' => ?_, fun s i sp sp' v tl st w hfind hi hphase hsp' hroom => ?_,
    fun s v tl st f o => ⟨verdictOf_overset, fun hle => ?_, reportedOf_halt o, reportedOf_seam o, reportedOf_pleat o, reportedOf_noEnd o,
      fun hhalt hseam hpleat hend => by cases o <;> simp [reportedOf, hhalt, hseam, hpleat, hend, Reported.code]⟩⟩
  · have hmapped : (s.map.spans.map (Span.sampleTick (coldest s)))[i]? = some (sp.sampleTick (coldest s)) := by
      rw [List.getElem?_map, hi, Option.map_some]
    refine ⟨fun happ => ?_, fun v tl st hin => ?_⟩
    · rw [sampleTick_approaching happ] at hmapped
      exact hmapped
    · obtain ⟨tl', htick, hmin, hcold⟩ := sampleTick_inChest (cold := coldest s) hin
      rw [htick] at hmapped
      exact ⟨tl', hmapped, hmin, hcold⟩
  · have henters : s.enters sp = sp' := (enters_eq s sp).trans hsp'.symm
    have hkind : sp'.kind = sp.kind := by rw [hsp']
    have hstart : sp'.start = sp.start := by rw [hsp']
    have hlength : sp'.length = sp.length := by rw [hsp']
    obtain ⟨hmap, hpos⟩ := spanEntry_enters hfind hi
    have hplaces : ∀ f, s.conf.lineEnd = false → s.msg.room = true → spanStart sp' = some f →
        (spanEntry sp.start s).msg = s.msg.place f := fun f hend hroom hf =>
      spanEntry_places hfind hi hend hroom (by rw [henters]; exact hf)
    show (spanEntry sp.start s).map.spans = _ ∧ (spanEntry sp.start s).pos.watches = _ ∧ _
    rw [hmap, hpos]
    refine ⟨by rw [← henters]; rfl, rfl, fun hsilent => ?_, fun id slot grade hk hend hroom => ?_, fun e u hk hend hroom => ?_⟩
    · have hquiet : spanEntry sp.start s = s.entered i sp := spanEntry_silent hfind hi (hsilent.imp_right fun hseam => by
        rw [henters]
        refine spanStart_seam ?_
        rw [← hseam, hsp']
        rfl)
      show (spanEntry sp.start s).msg = _
      rw [hquiet]
      rfl
    · have hframe := spanStart_panel (hkind.trans hk)
      rw [hstart, hlength] at hframe
      exact hplaces _ hend hroom hframe
    · have hframe := spanStart_gap (hkind.trans hk)
      rw [hstart, hlength] at hframe
      exact hplaces _ hend hroom hframe
  · have hleaves : sp.leaves = sp' := (leaves_eq sp).trans hsp'.symm
    have hkind : sp'.kind = sp.kind := by rw [hsp']
    have hphase' : sp'.phase = .inChest v tl st := by rw [hsp']; exact hphase
    have hleave : spanLeave sp.start s = { s with msg := s.msg.place (spanEnd s sp'), map.spans := s.map.spans.eraseIdx i } := by
      rw [spanLeave_found hfind hi, hleaves, postLasting_room hroom]
    show (spanLeave sp.start s).map.spans = _ ∧ _
    have hmsg : (deliver ⟨.map, w, .spanLeave sp.start⟩ s).msg = s.msg.place (spanEnd s sp') := congrArg (fun u : State => u.msg) hleave
    rw [hmsg, hleave]
    refine ⟨rfl, fun id slot grade hk => ?_, fun e u hk => ?_, fun e hk => ?_⟩
    · rw [spanEnd_panel (hkind.trans hk) hphase']
    · rw [spanEnd_gap (hkind.trans hk)]
    · rw [spanEnd_seam (hkind.trans hk), hsp']
  · have hnot : ¬s.conf.standstillLimit < st := not_lt.mpr hle
    refine ⟨?_, ?_⟩
    · rintro (rfl | ⟨T, rfl, hd⟩ | ⟨T, d, rfl, hd, hv, hshort⟩)
      · exact verdictOf_cold hnot
      · exact verdictOf_tooCold hnot hd
      · rw [verdictOf_dwell hnot hd, if_pos ⟨hv, hshort⟩]
    · rintro T d rfl hd hlong
      rw [verdictOf_dwell hnot hd, if_neg]
      rintro ⟨hv, hshort⟩
      rcases hlong with h0 | hle
      · exact hv h0
      · omega

end

end Sys2Proof.Machine
end
